-- ==== Sys2Proof/Word.lean ====
section
/-!
DEFINITION. The octet, and the two containers the tables of the switch are held in: a list of fixed length
(`Vector`) and a map over it that reduces by structural recursion.
-/

namespace Sys2Proof

/-- One octet, as the links carry it (00_scope.md 1-3). -/
abbrev Octet := BitVec 8

/-- Apply `f` to every place of a table. It is `Vector.map`, written over the list so that it evaluates by
structural recursion. -/
def tableMap {α β : Type} {n : Nat} (f : α → β) (v : Vector α n) : Vector β n :=
  ⟨⟨v.toList.map f⟩, by simp⟩

theorem tableMap_eq_map {α β : Type} {n : Nat} (f : α → β) (v : Vector α n) : tableMap f v = v.map f := by
  apply Vector.toList_inj.mp
  simp [tableMap, Vector.toList]

@[simp] theorem tableMap_getElem {α β : Type} {n : Nat} (f : α → β) (v : Vector α n) (i : Nat) (h : i < n) :
    (tableMap f v)[i] = f v[i] := by
  rw [tableMap_eq_map]; simp

end Sys2Proof
end

