-- ==== Sys2Proof/Syntax.lean ====
section
/-!
DEFINITION. The commands of the switch: one constructor of `Instr` for each row of spec/opcode_table.json, with the
operands the row's rules give it. A command that delivers a message carries the message's fields; the link unit it
comes from is named by the operand too.
-/

namespace Sys2Proof

/-- The number of a call record (R1). -/
abbrev CallNo := Fin 16

/-- A link of the switch (Table 1-2). -/
inductive LinkId where
  | panel (p : Fin 4)
  | riser (r : Fin 8)
  | trunk
  deriving DecidableEq, Repr

/-- A party (Table 1-3): a station, a handset or a desk position. -/
inductive Party where
  | station (p : Fin 4) (st : Fin 2)
  | handset (r : Fin 8) (a : Fin 63)
  | position (q : Fin 6)
  deriving DecidableEq, Repr

/-- A message as a queue holds it: address, type and payload (R161, R166). -/
structure Message where
  addr : Octet
  type : Octet
  payload : List Octet
  deriving DecidableEq, Repr

/-- The state a handset reports in HELLO (R62). -/
inductive HandsetReport where
  | idle
  | ringing
  | talking
  deriving DecidableEq, Repr

/-- The sender of a message that handsets and positions share (Table 9-6). A position's address is an octet: an address
above 5 names no position (R4). -/
inductive Talker where
  | handset (r : Fin 8) (a : Fin 63)
  | position (a : Octet)
  deriving DecidableEq, Repr

/-- A code as four octets: the length and six digit places, two to an octet (R175). -/
structure CodeField where
  length : Octet
  places12 : Octet
  places34 : Octet
  places56 : Octet
  deriving DecidableEq, Repr

/-- The commands. -/
inductive Instr where
  /-- POWER_ON (R142). -/
  | powerOn
  /-- UPSTREAM_FRAME (R144): the line bits that arrive on a link in one frame period, the first to arrive first (Table
  8-2, R142). -/
  | upstreamFrame (l : LinkId) (bits : List Bool)
  /-- DOWNSTREAM_FRAME (R143). -/
  | downstreamFrame (l : LinkId)
  /-- VOICE_FRAME_PERIOD (R113). -/
  | voiceFramePeriod
  /-- HANG_COUNTER_EXPIRY (R116). -/
  | hangCounterExpiry (n : CallNo)
  /-- TURN_BEGIN (R54). -/
  | turnBegin (r : Fin 8)
  /-- TURN_TIMEOUT (R55). -/
  | turnTimeout (r : Fin 8)
  /-- TURN_LIMIT (R55). -/
  | turnLimit (r : Fin 8)
  /-- KEY_DIGIT (R5): a digit key from address `a` of panel `p`. -/
  | keyDigit (p : Fin 4) (a : Octet) (d : Fin 10)
  /-- KEY_CALL (R7). -/
  | keyCall (p : Fin 4) (a : Octet)
  /-- KEY_CANCEL (R7). -/
  | keyCancel (p : Fin 4) (a : Octet)
  /-- KEY_DESK (R5). -/
  | keyDesk (p : Fin 4) (a : Octet)
  /-- DOOR_OPEN (R129). -/
  | doorOpen (p : Fin 4) (a : Octet)
  /-- DOOR_SHUT (R130). -/
  | doorShut (p : Fin 4) (a : Octet)
  /-- HELLO (R62): the handset's state and its quiet state. -/
  | hello (r : Fin 8) (a : Fin 63) (report : HandsetReport) (quiet : Bool)
  /-- ANSWER (R17). -/
  | answer (t : Talker)
  /-- HANGUP (R25). -/
  | hangup (t : Talker)
  /-- OPEN_DOOR (R126). -/
  | openDoor (t : Talker)
  /-- CALL_DESK (R21). -/
  | callDesk (r : Fin 8) (a : Fin 63)
  /-- QUIET (R63): on or off. -/
  | quiet (r : Fin 8) (a : Fin 63) (on : Bool)
  /-- EXTEND (R103). -/
  | extend (t : Talker)
  /-- LOGON (R64). -/
  | logon (a : Octet)
  /-- LOGOFF (R65). -/
  | logoff (a : Octet)
  /-- DIAL (R22). -/
  | dial (a : Octet) (code : CodeField)
  /-- JOIN (R23): the call number as sent, 0-255. -/
  | join (a : Octet) (call : Octet)
  /-- CATALOGUE_DISCARD (R165): a party message that does not fit the catalogue of its link. -/
  | catalogueDiscard (l : LinkId) (m : Message)
  /-- LOST_MARKER (R28). -/
  | lostMarker (l : LinkId)
  /-- MANAGEMENT_REFUSED (R179): a message at address 63 from a link outside the origin set. -/
  | managementRefused (l : LinkId) (type : Octet) (args : List Octet)
  /-- UNKNOWN_REQUEST (R181): a message at address 63 whose type is no request type. -/
  | unknownRequest (l : LinkId) (type : Octet) (args : List Octet)
  /-- START (R183). The requests carry the link they come from and their payload octets. -/
  | start (l : LinkId) (args : List Octet)
  /-- STOP (R184). -/
  | stop (l : LinkId) (args : List Octet)
  /-- RESTART (R193). -/
  | restart (l : LinkId) (args : List Octet)
  /-- STATUS (R191). -/
  | status (l : LinkId) (args : List Octet)
  /-- SET (R186). -/
  | set (l : LinkId) (args : List Octet)
  /-- GET (R186). -/
  | get (l : LinkId) (args : List Octet)
  /-- DIR_PUT (R37). -/
  | dirPut (l : LinkId) (args : List Octet)
  /-- DIR_DEL (R38). -/
  | dirDel (l : LinkId) (args : List Octet)
  /-- DIR_GET (R39). -/
  | dirGet (l : LinkId) (args : List Octet)
  /-- DIR_NEXT (R40). -/
  | dirNext (l : LinkId) (args : List Octet)
  /-- PARTY_GET (R70). -/
  | partyGet (l : LinkId) (args : List Octet)
  /-- PARTY_SET (R71). -/
  | partySet (l : LinkId) (args : List Octet)
  /-- CALL_GET (R30). -/
  | callGet (l : LinkId) (args : List Octet)
  /-- CALL_CLEAR (R30). -/
  | callClear (l : LinkId) (args : List Octet)
  /-- LINK_GET (R156). -/
  | linkGet (l : LinkId) (args : List Octet)
  /-- LINK_RESET (R155). -/
  | linkReset (l : LinkId) (args : List Octet)
  /-- CLEAR_COUNTS (R156). -/
  | clearCounts (l : LinkId) (args : List Octet)
  /-- JOURNAL_READ (R140). -/
  | journalRead (l : LinkId) (args : List Octet)
  /-- ACK_ATTENTION (R190). -/
  | ackAttention (l : LinkId) (args : List Octet)
  /-- SET_TIME (R192). -/
  | setTime (l : LinkId) (args : List Octet)
  /-- DIGIT_TIMER_EXPIRY (R92). -/
  | digitTimerExpiry (n : CallNo)
  /-- SEEK_TIMER_EXPIRY (R94). -/
  | seekTimerExpiry (n : CallNo)
  /-- CAMP_TIMER_EXPIRY (R95). -/
  | campTimerExpiry (n : CallNo)
  /-- ALERT_TIMER_EXPIRY (R96). -/
  | alertTimerExpiry (n : CallNo)
  /-- DESK_RING_EXPIRY (R98). -/
  | deskRingExpiry (n : CallNo)
  /-- DESK_WAIT_EXPIRY (R99). -/
  | deskWaitExpiry (n : CallNo)
  /-- TALK_COUNT_WARNING (R101). -/
  | talkCountWarning (n : CallNo)
  /-- TIME_LIMIT (R102). -/
  | timeLimit (n : CallNo)
  /-- RELEASE_TIMER_EXPIRY (R131). -/
  | releaseTimerExpiry (p : Fin 4)
  /-- HELD_OPEN_EXPIRY (R133). -/
  | heldOpenExpiry (p : Fin 4)
  /-- HOLD_OFF_WAIT_EXPIRY (R168). -/
  | holdOffWaitExpiry (l : LinkId)
  /-- SECONDS_TICK (R192). -/
  | secondsTick
  /-- CHANNEL_GRANT (R77). -/
  | channelGrant (r : Fin 8) (c : Fin 4)
  /-- CAMP_WAKE (R68). -/
  | campWake (r : Fin 8) (a : Fin 63)
  /-- DESK_QUEUE_WAKE (R88). -/
  | deskQueueWake
  /-- DRAIN_END (R184). -/
  | drainEnd
  /-- RESET_ASSERTED (R142). -/
  | resetAsserted
  deriving DecidableEq, Repr

end Sys2Proof
end

