-- ==== Sys2Proof/Config.lean ====
section
/-!
DEFINITION. What the manual fixes once for the part (the special octets of its links, the sizes of its queues and
tables, the frame periods in its units of time), and the FREE VALUES: constants without a body, one for each value
the manual leaves unstated. Nothing can evaluate a free value or prove what it is.
-/

namespace Sys2Proof.Config

/-- The marker octet of a frame (R143). -/
def marker : Octet := 0x5A#8
/-- The delimiter of a message (R158). -/
def delimiter : Octet := 0xE7#8
/-- The escape octet (R158). -/
def escape : Octet := 0xE6#8
/-- The management address, and the broadcast address on a riser (9-1). -/
def managementAddress : Octet := 63#8

/-- The line bits of one octet: a start bit, eight data bits, a stop bit (Table 8-2). -/
def lineBitsPerOctet : Nat := 10
/-- Places of a receive queue (R162). -/
def receivePlaces : Nat := 4
/-- Places of a transmit queue (R166). -/
def transmitPlaces : Nat := 8
/-- Entries of the directory (R34). -/
def directoryPlaces : Nat := 1024
/-- Records of the release journal (R137). -/
def journalPlaces : Nat := 64
/-- Calls on one watch list (R67). -/
def watchPlaces : Nat := 2
/-- The top of the link, refusal and overwrite counters (R154, R179, R137). -/
def counterTop : Nat := 65535

/-- Frame periods of 125 us in a step of 100 ms (R90, R142). -/
def framesPerStep : Nat := 800
/-- Frame periods in a second (R142). -/
def framesPerSecond : Nat := 8000
/-- Frame periods in the 2 ms in which a turn may be answered (R55). -/
def turnFrames : Nat := 16
/-- Frame periods in the 10 ms that bound an answered turn (R55). -/
def turnLimitFrames : Nat := 80

/-- FREE VALUE (log 14): an octet the manual says is sent and does not state, one for each use. -/
opaque freeOctet : Nat → Octet
/-- FREE VALUE (log 15): the octet PARTY_GET sends for a handset's presence; the manual gives no code for it. -/
opaque presenceOctet : Bool → Octet
/-- FREE VALUE (log 15): the octet PARTY_GET sends for a position's logon state; the manual gives no code for it. -/
opaque logonOctet : Bool → Octet
/-- FREE VALUE (log 13): whether a call whose release by code the door unit refused clears with ACCESS_DONE (yes) or
ACCESS_DENIED (no), one for each such call. -/
opaque refusedAccessDone : Nat → Bool

end Sys2Proof.Config
end

