-- ==== Sys2Proof/Machine/State.lean ====
section
/-!
DEFINITION. The state of the switch as plain data: the link units, the call table, the directory, the party table, the
channel allocator, the doors and the journal, the management agent, the RESET input, and the queue of waiting
commands; the reasons a step can stop; and the state after power-on.
-/

namespace Sys2Proof.Machine

/-- No command of this block faults: the manual names no condition that stops the switch (INVENTORY.md, Faults). The
type has no constructor, so that no step can answer one: safe. -/
inductive Fault where
  deriving DecidableEq, Repr

/-- The reasons a command is refused. -/
inductive Refusal where
  /-- Raised by `exec` alone, for a command that has no meaning yet; no arm uses it now. Safe. -/
  | notModelled (mnemonic : String)
  deriving DecidableEq, Repr

/-! ### Link units -/

/-- The state of a link (R146). -/
inductive LinkState where
  | down
  | up
  | impaired
  deriving DecidableEq, Repr

/-- The stages of message assembly: HUNTING, OPEN, COLLECTING (R160). -/
inductive AssemblyStage where
  | hunting
  | opened
  | collecting
  deriving DecidableEq, Repr

/-- The assembly stage of a link unit (R160). -/
structure Assembly where
  stage : AssemblyStage
  body : List Octet
  escape : Bool
  deriving DecidableEq, Repr

/-- What a line receiver is about (R142): at rest after a 1, so that a 0 is a start bit; past a stop bit that arrived as
0, until a 1 arrives; or within an octet, with its start bit and the data bits so far, the first received first. A place on
the line is counted in line bits from the first one of the frame period that follows, so that it is negative for one that
has passed. -/
inductive Receiver where
  | rest
  | broken
  | data (start : Int) (bits : List Bool)
  deriving DecidableEq, Repr

/-- An octet recovered from the line: the place of its start bit, and its data (R142). -/
structure Arrival where
  start : Int
  octet : Octet
  deriving DecidableEq, Repr

/-- An entry of a receive queue (R162): a message or the LOST marker (R153). -/
inductive RxEntry where
  | message (m : Message)
  | lost
  deriving DecidableEq, Repr

/-- A link unit (chapters 8 and 9). -/
structure LinkUnit where
  /-- The link state (R146). -/
  state : LinkState
  /-- The line receiver (R142). -/
  receiver : Receiver
  /-- Frame periods begun by the link unit's own clock and not yet hunted or classed (R144). -/
  unclassed : Nat
  /-- The held alignment: the line bit of the frame period at which a frame of the partner starts; none while DOWN (R144,
  R145). -/
  alignment : Option Nat
  /-- Whether the frame that is arriving is the sixteenth of an acquisition, which is not classed (R145). -/
  acquiring : Bool
  /-- The octets of the frame that is arriving which earlier frame periods have brought (R142, R145). -/
  gathered : List Arrival
  /-- While DOWN: the octets seen since the last marker found, if there is a candidate alignment (R145). -/
  candidate : Option Nat
  /-- The marker run, 0-16 (R145). -/
  markerRun : Nat
  /-- Lost frames in a row, 0-8 (R146). -/
  lostRun : Nat
  /-- Good frames in a row while IMPAIRED, 0-64 (R146). -/
  goodRun : Nat
  /-- Whether each of the last 7 frame periods brought a bad frame, newest first; a shorter list stands for good or lost
  periods before it (R146). -/
  history : List Bool
  assembly : Assembly
  /-- The receive queue, head first (R162). -/
  rx : List RxEntry
  /-- The holding slot (R162). -/
  holding : Option Message
  /-- The transmit queue, head first; the message being sent stays at the head (R166). -/
  tx : List Message
  /-- The signalling octets of the head still to be sent, its closing delimiter last; none when no message is being
  sent (R167). -/
  sending : Option (List Octet)
  /-- Whether the signalling octet sent last was a delimiter (R167). -/
  lastDelimiter : Bool
  /-- Frame periods left of the 1 s wait of a head kept by partner hold-off (R168). -/
  holdOffWait : Option Nat
  /-- The partner hold-off (R150). -/
  partnerHoldOff : Bool
  badFrames : Nat
  checkErrors : Nat
  overruns : Nat
  txDrops : Nat
  /-- The last good octet of each upstream voice channel (R108). -/
  lastGood : List Octet
  /-- The presented octet of each upstream voice channel (R108). -/
  presented : List Octet
  /-- The octet the crosspoint handed last for each downstream voice channel (R109). -/
  handed : List Octet
  /-- The line output: none at the stop level, else the octets of the last downstream frame (R142, R143). -/
  line : Option (List Octet)
  deriving DecidableEq, Repr

/-! ### Calls -/

/-- The states of a call (Table 1-5). -/
inductive CallState where
  | idle
  | dialling
  | seeking
  | camped
  | queued
  | alerting
  | talking
  deriving DecidableEq, Repr

/-- The kinds of call (Table 1-5). -/
inductive CallKind where
  | entrance
  | resident
  | desk
  deriving DecidableEq, Repr

/-- The causes of clearing (Table 1-9). -/
inductive Cause where
  | callerCancel
  | callerHungup
  | targetHungup
  | unknown
  | barred
  | busy
  | quiet
  | absent
  | noAnswer
  | declined
  | congestion
  | noDesk
  | timeLimit
  | linkLost
  | forced
  | restart
  | accessDone
  | accessDenied
  deriving DecidableEq, Repr

/-- The PROGRESS values (Table 9-2). -/
inductive Progress where
  | ringback
  | wait
  | busy
  | unknown
  | barred
  | unavailable
  | noReply
  | talk
  | warn
  | cleared
  | closed
  | opened
  | denied
  deriving DecidableEq, Repr

/-- The reasons of RING_STOP (R172). -/
inductive StopReason where
  | answeredElsewhere
  | declined
  | timeout
  | callerLeft
  deriving DecidableEq, Repr

/-- The classes of CLEAR (R172). -/
inductive ClearKind where
  | normal
  | unknown
  | busy
  | unavailable
  | noReply
  | timeLimit
  | linkLost
  | forced
  | restart
  deriving DecidableEq, Repr

/-- The values of REPLY (R172). -/
inductive Reply where
  | accepted
  | already
  | refused
  | warn
  deriving DecidableEq, Repr

/-- A code: its digits, the first keyed first (00_scope.md, Dialled codes). -/
abbrev Code := List Nat

/-- The targets of a call: handsets in list order, or the desk (R1). -/
inductive Targets where
  | flat (handsets : List (Fin 8 × Fin 63))
  | desk
  deriving DecidableEq, Repr

/-- The resolved copy of a call (R1, R44). `fallback` is yes for DESK. -/
structure Resolved where
  targets : Targets
  fallback : Bool
  camp : Bool
  duplex : Bool
  alertTime : Nat
  code : Code
  deriving DecidableEq, Repr

/-- The timers the state count may carry (R90). -/
inductive StateTimer where
  | digit
  | camp
  | alert
  | deskRing
  deriving DecidableEq, Repr

/-- The timers the wait count may carry (R90). -/
inductive WaitTimer where
  | seek
  | deskWait
  deriving DecidableEq, Repr

/-- A loaded state count: its timer and its remaining time in frame periods (R90; log 5). -/
structure StateCount where
  timer : StateTimer
  frames : Nat
  deriving DecidableEq, Repr

/-- A loaded wait count: its timer, its remaining time in frame periods, and whether it is held (R90, R93). -/
structure WaitCount where
  timer : WaitTimer
  frames : Nat
  held : Bool
  deriving DecidableEq, Repr

/-- The talk count: signed seconds, and the frame periods left of the present second (R101). -/
structure TalkCount where
  seconds : Int
  frames : Nat
  deriving DecidableEq, Repr

/-- The voice modes (R112). -/
inductive VoiceMode where
  | switched
  | duplex
  | mixed
  deriving DecidableEq, Repr

/-- The directions of voice switching (R115). -/
inductive Direction where
  | neutral
  | entrance
  | inside
  deriving DecidableEq, Repr

/-- The voice state of a call in TALKING (R111). Its channels are those of the call's parties (Table 6-4). -/
structure Voice where
  mode : VoiceMode
  originMeter : Nat
  answererMeter : Nat
  joinedMeter : Option Nat
  direction : Direction
  hang : Nat
  deriving DecidableEq, Repr

/-- A call record (Table 1-5), with its voice state (R111). -/
structure CallRecord where
  state : CallState
  kind : Option CallKind
  origin : Option Party
  digits : Code
  resolved : Option Resolved
  alerted : List Party
  reservations : List (Fin 8 × Fin 4)
  answerer : Option Party
  joined : Option (Fin 6)
  forwarded : Bool
  extended : Bool
  lastProgress : Option Progress
  ringCadence : Option (Fin 4)
  stateCount : Option StateCount
  waitCount : Option WaitCount
  talk : Option TalkCount
  graceBound : Option Nat
  releases : Nat
  lastCause : Option Cause
  voice : Option Voice
  /-- The voice state as it stood in the latest frame period completed in this conversation (R124). -/
  lastPeriod : Option Voice
  deriving DecidableEq, Repr

/-- The power-on value of a call record (R2). -/
def CallRecord.blank : CallRecord :=
  { state := .idle, kind := none, origin := none, digits := [], resolved := none, alerted := [], reservations := [],
    answerer := none, joined := none, forwarded := false, extended := false, lastProgress := none, ringCadence := none,
    stateCount := none, waitCount := none, talk := none, graceBound := none, releases := 0, lastCause := none,
    voice := none, lastPeriod := none }

/-! ### Directory -/

/-- The fields of an entry that belong to its kind (Table 2-1). `fallback` is yes for DESK. -/
inductive EntryBody where
  | flat (targets : List (Fin 8 × Fin 63)) (fallback camp duplex : Bool) (alertTime : Nat)
  | desk
  | access (uses : Nat)
  | barred
  deriving DecidableEq, Repr

/-- A directory entry (Table 2-1): panel `p` is in the entrances set when bit `p` is set. -/
structure Entry where
  code : Code
  entrances : BitVec 4
  body : EntryBody
  deriving DecidableEq, Repr

/-! ### Parties -/

/-- A handset record (Table 3-1). -/
structure Handset where
  present : Bool
  misses : Nat
  quiet : Bool
  engaged : Option CallNo
  watch : List CallNo
  deriving DecidableEq, Repr

/-- A position record (R51). -/
structure Position where
  loggedOn : Bool
  engaged : Option CallNo
  deriving DecidableEq, Repr

/-- The kinds of turn (R53). -/
inductive TurnKind where
  | roll
  | engaged
  deriving DecidableEq, Repr

/-- A turn in progress (R53, R55): the granted address, the kind, whether it is answered, and how many downstream frames
have carried its grant. -/
structure Turn where
  addr : Fin 63
  kind : TurnKind
  answered : Bool
  frames : Nat
  deriving DecidableEq, Repr

/-- A riser's grant scheduler (R53). -/
structure Scheduler where
  lastRolled : Fin 63
  lastServed : Fin 63
  nextKind : TurnKind
  turn : Option Turn
  deriving DecidableEq, Repr

/-! ### Doors and the journal -/

/-- The states of a door (R125). -/
inductive DoorState where
  | locked
  | released
  | opened
  deriving DecidableEq, Repr

/-- A door record (R125): its timers hold frame periods left, or are stopped. -/
structure Door where
  state : DoorState
  releaseTimer : Option Nat
  heldOpenTimer : Option Nat
  deriving DecidableEq, Repr

/-- Who asked for a release (Table 7-3). -/
inductive ReleaseKind where
  | byResident
  | byDesk
  | byCode
  deriving DecidableEq, Repr

/-- A journal record (Table 7-3). -/
structure JournalRecord where
  sequence : Nat
  stamp : Nat
  panel : Fin 4
  station : Fin 2
  kind : ReleaseKind
  granting : Option Party
  code : Code
  deriving DecidableEq, Repr

/-! ### Management -/

/-- The modes (R182). -/
inductive Mode where
  | standby
  | run
  | draining
  deriving DecidableEq, Repr

/-- The parameters of Table 10-2. -/
structure Params where
  digitTime : Nat
  seekTime : Nat
  campTime : Nat
  alertTime : Nat
  deskRing : Nat
  deskWait : Nat
  talkLimit : Nat
  grace : Nat
  panelGain : Vector Nat 4
  riserGain : Vector Nat 8
  trunkGain : Nat
  switchLoss : Nat
  speechThreshold : Nat
  hangTime : Nat
  releaseTime : Nat
  heldLimit : Nat
  journalThreshold : Nat
  stations : Vector Nat 4
  cadence : Vector (Fin 4) 4
  originSet : BitVec 16
  noticeMask : BitVec 16
  deriving DecidableEq, Repr

/-- The defaults of Table 10-2. -/
def Params.default : Params :=
  { digitTime := 50, seekTime := 10, campTime := 60, alertTime := 30, deskRing := 15, deskWait := 90, talkLimit := 3,
    grace := 15, panelGain := Vector.replicate 4 0, riserGain := Vector.replicate 8 0, trunkGain := 0, switchLoss := 4,
    speechThreshold := 96, hangTime := 100, releaseTime := 50, heldLimit := 60, journalThreshold := 16,
    stations := Vector.replicate 4 2, cadence := #v[0, 1, 2, 3], originSet := 0x1000#16, noticeMask := 0#16 }

/-! ### The whole state -/

/-- The state of the switch. INVENTORY.md names the rule of each field. -/
structure State where
  links : Vector LinkUnit 13
  calls : Vector CallRecord 16
  directory : List Entry
  handsets : Vector (Vector Handset 63) 8
  stations : Vector (Vector (Option CallNo) 2) 4
  positions : Vector Position 6
  schedulers : Vector Scheduler 8
  channels : Vector (Vector (Option CallNo) 4) 8
  seekQueues : Vector (List CallNo) 8
  deskQueue : List CallNo
  idleOrder : List (Fin 6)
  doors : Vector Door 4
  journal : List JournalRecord
  journalSeq : Nat
  overwrites : Nat
  mode : Mode
  params : Params
  attention : BitVec 8
  seconds : Nat
  secondLeft : Nat
  refusals : Nat
  resetLow : Bool
  freeIndex : Nat
  pending : List Instr
  deriving DecidableEq, Repr

/-- A link unit with `channels` voice channels after power-on (R142, R146, R160, R162, R166, R108). -/
def LinkUnit.reset (channels : Nat) : LinkUnit :=
  { state := .down, receiver := .rest, unclassed := 0, alignment := none, acquiring := false, gathered := [],
    candidate := none, markerRun := 0, lostRun := 0, goodRun := 0, history := [],
    assembly := { stage := .hunting, body := [], escape := false }, rx := [], holding := none, tx := [],
    sending := none, lastDelimiter := false, holdOffWait := none, partnerHoldOff := false, badFrames := 0,
    checkErrors := 0, overruns := 0, txDrops := 0, lastGood := List.replicate channels 0#8,
    presented := List.replicate channels 0#8, handed := List.replicate channels 0#8, line := none }

/-- The switch after power-on (R142): the values each chapter states, and no command waiting. -/
def State.reset : State :=
  { links := #v[LinkUnit.reset 2, LinkUnit.reset 2, LinkUnit.reset 2, LinkUnit.reset 2,
      LinkUnit.reset 4, LinkUnit.reset 4, LinkUnit.reset 4, LinkUnit.reset 4,
      LinkUnit.reset 4, LinkUnit.reset 4, LinkUnit.reset 4, LinkUnit.reset 4, LinkUnit.reset 6]
    calls := Vector.replicate 16 CallRecord.blank
    directory := []
    handsets := Vector.replicate 8 (Vector.replicate 63
      { present := false, misses := 0, quiet := false, engaged := none, watch := [] })
    stations := Vector.replicate 4 (Vector.replicate 2 none)
    positions := Vector.replicate 6 { loggedOn := false, engaged := none }
    schedulers := Vector.replicate 8 { lastRolled := 62, lastServed := 62, nextKind := .roll, turn := none }
    channels := Vector.replicate 8 (Vector.replicate 4 none)
    seekQueues := Vector.replicate 8 []
    deskQueue := []
    idleOrder := []
    doors := Vector.replicate 4 { state := .locked, releaseTimer := none, heldOpenTimer := none }
    journal := []
    journalSeq := 0
    overwrites := 0
    mode := .standby
    params := Params.default
    attention := 0#8
    seconds := 0
    secondLeft := Config.framesPerSecond
    refusals := 0
    resetLow := false
    freeIndex := 0
    pending := [] }

end Sys2Proof.Machine
end

