-- ==== Sys2Proof/Machine/Messages.lean ====
section
/-!
DEFINITION. The formats of 09_signalling_messages.md: link codes, parties and codes in octets (R175), value codes
(Table 9-7), message types (Table 9-6), the check (R159), escaping (R158) and the catalogue (R165).
-/

namespace Sys2Proof

/-- The number of voice channels of a link, which is the same in both directions (Table 8-3). -/
def LinkId.voiceChannels : LinkId → Nat
  | .panel _ => 2
  | .riser _ => 4
  | .trunk => 6

/-- The octets of one frame of a link (Table 8-3). -/
def LinkId.frameOctets (l : LinkId) : Nat := 5 + l.voiceChannels

/-- The line bits of one frame period of a link (8-1). -/
def LinkId.frameBits (l : LinkId) : Nat := Config.lineBitsPerOctet * l.frameOctets

/-- The line bits of a frame period in which the line rests at the stop level (R144). -/
def LinkId.silentBits (l : LinkId) : List Bool := List.replicate l.frameBits true

/-- The link code (R175). -/
def LinkId.code : LinkId → Octet
  | .panel p => BitVec.ofNat 8 p.val
  | .riser r => BitVec.ofNat 8 (16 + r.val)
  | .trunk => 0x20#8

/-- The link a link code names, if any (R175); 0xFF, for all links, names none. -/
def LinkId.ofCode (o : Octet) : Option LinkId :=
  if h : o.toNat < 4 then some (.panel ⟨o.toNat, h⟩)
  else if h : 16 ≤ o.toNat ∧ o.toNat < 24 then some (.riser ⟨o.toNat - 16, by omega⟩)
  else if o = 0x20#8 then some .trunk
  else none

/-- The link that carries a party (Table 1-3). -/
def Party.link : Party → LinkId
  | .station p _ => .panel p
  | .handset r _ => .riser r
  | .position _ => .trunk

/-- A party's address on its link (Table 1-3). -/
def Party.addr : Party → Octet
  | .station _ st => BitVec.ofNat 8 st.val
  | .handset _ a => BitVec.ofNat 8 a.val
  | .position q => BitVec.ofNat 8 q.val

/-- The two octets that name a party, 0xFF 0xFF for an absent one (R175). -/
def partyOctets : Option Party → List Octet
  | some p => [p.link.code, p.addr]
  | none => [0xFF#8, 0xFF#8]

/-- The party that a link and an address name, if such a party can exist (R70). -/
def LinkId.party (l : LinkId) (a : Octet) : Option Party :=
  match l with
  | .panel p => if h : a.toNat < 2 then some (.station p ⟨a.toNat, h⟩) else none
  | .riser r => if h : a.toNat < 63 then some (.handset r ⟨a.toNat, h⟩) else none
  | .trunk => if h : a.toNat < 6 then some (.position ⟨a.toNat, h⟩) else none

/-- The party two octets name (R175, R181). -/
def partyOfOctets (code a : Octet) : Option Party :=
  (LinkId.ofCode code).bind fun l => l.party a

/-- Two octets, high octet first (9-5). -/
def be16 (n : Nat) : List Octet := [BitVec.ofNat 8 (n / 256), BitVec.ofNat 8 n]

/-- Four octets, high octet first (9-5). -/
def be32 (n : Nat) : List Octet := be16 (n / 65536) ++ be16 n

/-- The number two octets carry, high octet first (9-5). -/
def ofBe16 (hi lo : Octet) : Nat := hi.toNat * 256 + lo.toNat

/-- A flag of yes or no (R175). -/
def flagOctet (b : Bool) : Octet := if b then 0x01#8 else 0x00#8

/-- The flag an octet carries, if it has a meaning (R175). -/
def flagOfOctet (o : Octet) : Option Bool :=
  if o = 0x00#8 then some false else if o = 0x01#8 then some true else none

/-- An octet of two digit places, the first in bits 7-4 (R175). -/
def placesOctet (hi lo : Nat) : Octet := BitVec.ofNat 8 (hi * 16 + lo)

/-- A code in its four octets: the length, then six digit places, the unused ones 0xF (R175). -/
def codeOctets (c : Machine.Code) : List Octet :=
  [BitVec.ofNat 8 c.length,
   placesOctet (c.getD 0 15) (c.getD 1 15),
   placesOctet (c.getD 2 15) (c.getD 3 15),
   placesOctet (c.getD 4 15) (c.getD 5 15)]

/-- The digit places of a code field, in order (R175). -/
def CodeField.places (f : CodeField) : List Nat :=
  [f.places12.toNat / 16, f.places12.toNat % 16, f.places34.toNat / 16, f.places34.toNat % 16,
   f.places56.toNat / 16, f.places56.toNat % 16]

/-- The digits a code field carries: its used places (R175). -/
def CodeField.digits (f : CodeField) : Machine.Code := f.places.take f.length.toNat

/-- Whether every used digit is 0-9 (Table 2-3, code digits). -/
def digitsOk (c : Machine.Code) : Bool := c.all fun d => d ≤ 9

/-- The code a field carries when it passes the code length and code digit checks of Table 2-3. -/
def CodeField.code (f : CodeField) : Option Machine.Code :=
  if 1 ≤ f.length.toNat ∧ f.length.toNat ≤ 6 ∧ digitsOk f.digits = true then some f.digits else none

/-- The code, or the empty code, that DIR_NEXT carries (R40). -/
def CodeField.codeOrEmpty (f : CodeField) : Option Machine.Code :=
  if f.length.toNat ≤ 6 ∧ digitsOk f.digits = true then some f.digits else none

/-- The octets of a code field. -/
def CodeField.octets (f : CodeField) : List Octet := [f.length, f.places12, f.places34, f.places56]

/-- The code field that the first four octets of a payload hold (R175). -/
def codeFieldOf : List Octet → Option CodeField
  | a :: b :: c :: d :: _ => some ⟨a, b, c, d⟩
  | _ => none

/-! ### The message check and escaping -/

/-- One bit of the check (R159). -/
def crcBit (c : BitVec 16) : BitVec 16 := if c.getLsbD 15 then (c <<< 1) ^^^ 0x1021#16 else c <<< 1

/-- One octet of the check, most significant bit first (R159). -/
def crcOctet (c : BitVec 16) (o : Octet) : BitVec 16 :=
  crcBit (crcBit (crcBit (crcBit (crcBit (crcBit (crcBit (crcBit (c ^^^ (o.setWidth 16 <<< 8)))))))))

/-- The check over a list of octets (R159). -/
def crc (os : List Octet) : BitVec 16 := os.foldl crcOctet 0xFFFF#16

/-- The check in its two octets, high octet first (R159). -/
def crcOctets (os : List Octet) : List Octet := [((crc os) >>> 8).setWidth 8, (crc os).setWidth 8]

/-- Escaping of one body octet (R158). -/
def escapeOctet (o : Octet) : List Octet :=
  if o = Config.delimiter ∨ o = Config.escape then [Config.escape, o ^^^ 0x20#8] else [o]

/-- The octets the check of a message is taken over (R159). -/
def Message.content (m : Message) : List Octet := m.addr :: m.type :: m.payload

/-- The body of a message: address, type, payload, check (R158). -/
def Message.body (m : Message) : List Octet := m.content ++ crcOctets m.content

/-- The signalling octets of a message after its opening delimiter: the escaped body and the closing delimiter
(R167). -/
def Message.lineOctets (m : Message) : List Octet := m.body.flatMap escapeOctet ++ [Config.delimiter]

end Sys2Proof

namespace Sys2Proof.Machine

/-- The code of a PROGRESS value (Table 9-7). -/
def Progress.code : Progress → Octet
  | .ringback => 0x01#8
  | .wait => 0x02#8
  | .busy => 0x03#8
  | .unknown => 0x04#8
  | .barred => 0x05#8
  | .unavailable => 0x06#8
  | .noReply => 0x07#8
  | .talk => 0x08#8
  | .warn => 0x09#8
  | .cleared => 0x0A#8
  | .closed => 0x0B#8
  | .opened => 0x0C#8
  | .denied => 0x0D#8

/-- The code of a RING_STOP reason (Table 9-7). -/
def StopReason.code : StopReason → Octet
  | .answeredElsewhere => 0x01#8
  | .declined => 0x02#8
  | .timeout => 0x03#8
  | .callerLeft => 0x04#8

/-- The code of a CLEAR class (Table 9-7). -/
def ClearKind.code : ClearKind → Octet
  | .normal => 0x01#8
  | .unknown => 0x02#8
  | .busy => 0x03#8
  | .unavailable => 0x04#8
  | .noReply => 0x05#8
  | .timeLimit => 0x06#8
  | .linkLost => 0x07#8
  | .forced => 0x08#8
  | .restart => 0x09#8

/-- The code of a REPLY value (Table 9-7). -/
def Reply.code : Reply → Octet
  | .accepted => 0x01#8
  | .already => 0x02#8
  | .refused => 0x03#8
  | .warn => 0x04#8

/-- The statuses of a RESULT (R180). -/
inductive Status where
  | ok
  | badArgument
  | notFound
  | full
  | unknownRequest
  | refused
  | notNow
  deriving DecidableEq, Repr

/-- The code of a status (Table 9-7). -/
def Status.code : Status → Octet
  | .ok => 0x00#8
  | .badArgument => 0x01#8
  | .notFound => 0x02#8
  | .full => 0x03#8
  | .unknownRequest => 0x04#8
  | .refused => 0x05#8
  | .notNow => 0x06#8

/-- The request types (Table 9-6). -/
inductive Request where
  | start
  | stop
  | restart
  | status
  | set
  | get
  | dirPut
  | dirDel
  | dirGet
  | dirNext
  | partyGet
  | partySet
  | callGet
  | callClear
  | linkGet
  | linkReset
  | clearCounts
  | journalRead
  | ackAttention
  | setTime
  deriving DecidableEq, Repr

/-- The type octet of a request: 0x80-0x93 in the order of 9-5. -/
def Request.code : Request → Octet
  | .start => 0x80#8
  | .stop => 0x81#8
  | .restart => 0x82#8
  | .status => 0x83#8
  | .set => 0x84#8
  | .get => 0x85#8
  | .dirPut => 0x86#8
  | .dirDel => 0x87#8
  | .dirGet => 0x88#8
  | .dirNext => 0x89#8
  | .partyGet => 0x8A#8
  | .partySet => 0x8B#8
  | .callGet => 0x8C#8
  | .callClear => 0x8D#8
  | .linkGet => 0x8E#8
  | .linkReset => 0x8F#8
  | .clearCounts => 0x90#8
  | .journalRead => 0x91#8
  | .ackAttention => 0x92#8
  | .setTime => 0x93#8

/-- Whether a type is a request type (R181). -/
def isRequestType (t : Octet) : Bool := 0x80 ≤ t.toNat && t.toNat ≤ 0x93

/-! ### Messages the switch sends (Table 9-6) -/

/-- PROGRESS (R170). -/
def progressMsg (a : Octet) (v : Progress) : Message := ⟨a, 0x41#8, [v.code]⟩
/-- UNLOCK (R170). -/
def unlockMsg (a : Octet) (duration : Nat) : Message := ⟨a, 0x42#8, [BitVec.ofNat 8 duration]⟩
/-- RING to a handset: the entrance, 0x0F for DESK, and the cadence class (R172). -/
def ringHandsetMsg (a entrance cadence : Octet) : Message := ⟨a, 0x51#8, [entrance, cadence]⟩
/-- RING to a position: the call number and the origin party (R173). -/
def ringPositionMsg (a : Octet) (n : CallNo) (origin : Option Party) : Message :=
  ⟨a, 0x51#8, BitVec.ofNat 8 n.val :: partyOctets origin⟩
/-- RING_STOP (R172). -/
def ringStopMsg (a : Octet) (r : StopReason) : Message := ⟨a, 0x52#8, [r.code]⟩
/-- CONNECT (R172). -/
def connectMsg (a : Octet) (channel : Nat) : Message := ⟨a, 0x53#8, [BitVec.ofNat 8 channel]⟩
/-- CLEAR (R172). -/
def clearMsg (a : Octet) (k : ClearKind) : Message := ⟨a, 0x54#8, [k.code]⟩
/-- REPLY (R172). -/
def replyMsg (a : Octet) (v : Reply) : Message := ⟨a, 0x55#8, [v.code]⟩
/-- RESULT (R174): the type it answers, the status and the data. -/
def resultMsg (type : Octet) (st : Status) (data : List Octet) : Message :=
  ⟨Config.managementAddress, 0xC0#8, type :: st.code :: data⟩
/-- ATTENTION (R174). -/
def attentionMsg (set : Octet) : Message := ⟨Config.managementAddress, 0xC1#8, [set]⟩

/-! ### The catalogue (R165) -/

/-- Whether a station's message fits: KEY with a key code, DOOR with a contact code (R169, Table 9-7). -/
def fitsStation (m : Message) : Bool :=
  match m.payload with
  | [v] => (m.type == 0x01#8 && decide (v.toNat ≤ 12)) || (m.type == 0x02#8 && decide (v.toNat ≤ 1))
  | _ => false

/-- Whether a handset's message fits (R171, Table 9-7). -/
def fitsHandset (m : Message) : Bool :=
  match m.payload with
  | [] => m.type == 0x12#8 || m.type == 0x13#8 || m.type == 0x14#8 || m.type == 0x15#8 || m.type == 0x17#8
  | [v] => m.type == 0x16#8 && decide (v.toNat ≤ 1)
  | [v, w] => m.type == 0x11#8 && decide (v.toNat ≤ 2) && decide (w.toNat ≤ 1)
  | _ => false

/-- Whether a position's message fits (R173). Every octet of DIAL and JOIN is valid at the link unit. -/
def fitsPosition (m : Message) : Bool :=
  match m.payload with
  | [] => m.type == 0x12#8 || m.type == 0x13#8 || m.type == 0x14#8 || m.type == 0x17#8 || m.type == 0x21#8
      || m.type == 0x22#8
  | [_] => m.type == 0x24#8
  | [_, _, _, _] => m.type == 0x23#8
  | _ => false

/-- Whether a message bound for the call table fits the catalogue of the party kind of its link (R165). -/
def fitsCatalogue (l : LinkId) (m : Message) : Bool :=
  match l with
  | .panel _ => fitsStation m
  | .riser _ => fitsHandset m && decide (m.addr.toNat < 63)
  | .trunk => fitsPosition m

end Sys2Proof.Machine
end

