-- ==== Sys2Proof/Machine/Flags.lean ====
section
/-!
DEFINITION. The flags of the switch: the attention classes (R188), the pending set and the masked pending set.
-/

namespace Sys2Proof.Machine

/-- The attention classes (Table 10-3). -/
inductive AttentionClass where
  | link
  | party
  | fault
  | door
  | journal
  | congestion
  | mode
  deriving DecidableEq, Repr

/-- The bit of a class in an attention set (Table 9-7). -/
def AttentionClass.bit : AttentionClass → Octet
  | .link => 0x01#8
  | .party => 0x02#8
  | .fault => 0x04#8
  | .door => 0x08#8
  | .journal => 0x10#8
  | .congestion => 0x20#8
  | .mode => 0x40#8

/-- Raising a class adds it to the pending set, whatever the mask (R188). -/
def State.raise (s : State) (c : AttentionClass) : State := { s with attention := s.attention ||| c.bit }

/-- The masked pending set (R188). -/
def State.maskedPending (s : State) : Octet := s.attention &&& s.params.noticeMask.setWidth 8

/-- Whether the set `now` holds a class that the set `before` does not (R189). -/
def gains (before now : Octet) : Bool := now &&& ~~~before != 0#8

end Sys2Proof.Machine
end

