-- ==== Sys2Proof/Machine/Ops.lean ====
section
/-!
DEFINITION. The named operations over the tables of the state: reading and writing one record, counters, the transmit
and receive queues, the messages to parties, engagement and roles, the desk idle order's readings, the loading of
counts, and the end of an event.
-/

namespace Sys2Proof

/-- The place of a link in the link table: PL0-PL3, RL0-RL7, TL. -/
def LinkId.index : LinkId → Fin 13
  | .panel p => ⟨p.val, by omega⟩
  | .riser r => ⟨4 + r.val, by omega⟩
  | .trunk => ⟨12, by omega⟩

/-- The panels in number order. -/
def allPanels : List (Fin 4) := [0, 1, 2, 3]
/-- The risers in number order. -/
def allRisers : List (Fin 8) := [0, 1, 2, 3, 4, 5, 6, 7]
/-- The positions in number order. -/
def allPositions : List (Fin 6) := [0, 1, 2, 3, 4, 5]
/-- The calls in record-number order. -/
def allCalls : List CallNo := [0, 1, 2, 3, 4, 5, 6, 7, 8, 9, 10, 11, 12, 13, 14, 15]
/-- The channels of a riser in number order. -/
def allChannels : List (Fin 4) := [0, 1, 2, 3]
/-- The handset addresses of a riser in order. -/
def allAddresses : List (Fin 63) := List.finRange 63
/-- The links: PL0-PL3, RL0-RL7, TL. -/
def allLinks : List LinkId := allPanels.map .panel ++ allRisers.map .riser ++ [.trunk]

end Sys2Proof

namespace Sys2Proof.Machine

/-! ### Records -/

def State.link (s : State) (l : LinkId) : LinkUnit := s.links[l.index]
def State.setLink (s : State) (l : LinkId) (u : LinkUnit) : State := { s with links := s.links.set l.index u }

def State.call (s : State) (n : CallNo) : CallRecord := s.calls[n]
def State.setCall (s : State) (n : CallNo) (c : CallRecord) : State := { s with calls := s.calls.set n c }

def State.handset (s : State) (r : Fin 8) (a : Fin 63) : Handset := (s.handsets[r])[a]
def State.setHandset (s : State) (r : Fin 8) (a : Fin 63) (h : Handset) : State :=
  { s with handsets := s.handsets.set r ((s.handsets[r]).set a h) }

def State.station (s : State) (p : Fin 4) (st : Fin 2) : Option CallNo := (s.stations[p])[st]
def State.setStation (s : State) (p : Fin 4) (st : Fin 2) (c : Option CallNo) : State :=
  { s with stations := s.stations.set p ((s.stations[p]).set st c) }

def State.position (s : State) (q : Fin 6) : Position := s.positions[q]
def State.setPosition (s : State) (q : Fin 6) (x : Position) : State := { s with positions := s.positions.set q x }

def State.scheduler (s : State) (r : Fin 8) : Scheduler := s.schedulers[r]
def State.setScheduler (s : State) (r : Fin 8) (x : Scheduler) : State := { s with schedulers := s.schedulers.set r x }

def State.channel (s : State) (r : Fin 8) (c : Fin 4) : Option CallNo := (s.channels[r])[c]
def State.setChannel (s : State) (r : Fin 8) (c : Fin 4) (x : Option CallNo) : State :=
  { s with channels := s.channels.set r ((s.channels[r]).set c x) }

def State.seekQueue (s : State) (r : Fin 8) : List CallNo := s.seekQueues[r]
def State.setSeekQueue (s : State) (r : Fin 8) (q : List CallNo) : State := { s with seekQueues := s.seekQueues.set r q }

def State.door (s : State) (p : Fin 4) : Door := s.doors[p]
def State.setDoor (s : State) (p : Fin 4) (d : Door) : State := { s with doors := s.doors.set p d }

/-- A counter of 0-65535 that stops at its top (R154, R179, R137). -/
def countUp (n : Nat) : Nat := min (n + 1) Config.counterTop

/-! ### Sending -/

/-- A block puts a message for a link (R166, R152): on a DOWN link it is not put; with eight in the queue it is dropped,
counted and FAULT is raised; otherwise it joins the tail. -/
def State.put (s : State) (l : LinkId) (m : Message) : State :=
  if (s.link l).state = .down then s
  else if (s.link l).tx.length < Config.transmitPlaces then
    s.setLink l { s.link l with tx := (s.link l).tx ++ [m] }
  else (s.setLink l { s.link l with txDrops := countUp (s.link l).txDrops }).raise .fault

/-- PROGRESS to a station (R170). -/
def State.sendProgress (s : State) (p : Fin 4) (st : Fin 2) (v : Progress) : State :=
  s.put (.panel p) (progressMsg (Party.station p st).addr v)

/-- RING_STOP to a handset or position (R172). -/
def State.sendRingStop (s : State) (x : Party) (r : StopReason) : State := s.put x.link (ringStopMsg x.addr r)

/-- CLEAR to a handset or position (R172). -/
def State.sendClear (s : State) (x : Party) (k : ClearKind) : State := s.put x.link (clearMsg x.addr k)

/-- REPLY to a handset or position (R172). -/
def State.sendReply (s : State) (x : Party) (v : Reply) : State := s.put x.link (replyMsg x.addr v)

/-- CONNECT to a handset or position, naming a channel (R172). -/
def State.sendConnect (s : State) (x : Party) (channel : Nat) : State := s.put x.link (connectMsg x.addr channel)

/-- The end of an event: ATTENTION is put when the masked pending set has gained a class since `before`; a drop of it
that gains FAULT brings one more (R189). -/
def State.settle (s before : State) : State :=
  if gains before.maskedPending s.maskedPending then
    let t := s.put .trunk (attentionMsg s.maskedPending)
    if gains s.maskedPending t.maskedPending then t.put .trunk (attentionMsg t.maskedPending) else t
  else s

/-! ### The receive queue -/

/-- A complete good message joins the receive queue, or the holding slot, or overruns it (R162). -/
def State.enqueue (s : State) (l : LinkId) (m : Message) : State :=
  let u := s.link l
  if u.rx.length < Config.receivePlaces then s.setLink l { u with rx := u.rx ++ [.message m] }
  else if u.holding = none then s.setLink l { u with holding := some m }
  else (s.setLink l { u with holding := some m, overruns := countUp u.overruns }).raise .fault

/-- The head of the receive queue leaves it, and a held message moves to the tail (R162, R164). -/
def LinkUnit.dropHead (u : LinkUnit) : LinkUnit :=
  match u.holding with
  | some m => { u with rx := u.rx.tail ++ [.message m], holding := none }
  | none => { u with rx := u.rx.tail }

/-- The entry `e` leaves the receive queue of `l` if it still stands at its head; a queue that its own effect has
flushed is left as it is (R164, R152, R157; log 23). -/
def State.removeHead (s : State) (l : LinkId) (e : RxEntry) : State :=
  if (s.link l).rx.head? = some e then s.setLink l (s.link l).dropHead else s

/-- Whether the message `m` is the next delivery of link `l` (R164): it stands at the head of the receive queue; or the
queue is empty on a link that is not DOWN, and the command stands for its arrival and its delivery together (log 1). -/
def State.deliverable (s : State) (l : LinkId) (m : Message) : Bool :=
  match (s.link l).rx with
  | [] => decide ((s.link l).state ≠ .down)
  | e :: _ => decide (e = .message m)

/-- A check error is counted on a link (R154). -/
def State.countCheckError (s : State) (l : LinkId) : State :=
  s.setLink l { s.link l with checkErrors := countUp (s.link l).checkErrors }

/-! ### Parties -/

/-- Whether a station exists (R50). -/
def State.stationExists (s : State) (p : Fin 4) (a : Octet) : Bool :=
  decide ((s.link (.panel p)).state ≠ .down) && decide (a.toNat < s.params.stations[p])

/-- The call that engages a party, or that a station belongs to (R49, R50, R51). -/
def State.engagedBy (s : State) : Party → Option CallNo
  | .station p st => s.station p st
  | .handset r a => (s.handset r a).engaged
  | .position q => (s.position q).engaged

/-- A party's role in the call that engages it (R4). -/
inductive Role where
  | origin
  | alerted
  | answerer
  | joined
  deriving DecidableEq, Repr

/-- The role of a party in a call record, if it has one (R4). -/
def CallRecord.role (c : CallRecord) (x : Party) : Option Role :=
  if c.origin = some x then some .origin
  else if x ∈ c.alerted then some .alerted
  else if c.answerer = some x then some .answerer
  else if (c.joined.map Party.position) = some x then some .joined
  else none

/-- A party's call and role, from the engagement held in the party table and the call record (R4, R52). -/
def State.roleOf (s : State) (x : Party) : Option (CallNo × Role) :=
  (s.engagedBy x).bind fun n => ((s.call n).role x).map fun ro => (n, ro)

/-- The logged-on count (R51). -/
def State.loggedOnCount (s : State) : Nat := s.positions.toList.countP fun x => x.loggedOn

/-- Whether every call record is IDLE. -/
def State.allIdle (s : State) : Bool := s.calls.toList.all fun c => decide (c.state = .idle)

/-- The lowest-numbered IDLE record (R3). -/
def State.lowestIdle (s : State) : Option CallNo := allCalls.find? fun n => decide ((s.call n).state = .idle)

/-- A call engages a party (R52). Engaging a position takes it off the desk idle order. -/
def State.engage (s : State) (x : Party) (n : CallNo) : State :=
  match x with
  | .station p st => s.setStation p st (some n)
  | .handset r a => s.setHandset r a { s.handset r a with engaged := some n }
  | .position q =>
    { s.setPosition q { s.position q with engaged := some n } with idleOrder := s.idleOrder.filter (· ≠ q) }

/-! ### Counts (R90, R91) -/

/-- A state count loaded with a number of steps of 100 ms. -/
def loadState (t : StateTimer) (steps : Nat) : Option StateCount := some ⟨t, steps * Config.framesPerStep⟩

/-- A wait count loaded with a number of seconds. -/
def loadWait (t : WaitTimer) (secs : Nat) : Option WaitCount := some ⟨t, secs * 10 * Config.framesPerStep, false⟩

/-- A talk count loaded with TALK_LIMIT minutes, its whole seconds measured from now (R101). -/
def loadTalk (limit : Nat) : Option TalkCount := some ⟨(limit * 60 : Nat), Config.framesPerSecond⟩

/-- The remaining time of a count in steps of 100 ms: the number loaded until the first 100 ms has passed (R90; log 5). -/
def stepsLeft (frames : Nat) : Nat := (frames + (Config.framesPerStep - 1)) / Config.framesPerStep

/-! ### Progress of a call (R12a) -/

/-- The PROGRESS value due for a state (R12a). -/
def CallState.due : CallState → Option Progress
  | .seeking | .camped | .queued => some .wait
  | .alerting => some .ringback
  | .talking => some .talk
  | .idle | .dialling => none

/-- The origin station of an ENTRANCE call is sent the value due when it differs from the last progress (R12a). -/
def State.tellProgress (s : State) (n : CallNo) : State :=
  match (s.call n).origin, (s.call n).state.due with
  | some (.station p st), some v =>
    if (s.call n).lastProgress = some v then s
    else (s.sendProgress p st v).setCall n { s.call n with lastProgress := some v }
  | _, _ => s

end Sys2Proof.Machine
end

