-- ==== Sys2Proof/Machine/Directory.lean ====
section
/-!
DEFINITION. The directory of 02_the_directory.md: dial order, lookup and the dialling query, the edits, the checks of a
DIR_PUT entry, and the entry payload (R176).
-/

namespace Sys2Proof.Machine

/-- Dial order: whether the first code comes before the second (R33). -/
def dialBefore : Code → Code → Bool
  | [], [] => false
  | [], _ :: _ => true
  | _ :: _, [] => false
  | a :: as, b :: bs => if a < b then true else if b < a then false else dialBefore as bs

/-- The entry with exactly the code `c` (R39, R42). -/
def entryOf (c : Code) (d : List Entry) : Option Entry := d.find? fun e => decide (e.code = c)

/-- Whether `c` is a proper prefix of `d`. -/
def properPrefix : Code → Code → Bool
  | [], [] => false
  | [], _ :: _ => true
  | _ :: _, [] => false
  | a :: as, b :: bs => decide (a = b) && properPrefix as bs

/-- The answer "longer" of the dialling query: some entry's code has `c` as a proper prefix; no for 6 digits (R42). -/
def longerCode (c : Code) (d : List Entry) : Bool := decide (c.length < 6) && d.any fun e => properPrefix c e.code

/-- The first entry after a code in dial order; every entry comes after the empty code (R40). -/
def entryAfter (c : Code) (d : List Entry) : Option Entry := d.find? fun e => dialBefore c e.code

/-- An entry replaced in place (R37). -/
def replaceEntry (e : Entry) (d : List Entry) : List Entry := d.map fun x => if x.code = e.code then e else x

/-- An entry inserted at its place in dial order (R37). -/
def insertEntry (e : Entry) : List Entry → List Entry
  | [] => [e]
  | x :: xs => if dialBefore e.code x.code then e :: x :: xs else x :: insertEntry e xs

/-- What DIR_PUT does with an entry that passed its checks (R37): the directory after it and whether the entry was
inserted; none when the directory is full. -/
def putEntry (e : Entry) (d : List Entry) : Option (List Entry × Bool) :=
  if (entryOf e.code d).isSome then some (replaceEntry e d, false)
  else if d.length < Config.directoryPlaces then some (insertEntry e d, true)
  else none

/-- The entry with exactly the code `c` removed (R38). -/
def deleteEntry (c : Code) (d : List Entry) : List Entry := d.filter fun e => decide (e.code ≠ c)

/-- The uses count of the ACCESS entry with code `c` falls by one when it is 1-254; otherwise nothing changes (R46). -/
def decrementUses (c : Code) (d : List Entry) : List Entry :=
  d.map fun e =>
    if e.code = c then
      match e.body with
      | .access uses => if 1 ≤ uses ∧ uses ≤ 254 then { e with body := .access (uses - 1) } else e
      | _ => e
    else e

/-! ### The entry payload (R176) -/

/-- One target of a FLAT entry: a riser of 0-7 and an address of 0-62 (Table 2-3). -/
def targetOf (r a : Octet) : Option (Fin 8 × Fin 63) :=
  if h : r.toNat < 8 ∧ a.toNat < 63 then some (⟨r.toNat, h.1⟩, ⟨a.toNat, h.2⟩) else none

/-- The first `count` targets of a payload (Table 9-8). -/
def targetsOf : Nat → List Octet → Option (List (Fin 8 × Fin 63))
  | 0, _ => some []
  | k + 1, r :: a :: rest =>
    match targetOf r a, targetsOf k rest with
    | some t, some ts => some (t :: ts)
    | _, _ => none
  | _ + 1, _ => none

/-- The fields of a FLAT entry, when they pass the checks of Table 2-3. -/
def flatBodyOf (fallback camp duplex alert count : Octet) (rest : List Octet) : Option EntryBody :=
  if 1 ≤ count.toNat ∧ count.toNat ≤ 4 ∧ (alert.toNat = 0 ∨ (5 ≤ alert.toNat ∧ alert.toNat ≤ 120)) then
    match targetsOf count.toNat rest, flagOfOctet fallback, flagOfOctet camp, flagOfOctet duplex with
    | some ts, some f, some c, some d => if ts.Nodup then some (.flat ts f c d alert.toNat) else none
    | _, _, _, _ => none
  else none

/-- The entry a DIR_PUT payload holds, when it is whole and passes every check of Table 2-3 (R36, R176). Only the fields
of its kind are read (R32). -/
def entryOfOctets : List Octet → Option Entry
  | c0 :: c1 :: c2 :: c3 :: kind :: entrances :: fallback :: camp :: duplex :: alert :: uses :: count :: rest =>
    let body :=
      if kind = 0x01#8 then flatBodyOf fallback camp duplex alert count rest
      else if kind = 0x02#8 then some .desk
      else if kind = 0x03#8 then some (.access uses.toNat)
      else if kind = 0x04#8 then some .barred
      else none
    match CodeField.code ⟨c0, c1, c2, c3⟩, body with
    | some c, some b =>
      if 1 ≤ entrances.toNat ∧ entrances.toNat ≤ 15 then some ⟨c, entrances.setWidth 4, b⟩ else none
    | _, _ => none
  | _ => none

/-- The octets of the targets of an entry (Table 9-8). -/
def targetOctets (ts : List (Fin 8 × Fin 63)) : List Octet :=
  ts.flatMap fun t => [BitVec.ofNat 8 t.1.val, BitVec.ofNat 8 t.2.val]

/-- The entry payload DIR_GET and DIR_NEXT return: 0x00 in the octets of absent fields (R176). -/
def entryOctets (e : Entry) : List Octet :=
  codeOctets e.code ++
    (match e.body with
     | .flat ts f c d alert =>
       [0x01#8, e.entrances.setWidth 8, flagOctet f, flagOctet c, flagOctet d, BitVec.ofNat 8 alert, 0x00#8,
        BitVec.ofNat 8 ts.length] ++ targetOctets ts
     | .desk => [0x02#8, e.entrances.setWidth 8, 0x00#8, 0x00#8, 0x00#8, 0x00#8, 0x00#8, 0x00#8]
     | .access uses =>
       [0x03#8, e.entrances.setWidth 8, 0x00#8, 0x00#8, 0x00#8, 0x00#8, BitVec.ofNat 8 uses, 0x00#8]
     | .barred => [0x04#8, e.entrances.setWidth 8, 0x00#8, 0x00#8, 0x00#8, 0x00#8, 0x00#8, 0x00#8])

end Sys2Proof.Machine
end

