-- ==== Sys2Proof/Machine/Doors.lean ====
section
/-!
DEFINITION. The door unit and the release journal of 07_entrance_doors_and_the_release_journal.md.
-/

namespace Sys2Proof.Machine

/-- A LOCKED door with its timers stopped (R125). -/
def Door.lockedShut : Door := { state := .locked, releaseTimer := none, heldOpenTimer := none }

/-- The held-open timer as loaded when the door enters OPEN; with HELD_LIMIT 0 it is not loaded (R133). -/
def heldOpenLoad (p : Params) : Option Nat :=
  if p.heldLimit = 0 then none else some (p.heldLimit * 10 * Config.framesPerStep)

/-- An append to the journal (R137, R138, R139). -/
def State.appendJournal (s : State) (p : Fin 4) (st : Fin 2) (kind : ReleaseKind) (granting : Option Party)
    (code : Code) : State :=
  let full := decide (Config.journalPlaces ≤ s.journal.length)
  let kept := if full then s.journal.tail else s.journal
  let record : JournalRecord :=
    { sequence := s.journalSeq, stamp := s.seconds, panel := p, station := st, kind := kind, granting := granting,
      code := code }
  let j := kept ++ [record]
  let t :=
    { s with
      journal := j
      journalSeq := (s.journalSeq + 1) % 65536
      overwrites := if full then countUp s.overwrites else s.overwrites }
  if full = true ∨ s.params.journalThreshold ≤ j.length then t.raise .journal else t

/-- The door unit's answers to a release asked for (R127, R128). -/
inductive ReleaseAnswer where
  | started
  | already
  | refused
  deriving DecidableEq, Repr

/-- A release started on a LOCKED door, in the four steps of R127. -/
def State.startRelease (s : State) (n : CallNo) (p : Fin 4) (st : Fin 2) (kind : ReleaseKind) (granting : Option Party)
    (code : Code) : State :=
  let s1 := s.put (.panel p) (unlockMsg (Party.station p st).addr s.params.releaseTime)
  let s2 := s1.setDoor p
    { state := .released, releaseTimer := some (s.params.releaseTime * Config.framesPerStep), heldOpenTimer := none }
  let s3 := s2.appendJournal p st kind granting code
  s3.setCall n { s3.call n with releases := min ((s3.call n).releases + 1) 255 }

/-- A release asked for: started on a LOCKED door whose panel link is not DOWN, refused on one whose link is DOWN, and
answered already otherwise (R127, R128). A link that is UP again with its LOST marker still waiting is not DOWN, and the
release starts (R134; log 30). -/
def State.requestRelease (s : State) (n : CallNo) (p : Fin 4) (st : Fin 2) (kind : ReleaseKind)
    (granting : Option Party) (code : Code) : ReleaseAnswer × State :=
  match (s.door p).state with
  | .locked =>
    if (s.link (.panel p)).state = .down then (.refused, s)
    else (.started, s.startRelease n p st kind granting code)
  | .released => (.already, s)
  | .opened => (.already, s)

/-- A DOOR OPEN taken by the door of a panel (R129). -/
def State.doorOpens (s : State) (p : Fin 4) : State :=
  match (s.door p).state with
  | .released => s.setDoor p { state := .opened, releaseTimer := none, heldOpenTimer := heldOpenLoad s.params }
  | .locked =>
    (s.setDoor p { state := .opened, releaseTimer := none, heldOpenTimer := heldOpenLoad s.params }).raise .door
  | .opened => s

/-- A DOOR SHUT taken by the door of a panel (R130). -/
def State.doorShuts (s : State) (p : Fin 4) : State :=
  match (s.door p).state with
  | .opened => s.setDoor p Door.lockedShut
  | .released => s.setDoor p Door.lockedShut
  | .locked => s

end Sys2Proof.Machine
end

