-- ==== Sys2Proof/Machine/Voice.lean ====
section
/-!
DEFINITION. The voice crosspoint of 06_the_voice_crosspoint.md: the sample code, attenuation, meters, direction, the
work of one frame period, and connecting a call.
-/

namespace Sys2Proof.Machine

/-! ### Samples -/

/-- The linear value a companded sample stands for (R104). -/
def decodeSample (o : Octet) : Int :=
  let e := o.toNat / 16 % 8
  let m := o.toNat % 16
  let magnitude := if e = 0 then 2 * m else (16 + m) * 2 ^ e + 2 ^ (e - 1)
  if o.toNat < 128 then (magnitude : Int) else -(magnitude : Int)

/-- The place of the leading one of a magnitude of 32-4095 (R105). -/
def leadingPlace (m : Nat) : Nat :=
  if m < 64 then 5 else if m < 128 then 6 else if m < 256 then 7 else if m < 512 then 8
  else if m < 1024 then 9 else if m < 2048 then 10 else 11

/-- The companded sample of a linear value from -4095 to 4095 (R105). -/
def encodeSample (y : Int) : Octet :=
  let m := y.natAbs
  let e := if m < 32 then 0 else leadingPlace m - 4
  let step := if m < 32 then m / 2 else m / 2 ^ e - 16
  BitVec.ofNat 8 ((if y < 0 then 128 else 0) + e * 16 + step)

/-- The factor of an attenuation step (Table 6-2). -/
def attenuationFactor : Nat → Nat
  | 0 => 256
  | 1 => 181
  | 2 => 128
  | 3 => 91
  | 4 => 64
  | 5 => 45
  | 6 => 32
  | _ => 23

/-- A linear value attenuated by a step (R106). -/
def attenuate (step : Nat) (v : Int) : Int :=
  let q : Int := (v.natAbs * attenuationFactor step / 256 : Nat)
  if v < 0 then -q else q

/-- The gain of a link (R107). -/
def Params.gain (p : Params) : LinkId → Nat
  | .panel i => p.panelGain[i]
  | .riser i => p.riserGain[i]
  | .trunk => p.trunkGain

/-- The attenuation step of a path: the receiving link's gain plus the switch loss share, capped at 7 (R107). -/
def pathStep (gain share : Nat) : Nat := min (gain + share) 7

/-! ### Meters and direction -/

/-- A level meter after a sample of magnitude `x` (R114). -/
def meterAfter (level x : Nat) : Nat :=
  if level < x then level + (x - level) / 2
  else if level = 0 then 0
  else if level / 32 = 0 then level - 1
  else level - level / 32

/-- The hang counter as loaded (R117). -/
def hangLoad (p : Params) : Nat := p.hangTime * 16

/-- The decision of a side that holds the direction (R116): `own` and `other` are its level and the other side's. -/
def holdDecision (p : Params) (held taken : Direction) (own other hang : Nat) : Direction × Nat :=
  if p.speechThreshold ≤ other ∧ 2 * own < other then (taken, hangLoad p)
  else if p.speechThreshold ≤ own then (held, hangLoad p)
  else if 1 < hang then (held, hang - 1)
  else (.neutral, 0)

/-- The direction decision of a frame period from the levels of the entrance and inside sides (R115, R116). -/
def directionDecision (p : Params) (d : Direction) (lent lin hang : Nat) : Direction × Nat :=
  match d with
  | .neutral =>
    if p.speechThreshold ≤ lent ∧ lin < lent then (.entrance, hangLoad p)
    else if p.speechThreshold ≤ lin then (.inside, hangLoad p)
    else (.neutral, 0)
  | .entrance => holdDecision p .entrance .inside lent lin hang
  | .inside => holdDecision p .inside .entrance lin lent hang

/-- The switch loss share of the path from the station to the inside party (R118). -/
def shareInward (p : Params) : Direction → Nat
  | .neutral => p.switchLoss / 2
  | .entrance => 0
  | .inside => p.switchLoss

/-- The switch loss share of the path from the inside party to the station (R118). -/
def shareOutward (p : Params) : Direction → Nat
  | .neutral => p.switchLoss / 2
  | .entrance => p.switchLoss
  | .inside => 0

/-- A mix held within -4095 to 4095 (R121). -/
def clampMix (y : Int) : Int := if 4095 < y then 4095 else if y < -4095 then -4095 else y

/-! ### Channels of a call -/

/-- The channel a call holds on a riser, from its reservations (R73). -/
def CallRecord.channelOn (c : CallRecord) (r : Fin 8) : Option (Fin 4) :=
  (c.reservations.find? fun x => decide (x.1 = r)).map (·.2)

/-- The link and channel of a party of a call (Table 6-4). -/
def CallRecord.channelOf (c : CallRecord) (x : Party) : Option (LinkId × Nat) :=
  match x with
  | .station p st => some (.panel p, st.val)
  | .handset r _ => (c.channelOn r).map fun ch => (.riser r, ch.val)
  | .position q => some (.trunk, q.val)

/-- The decoded sample a party of a call presents, and its link and channel; silence where it has none (R109, R113). -/
def State.sampleOf (s : State) (c : CallRecord) (x : Option Party) : Int :=
  match x.bind c.channelOf with
  | some (l, i) => decodeSample ((s.link l).presented.getD i 0#8)
  | none => 0

/-- One octet for one downstream channel (R109). -/
abbrev VoiceOut := LinkId × Nat × Octet

/-- The octet sent to a party: a function of its link's gain, encoded (R113 stages 4 and 5). -/
def voiceTo (p : Params) (c : CallRecord) (x : Option Party) (value : Nat → Int) : List VoiceOut :=
  match x.bind c.channelOf with
  | some (l, i) => [(l, i, encodeSample (value (p.gain l)))]
  | none => []

/-- The voice state of a call after one frame period, and the octets it sends (R113). -/
def State.voicePeriodOf (s : State) (c : CallRecord) (v : Voice) : Voice × List VoiceOut :=
  let p := s.params
  let joinedParty := c.joined.map Party.position
  let so := s.sampleOf c c.origin
  let sa := s.sampleOf c c.answerer
  let sj := s.sampleOf c joinedParty
  let lo := meterAfter v.originMeter so.natAbs
  let la := meterAfter v.answererMeter sa.natAbs
  let lj := v.joinedMeter.map fun x => meterAfter x sj.natAbs
  match v.mode with
  | .switched =>
    let dh := directionDecision p v.direction lo la v.hang
    ({ v with originMeter := lo, answererMeter := la, joinedMeter := lj, direction := dh.1, hang := dh.2 },
     voiceTo p c c.answerer (fun g => attenuate (pathStep g (shareInward p dh.1)) so) ++
     voiceTo p c c.origin (fun g => attenuate (pathStep g (shareOutward p dh.1)) sa))
  | .duplex =>
    ({ v with originMeter := lo, answererMeter := la, joinedMeter := lj, direction := .neutral, hang := 0 },
     voiceTo p c c.answerer (fun g => attenuate (pathStep g 0) so) ++
     voiceTo p c c.origin (fun g => attenuate (pathStep g 0) sa))
  | .mixed =>
    let mix (x y : Int) (g : Nat) : Int :=
      clampMix (attenuate (pathStep g (p.switchLoss / 2)) x + attenuate (pathStep g (p.switchLoss / 2)) y)
    ({ v with originMeter := lo, answererMeter := la, joinedMeter := lj, direction := .neutral, hang := 0 },
     voiceTo p c c.origin (mix sa sj) ++ voiceTo p c c.answerer (mix so sj) ++ voiceTo p c joinedParty (mix so sa))

/-- A link unit handed one octet for a downstream channel (R109). -/
def State.handVoice (s : State) (x : VoiceOut) : State :=
  s.setLink x.1 { s.link x.1 with handed := (s.link x.1).handed.set x.2.1 x.2.2 }

/-- The octets and the voice state of call `n` in the period that starts at `start` (R113); the state is that of the
latest period completed (R124). -/
def State.voiceStep (start : State) (s : State) (n : CallNo) : State :=
  if (start.call n).state = .talking then
    match (start.call n).voice with
    | some v =>
      let out := start.voicePeriodOf (start.call n) v
      out.2.foldl State.handVoice (s.setCall n { s.call n with voice := some out.1, lastPeriod := some out.1 })
    | none => s
  else s

/-- Every downstream channel of every link handed the silence code (R109). -/
def State.silence (s : State) : State :=
  { s with links := tableMap (fun u => { u with handed := u.handed.map fun _ => 0#8 }) s.links }

/-- The work of the crosspoint in one frame period (R109, R113). -/
def State.voicePeriod (s : State) : State := allCalls.foldl (State.voiceStep s) s.silence

/-! ### Connecting (R110, R111, R112, R120, R122) -/

/-- Connecting an upstream channel sets its last good octet to 0x00; the presented octet is not changed (R110). -/
def State.connectChannel (s : State) (ch : Option (LinkId × Nat)) : State :=
  match ch with
  | some (l, i) => s.setLink l { s.link l with lastGood := (s.link l).lastGood.set i 0#8 }
  | none => s

/-- Whether a party is a position. -/
def Party.isPosition : Party → Bool
  | .position _ => true
  | _ => false

/-- Whether a party is a station. -/
def Party.isStation : Party → Bool
  | .station _ _ => true
  | _ => false

/-- The voice mode of a call from its parties and its resolved duplex flag (R112, R120). -/
def CallRecord.voiceMode (c : CallRecord) : VoiceMode :=
  if c.joined.isSome then .mixed
  else if c.origin.any Party.isStation ∧
      (c.answerer.any Party.isPosition ∨ ¬ c.resolved.any (fun x => x.duplex)) then .switched
  else .duplex

/-- A fresh voice state of the call's mode (R111, R122). -/
def CallRecord.freshVoice (c : CallRecord) : Voice :=
  { mode := c.voiceMode, originMeter := 0, answererMeter := 0, joinedMeter := none, direction := .neutral, hang := 0 }

/-- The crosspoint is told that call `n` has entered TALKING (R110, R111); no frame period of the conversation has been
completed. -/
def State.connectVoice (s : State) (n : CallNo) : State :=
  let c := s.call n
  ((s.connectChannel (c.origin.bind c.channelOf)).connectChannel (c.answerer.bind c.channelOf)).setCall n
    { c with voice := some c.freshVoice, lastPeriod := none }

/-- The crosspoint is told that a position has joined call `n` (R120). -/
def State.joinVoice (s : State) (n : CallNo) (q : Fin 6) : State :=
  let c := s.call n
  (s.connectChannel (some (.trunk, q.val))).setCall n
    { c with voice := c.voice.map fun v =>
        { v with mode := .mixed, joinedMeter := some 0, direction := .neutral, hang := 0 } }

/-- The crosspoint is told that a join has ended, with fresh meters (R122). -/
def State.unjoinVoice (s : State) (n : CallNo) : State :=
  s.setCall n { s.call n with voice := (s.call n).voice.map fun _ => (s.call n).freshVoice }

end Sys2Proof.Machine
end

