-- ==== Sys2Proof/Machine/Calls.lean ====
section
/-!
DEFINITION. The course of a call: waiting places, reservations, the target check, the desk, outcomes, clearing, and
the work one event brings to other calls (01_the_call_table.md, 03_parties_and_camp_on.md,
04_riser_channels_and_waiting_queues.md).

Clearing and outcomes are written once, over a `Cascade`: what is done with a channel handed back and with a handset
disengaged. Three cascades follow one another, so that everything a rule brings about within one event is done, depth
first, without any bound on a count: `Cascade.bare` for a call in its target check, which holds no channel (but one
just granted, which R79 takes back afterwards) and rings nobody; `Cascade.waking` for a RESIDENT call that finds no
position after its channel has been passed on; `Cascade.full` for every other event (log 12).
-/

namespace Sys2Proof.Machine

/-! ### Waiting places and states -/

/-- A call leaves any seek queue, the desk queue and any watch list it stands on; the others keep their order (R69, R75,
R87). -/
def State.leavePlaces (s : State) (n : CallNo) : State :=
  { s with
    seekQueues := tableMap (fun q => q.filter (· ≠ n)) s.seekQueues
    deskQueue := s.deskQueue.filter (· ≠ n)
    handsets := tableMap (fun v => tableMap (fun h : Handset => { h with watch := h.watch.filter (· ≠ n) }) v) s.handsets }

/-- The wait count of a call that enters SEEKING: a SEEK count runs on, any other state of it loads SEEK (R93). -/
def seekingWait (p : Params) : Option WaitCount → Option WaitCount
  | some ⟨.seek, f, _⟩ => some ⟨.seek, f, false⟩
  | _ => loadWait .seek p.seekTime

/-- The wait count of a call that enters CAMPED: a SEEK count is held (R93). -/
def campedWait : Option WaitCount → Option WaitCount
  | some ⟨.seek, f, _⟩ => some ⟨.seek, f, true⟩
  | w => w

/-- The wait count of a call that hunts: DESK_WAIT is loaded unless it is loaded already (R99). -/
def huntingWait (p : Params) : Option WaitCount → Option WaitCount
  | some ⟨.deskWait, f, h⟩ => some ⟨.deskWait, f, h⟩
  | _ => loadWait .deskWait p.deskWait

/-- The wait count of a call that takes an outcome: a SEEK count is stopped (R93). -/
def stoppedSeek : Option WaitCount → Option WaitCount
  | some ⟨.seek, _, _⟩ => none
  | w => w

/-- A call joins the tail of a riser's seek queue and enters SEEKING (R75, R93). -/
def State.enterSeeking (s : State) (n : CallNo) (r : Fin 8) : State :=
  let s1 := s.setSeekQueue r (s.seekQueue r ++ [n])
  (s1.setCall n
    { s.call n with
      state := .seeking
      stateCount := none
      waitCount := seekingWait s.params (s.call n).waitCount }).tellProgress n

/-- A call camps at the tail of a handset's watch list and enters CAMPED (R13, R67, R95). -/
def State.enterCamped (s : State) (n : CallNo) (r : Fin 8) (a : Fin 63) : State :=
  let s1 := s.setHandset r a { s.handset r a with watch := (s.handset r a).watch ++ [n] }
  (s1.setCall n
    { s.call n with
      state := .camped
      stateCount := loadState .camp (s.params.campTime * 10)
      waitCount := campedWait (s.call n).waitCount }).tellProgress n

/-- The steps the alert timer is loaded with: the resolved alert time, or ALERT_TIME for 0 (R91, R96). -/
def alertSteps (p : Params) (c : CallRecord) : Nat :=
  match c.resolved with
  | some x => (if x.alertTime = 0 then p.alertTime else x.alertTime) * 10
  | none => p.alertTime * 10

/-- A call enters ALERTING on a flat target (R11, R93, R96). -/
def State.enterAlerting (s : State) (n : CallNo) : State :=
  (s.setCall n
    { s.call n with
      state := .alerting
      stateCount := loadState .alert (alertSteps s.params (s.call n))
      waitCount := none }).tellProgress n

/-! ### The desk (R15, R85, R86, R88) -/

/-- A hunting call rings the position it was given (R15, R98). -/
def State.ringPosition (s : State) (n : CallNo) (q : Fin 6) : State :=
  let s1 := s.engage (.position q) n
  let s2 := s1.put .trunk (ringPositionMsg (Party.position q).addr n (s.call n).origin)
  (s2.setCall n
    { s2.call n with
      state := .alerting
      alerted := [.position q]
      stateCount := loadState .deskRing (s.params.deskRing * 10) }).tellProgress n

/-- The hunt of a call when some position is logged on: the head of the idle order is taken and rung, or the call joins
the desk queue (R15, R86, R99). -/
def State.deskPlace (s : State) (n : CallNo) : State :=
  if (s.call n).state = .idle then s
  else
    let s1 := s.setCall n { s.call n with waitCount := huntingWait s.params (s.call n).waitCount }
    match s1.idleOrder with
    | q :: rest => State.ringPosition { s1 with idleOrder := rest } n q
    | [] =>
      (State.setCall { s1 with deskQueue := s1.deskQueue ++ [n] } n
        { s1.call n with state := .queued, stateCount := none }).tellProgress n

/-- The head of the desk queue is woken and hunts again (R88). -/
def State.wakeDesk (s : State) : State :=
  match s.deskQueue with
  | n :: rest => State.deskPlace { s with deskQueue := rest } n
  | [] => s

/-- A position is appended to the idle order, unless it stands there, and the desk queue is looked at (R85). -/
def State.appendIdle (s : State) (q : Fin 6) : State :=
  (if q ∈ s.idleOrder then s else { s with idleOrder := s.idleOrder ++ [q] }).wakeDesk

/-! ### Channels (R73, R74, R78) -/

/-- The lowest-numbered FREE channel of a riser (R73). -/
def State.lowestFree (s : State) (r : Fin 8) : Option (Fin 4) := allChannels.find? fun c => (s.channel r c).isNone

/-- A call reserves on a riser: a channel it holds there, or the lowest FREE one, or none (R73). -/
def State.reserve (s : State) (n : CallNo) (r : Fin 8) : State :=
  if ((s.call n).channelOn r).isSome then s
  else
    match s.lowestFree r with
    | some c => (s.setChannel r c (some n)).setCall n
        { s.call n with reservations := (s.call n).reservations ++ [(r, c)] }
    | none => s

/-- A pair leaves a call's reservations and its map entry is set aside (R78). -/
def State.setAside (s : State) (n : CallNo) (r : Fin 8) (c : Fin 4) : State :=
  if (r, c) ∈ (s.call n).reservations then
    (s.setChannel r c none).setCall n { s.call n with reservations := (s.call n).reservations.erase (r, c) }
  else s

/-! ### Cascades -/

/-- What an event does with a freed channel and with a disengaged handset. -/
structure Cascade where
  free : State → Fin 8 → Fin 4 → State
  wake : State → Fin 8 → Fin 63 → State

/-- The cascade of a call that holds no channel and rings no handset. -/
def Cascade.bare : Cascade := { free := fun s _ _ => s, wake := fun s _ _ => s }

/-- A call hands back one channel; a channel it does not hold changes nothing (R78). -/
def State.handBackWith (k : Cascade) (n : CallNo) (s : State) (x : Fin 8 × Fin 4) : State :=
  if x ∈ (s.call n).reservations then k.free (s.setAside n x.1 x.2) x.1 x.2 else s

/-- A call hands back every channel in the order of its reservations (R78). -/
def State.handBackAllWith (k : Cascade) (s : State) (n : CallNo) : State :=
  (s.call n).reservations.foldl (State.handBackWith k n) s

/-- A party engaged by call `n` is disengaged (R52). -/
def State.disengageWith (k : Cascade) (n : CallNo) (s : State) (x : Party) : State :=
  if s.engagedBy x = some n then
    match x with
    | .station p st => s.setStation p st none
    | .handset r a => k.wake (s.setHandset r a { s.handset r a with engaged := none }) r a
    | .position q =>
      let s1 := s.setPosition q { s.position q with engaged := none }
      if (s.position q).loggedOn then s1.appendIdle q else s1
  else s

/-! ### Clearing (R26, R27) -/

/-- The PROGRESS value of Table 1-10. -/
def Cause.progress : Cause → Option Progress
  | .callerCancel | .targetHungup => some .cleared
  | .callerHungup => none
  | .unknown => some .unknown
  | .barred => some .barred
  | .busy | .congestion | .noDesk => some .busy
  | .quiet | .absent => some .unavailable
  | .noAnswer | .declined => some .noReply
  | .timeLimit | .linkLost | .forced => some .cleared
  | .restart => none
  | .accessDone | .accessDenied => none

/-- The CLEAR class of Table 1-10. -/
def Cause.clearKind : Cause → Option ClearKind
  | .callerCancel | .targetHungup | .callerHungup => some .normal
  | .unknown => some .unknown
  | .barred => none
  | .busy | .congestion | .noDesk => some .busy
  | .quiet | .absent => some .unavailable
  | .noAnswer | .declined => some .noReply
  | .timeLimit => some .timeLimit
  | .linkLost => some .linkLost
  | .forced => some .forced
  | .restart => none
  | .accessDone | .accessDenied => none

/-- The parties of a call: its alerted members, answerer, joined position and origin (R27, R28; their order in a clearing
is log 10). -/
def CallRecord.parties (c : CallRecord) : List Party :=
  c.alerted ++ c.answerer.toList ++ (c.joined.map Party.position).toList ++ c.origin.toList

/-- The messages of a clearing: PROGRESS to the origin station, RING_STOP to the alerted members, CLEAR to the answerer,
the joined position and a handset or position that is the origin (R27). -/
def State.clearMessages (s : State) (c : CallRecord) (cause : Cause) : State :=
  let s1 := match c.origin, cause.progress with
    | some (.station p st), some v => s.sendProgress p st v
    | _, _ => s
  let s2 := c.alerted.foldl (fun t x => t.sendRingStop x .callerLeft) s1
  match cause.clearKind with
  | some k =>
    (c.answerer.toList ++ (c.joined.map Party.position).toList ++
      c.origin.toList.filter (fun x => !Party.isStation x)).foldl (fun t x => t.sendClear x k) s2
  | none => s2

/-- The end of a drain: in DRAINING with every record IDLE the mode becomes STANDBY and MODE is raised (R184). -/
def State.endDrain (s : State) : State :=
  if s.mode = .draining ∧ s.allIdle = true then State.raise { s with mode := .standby } .mode else s

/-- The record returns to IDLE with its cause and its releases; a drain may end with it (R2, R27). -/
def State.retire (s : State) (n : CallNo) (cause : Cause) (releases : Nat) : State :=
  (s.setCall n { CallRecord.blank with lastCause := some cause, releases := releases }).endDrain

/-- A call hands back every channel and disengages every party its record names (R27). -/
def State.giveUpWith (k : Cascade) (s : State) (n : CallNo) : State :=
  let t := s.handBackAllWith k n
  ((t.call n).parties).foldl (State.disengageWith k n) t

/-- A call clears with a cause, in the order of R27: its messages, its channels, its parties, its waiting places, its
record. While it still waits, a wake of this event may give it a position; what it has so come to hold is given up too
once it waits nowhere (log 9). -/
def State.clearWith (k : Cascade) (s : State) (n : CallNo) (cause : Cause) : State :=
  if (s.call n).state = .idle then s
  else
    let c := s.call n
    let s1 := (s.clearMessages c cause).giveUpWith k n
    ((s1.leavePlaces n).giveUpWith k n).retire n cause c.releases

/-! ### Outcomes (R14) -/

/-- Whether an outcome forwards the call to the desk (R14). -/
def CallRecord.forwards (c : CallRecord) (cause : Cause) : Bool :=
  decide (c.kind = some .entrance) && c.resolved.any (fun x => x.fallback) && !c.forwarded &&
    match cause with
    | .busy | .quiet | .absent | .noAnswer | .declined | .congestion => true
    | _ => false

/-- The record of a call forwarded to the desk: forwarded yes, targets DESK, last progress WAIT (R12a, R14). -/
def CallRecord.forwardedToDesk (c : CallRecord) : CallRecord :=
  { c with
    forwarded := true
    lastProgress := some .wait
    resolved := c.resolved.map fun x => { x with targets := .desk } }

/-- A call takes an outcome: it leaves its places and hands back its channels, and is forwarded or cleared (R14). The
place is left first, as the rules of the timers and of the desk queue say: a call "leaves its seek queue and takes" its
outcome (R94, R95, R99), and the queue of a desk nobody serves is emptied first (R89). -/
def State.outcomeWith (k : Cascade) (s : State) (n : CallNo) (cause : Cause) : State :=
  if (s.call n).state = .idle then s
  else
    let c := s.call n
    let s1 := if cause = .congestion then s.raise .congestion else s
    let s2 := (s1.leavePlaces n).handBackAllWith k n
    let s3 := s2.setCall n { s2.call n with stateCount := none, waitCount := stoppedSeek (s2.call n).waitCount }
    if c.forwards cause then
      let s4 := match c.origin with
        | some (.station p st) => s3.sendProgress p st .wait
        | _ => s3
      let s5 := s4.setCall n (s4.call n).forwardedToDesk
      if s5.loggedOnCount = 0 then s5.clearWith k n .noDesk else s5.deskPlace n
    else s3.clearWith k n cause

/-! ### The target check (R10, R11, R74) -/

/-- The classes of a target member (R10). -/
inductive MemberClass where
  | absent
  | busy
  | quiet
  | eligible
  deriving DecidableEq, Repr

/-- The class of a member, the first that fits (R10). -/
def State.memberClass (s : State) (t : Fin 8 × Fin 63) : MemberClass :=
  let h := s.handset t.1 t.2
  if h.present = false then .absent
  else if h.engaged.isSome then .busy
  else if h.quiet then .quiet
  else .eligible

/-- The members of one class, in list order. -/
def State.membersOf (s : State) (k : MemberClass) (ts : List (Fin 8 × Fin 63)) : List (Fin 8 × Fin 63) :=
  ts.filter fun t => decide (s.memberClass t = k)

/-- The entrance a RING to a handset carries: the caller's panel, or DESK (R11, R172). -/
def CallRecord.ringEntrance (c : CallRecord) : Octet :=
  match c.origin with
  | some (.station p _) => BitVec.ofNat 8 p.val
  | _ => 0x0F#8

/-- The cadence class of a first RING: the panel's CADENCE, or 3 for a DESK-kind call (R11). -/
def CallRecord.firstCadence (p : Params) (c : CallRecord) : Fin 4 :=
  match c.origin with
  | some (.station i _) => p.cadence[i]
  | _ => 3

/-- The cadence class a RING of the call carries: the one of its first RING (R11). -/
def CallRecord.cadence (p : Params) (c : CallRecord) : Fin 4 := c.ringCadence.getD (c.firstCadence p)

/-- RING to a handset of a call (R11, R62). -/
def State.sendRing (s : State) (n : CallNo) (t : Fin 8 × Fin 63) : State :=
  s.put (.riser t.1) (ringHandsetMsg (Party.handset t.1 t.2).addr (s.call n).ringEntrance
    (BitVec.ofNat 8 ((s.call n).cadence s.params).val))

/-- A call alerts a member: RING, engagement, and a place on the alerted list (R11). -/
def State.alertMember (n : CallNo) (s : State) (t : Fin 8 × Fin 63) : State :=
  let s1 := (s.sendRing n t).engage (.handset t.1 t.2) n
  s1.setCall n
    { s1.call n with
      alerted := (s1.call n).alerted ++ [.handset t.1 t.2]
      ringCadence := some ((s.call n).cadence s.params) }

/-- The group seek and the alerting it allows, or a place on the seek queue of the first eligible member's riser (R11,
R74). -/
def State.seekAndAlert (s : State) (n : CallNo) (eligible : List (Fin 8 × Fin 63)) : State :=
  let s1 := eligible.foldl (fun t m => t.reserve n m.1) s
  match eligible.filter fun m => ((s1.call n).channelOn m.1).isSome with
  | [] =>
    match eligible with
    | m :: _ => s1.enterSeeking n m.1
    | [] => s1
  | rung => (rung.foldl (State.alertMember n) s1).enterAlerting n

/-- The target check of a call to a flat (R10). -/
def State.targetCheck (s : State) (n : CallNo) : State :=
  if (s.call n).state = .idle then s
  else
    match (s.call n).resolved with
    | some x =>
      match x.targets with
      | .flat ts =>
        match s.membersOf .eligible ts with
        | m :: ms => s.seekAndAlert n (m :: ms)
        | [] =>
          match s.membersOf .busy ts with
          | [] =>
            s.outcomeWith .bare n (if (s.membersOf .quiet ts).isEmpty then Cause.absent else Cause.quiet)
          | busy =>
            if x.camp then
              match busy.find? fun t => decide ((s.handset t.1 t.2).watch.length < Config.watchPlaces) with
              | some t => s.enterCamped n t.1 t.2
              | none => s.outcomeWith .bare n .busy
            else s.outcomeWith .bare n .busy
      | .desk => s
    | none => s

/-! ### Wakes and grants (R68, R77, R79) -/

/-- A call woken from a watch list: its camp timer is stopped and its target check runs again (R13, R68). -/
def State.wakeCall (s : State) (n : CallNo) : State :=
  (s.setCall n { s.call n with stateCount := none }).targetCheck n

/-- The head of a handset's watch list is woken (R68). -/
def State.wakeHead (s : State) (r : Fin 8) (a : Fin 63) : State :=
  match (s.handset r a).watch with
  | n :: rest => (s.setHandset r a { s.handset r a with watch := rest }).wakeCall n
  | [] => s

/-- Every call is removed from a handset's watch list, in list order, and its target check runs again (R59, R61). -/
def State.wakeAll (s : State) (r : Fin 8) (a : Fin 63) : State :=
  (s.handset r a).watch.foldl
    (fun t n =>
      (t.setHandset r a { t.handset r a with watch := (t.handset r a).watch.filter (· ≠ n) }).wakeCall n) s

/-- The cascade of a call that holds no channel: a disengaged handset wakes the head of its watch list. -/
def Cascade.waking : Cascade := { free := fun s _ _ => s, wake := State.wakeHead }

/-- A RESIDENT call that holds its channel, with some position logged on: REPLY ACCEPTED, then the hunt (R21). -/
def State.acceptResident (s : State) (n : CallNo) : State :=
  (match (s.call n).origin with
   | some x => s.sendReply x .accepted
   | none => s).deskPlace n

/-- The channel is given to the call at the head of the queue (R77). -/
def State.grant (s : State) (n : CallNo) (r : Fin 8) (c : Fin 4) : State :=
  ((s.setSeekQueue r ((s.seekQueue r).erase n)).setChannel r c (some n)).setCall n
    { s.call n with reservations := (r, c) :: (s.call n).reservations }

/-- Whether a call rings a member on riser `r` (R79). -/
def CallRecord.ringsOn (c : CallRecord) (r : Fin 8) : Bool :=
  decide (c.state = .alerting) && c.alerted.any fun x =>
    match x with
    | .handset r' _ => decide (r' = r)
    | _ => false

/-- A freed channel passed down a seek queue, call by call, until one call uses it or the queue is empty (R77, R79). A
granted flat call runs its target check and hands the channel back when its own work is complete if it rings nobody on
the riser; a granted RESIDENT call goes on to the desk, or hands the channel back and clears with NO_DESK (R21). -/
def passDown (r : Fin 8) (c : Fin 4) : List CallNo → State → State
  | [], s => s.setChannel r c none
  | n :: rest, s =>
    let s1 := s.grant n r c
    if (s1.call n).kind = some .resident then
      if s1.loggedOnCount = 0 then
        (passDown r c rest (s1.setAside n r c)).clearWith .waking n .noDesk
      else s1.acceptResident n
    else
      let s2 := s1.targetCheck n
      if (s2.call n).ringsOn r then s2 else passDown r c rest (s2.setAside n r c)

/-- A channel is freed: it goes down the riser's seek queue or becomes FREE (R77). -/
def State.free (s : State) (r : Fin 8) (c : Fin 4) : State := passDown r c (s.seekQueue r) s

/-- The cascade of every event that starts outside a target check. -/
def Cascade.full : Cascade := { free := State.free, wake := State.wakeHead }

/-- A call clears (R27). -/
def State.clear (s : State) (n : CallNo) (cause : Cause) : State := s.clearWith .full n cause
/-- A call takes an outcome (R14). -/
def State.outcome (s : State) (n : CallNo) (cause : Cause) : State := s.outcomeWith .full n cause
/-- A call hands back one channel (R78). -/
def State.handBack (s : State) (n : CallNo) (x : Fin 8 × Fin 4) : State := s.handBackWith .full n x
/-- A call disengages a party (R52). -/
def State.disengage (s : State) (n : CallNo) (x : Party) : State := s.disengageWith .full n x

/-- A call for the desk hunts: NO_DESK when no position is logged on, else a position or a queue place (R15). -/
def State.hunt (s : State) (n : CallNo) : State :=
  if s.loggedOnCount = 0 then s.outcome n .noDesk else s.deskPlace n

/-! ### Creation (R3, R5, R21, R22) -/

/-- A record taken for a new call (R2). -/
def CallRecord.taken (k : CallKind) (st : CallState) (x : Party) (digits : Code) : CallRecord :=
  { CallRecord.blank with state := st, kind := some k, origin := some x, digits := digits }

/-- A new call takes the lowest IDLE record and engages its origin, when the mode is RUN and a record is IDLE (R3). -/
def State.create (s : State) (k : CallKind) (st : CallState) (x : Party) (digits : Code) : Option (CallNo × State) :=
  if s.mode = .run then
    s.lowestIdle.map fun n => (n, (s.setCall n (CallRecord.taken k st x digits)).engage x n)
  else none

/-- A station whose call is refused is told CLOSED, or BUSY with CONGESTION raised (R3). -/
def State.refuseStation (s : State) (p : Fin 4) (st : Fin 2) : State :=
  if s.mode = .run then (s.sendProgress p st .busy).raise .congestion else s.sendProgress p st .closed

/-- A handset or position whose call is refused is sent REPLY REFUSED; in RUN CONGESTION is raised (R3). -/
def State.refuseCaller (s : State) (x : Party) : State :=
  if s.mode = .run then (s.sendReply x .refused).raise .congestion else s.sendReply x .refused

/-- The resolved copy of a call for the desk (R5, R8, R21). -/
def deskCopy (duplex : Bool) (code : Code) : Resolved :=
  { targets := .desk, fallback := false, camp := false, duplex := duplex, alertTime := 0, code := code }

/-! ### Resolution (R8, R9) -/

/-- The end of an ACCESS resolution once the door unit has answered (R9, R46; a refusal is log 13). -/
def State.finishAccess (s : State) (n : CallNo) (p : Fin 4) (st : Fin 2) (e : Entry) (uses : Nat) (a : ReleaseAnswer) :
    State :=
  match a with
  | .started =>
    let s1 := if uses = 255 then s else { s with directory := decrementUses e.code s.directory }
    (s1.sendProgress p st .opened).clear n .accessDone
  | .already => (s.sendProgress p st .opened).clear n .accessDone
  | .refused =>
    State.clear { s with freeIndex := s.freeIndex + 1 } n
      (if Config.refusedAccessDone s.freeIndex then .accessDone else .accessDenied)

/-- An ACCESS entry resolved by an ENTRANCE call that passed the entrances check (R9). -/
def State.resolveAccess (s : State) (n : CallNo) (p : Fin 4) (st : Fin 2) (e : Entry) (uses : Nat) : State :=
  if uses = 0 then (s.sendProgress p st .denied).clear n .accessDenied
  else
    let x := s.requestRelease n p st .byCode none e.code
    x.2.finishAccess n p st e uses x.1

/-- The record of a call with its resolved copy taken and its digit timer stopped (R8, R44). -/
def State.takeCopy (s : State) (n : CallNo) (x : Resolved) : State :=
  s.setCall n { s.call n with resolved := some x, stateCount := none }

/-- Resolution of an entry by an ENTRANCE call from station `st` of panel `p` (R8). -/
def State.resolveEntrance (s : State) (n : CallNo) (p : Fin 4) (st : Fin 2) (e : Entry) : State :=
  if e.entrances.getLsbD p.val = false then s.outcome n .barred
  else
    match e.body with
    | .flat ts f c d alert => (s.takeCopy n ⟨.flat ts, f, c, d, alert, e.code⟩).targetCheck n
    | .desk => (s.takeCopy n (deskCopy false e.code)).hunt n
    | .access uses => s.resolveAccess n p st e uses
    | .barred => s.outcome n .barred

/-- Resolution of an entry by a DESK-kind call: only a FLAT entry leads on (R8, R22). -/
def State.resolveDesk (s : State) (n : CallNo) (e : Entry) : State :=
  match e.body with
  | .flat ts f c d alert => (s.takeCopy n ⟨.flat ts, f, c, d, alert, e.code⟩).targetCheck n
  | _ => s.outcome n .unknown

/-- The digits of a call put to the directory and resolved at once, or UNKNOWN: KEY CALL, the digit timer's expiry and
DIAL (R7, R22). -/
def State.resolveExact (s : State) (n : CallNo) : State :=
  match entryOf (s.call n).digits s.directory with
  | some e =>
    match (s.call n).origin with
    | some (.station p st) => s.resolveEntrance n p st e
    | _ => s.resolveDesk n e
  | none => s.outcome n .unknown

/-- The digits of a DIALLING call put to the directory after a digit (R6, Table 1-7, R92). -/
def State.afterDigit (s : State) (n : CallNo) : State :=
  if longerCode (s.call n).digits s.directory then
    s.setCall n { s.call n with stateCount := loadState .digit s.params.digitTime }
  else s.resolveExact n

/-! ### Answering (R17, R18) -/

/-- The call enters TALKING and its talk count starts (R17, R18, R101); the origin is told. -/
def State.enterTalking (s : State) (n : CallNo) : State :=
  (s.setCall n
    { s.call n with
      state := .talking
      stateCount := none
      waitCount := none
      talk := loadTalk s.params.talkLimit
      graceBound := none }).tellProgress n

/-- The origin of a RESIDENT or DESK-kind call is sent CONNECT with its own channel (R17, R18). -/
def State.connectOrigin (s : State) (n : CallNo) : State :=
  match (s.call n).origin with
  | some (.station _ _) => s
  | some x =>
    match (s.call n).channelOf x with
    | some (_, i) => s.sendConnect x i
    | none => s
  | none => s

/-- A party is sent CONNECT with its channel in the call (R17, R18, R62). -/
def State.connectParty (s : State) (n : CallNo) (x : Party) : State :=
  match (s.call n).channelOf x with
  | some (_, i) => s.sendConnect x i
  | none => s

/-- An answered call enters TALKING: its counts start, its origin is told, and the crosspoint connects it (R17, R18). -/
def State.beginTalk (s : State) (n : CallNo) : State :=
  if (s.call n).state = .idle then s else ((s.enterTalking n).connectOrigin n).connectVoice n

/-- An alerted member is sent RING_STOP and disengaged, with all that its wake brings (R17, R81). That this is done member
by member is the model's choice: the rules do not say whether every RING_STOP is put before the first member is
disengaged (log 28). -/
def State.stopMember (n : CallNo) (s : State) (x : Party) : State :=
  (s.sendRingStop x .answeredElsewhere).disengage n x

/-- An alerted handset answers (R17, R81): CONNECT, the spare channels handed back in list order, then the other members
stopped and disengaged one after another in list order (log 28), then the conversation. -/
def State.answerHandset (s : State) (n : CallNo) (r : Fin 8) (a : Fin 63) : State :=
  let x := Party.handset r a
  let others := (s.call n).alerted.filter (· ≠ x)
  let spare := (s.call n).reservations.filter (fun y => y.1 ≠ r)
  let s1 := (s.setCall n { s.call n with answerer := some x, alerted := [], stateCount := none }).connectParty n x
  let s2 := spare.foldl (fun t y => t.handBack n y) s1
  (others.foldl (State.stopMember n) s2).beginTalk n

/-- The alerted position answers (R18). -/
def State.answerPosition (s : State) (n : CallNo) (q : Fin 6) : State :=
  let x := Party.position q
  ((s.setCall n { s.call n with answerer := some x, alerted := [] }).connectParty n x).beginTalk n

/-! ### Leaving (R16, R20, R24, R25) -/

/-- An alerted handset leaves its call: by decline, with a RING_STOP, or by absence, without one (R20, R82). -/
def State.memberLeaves (s : State) (n : CallNo) (r : Fin 8) (a : Fin 63) (stop : Option StopReason) (cause : Cause) :
    State :=
  let x := Party.handset r a
  let s1 := match stop with
    | some y => s.sendRingStop x y
    | none => s
  let s2 := (s1.setCall n { s1.call n with alerted := (s1.call n).alerted.filter (· ≠ x) }).disengage n x
  let s3 :=
    if (s2.call n).ringsOn r then s2
    else
      match (s2.call n).channelOn r with
      | some c => s2.handBack n (r, c)
      | none => s2
  if (s3.call n).alerted = [] then s3.outcome n cause else s3

/-- The alerted position stops being rung and the call hunts again (R16, R98). -/
def State.positionReturns (s : State) (n : CallNo) (q : Fin 6) (reason : StopReason) : State :=
  let s1 := s.sendRingStop (.position q) reason
  let s2 := (s1.setCall n { s1.call n with alerted := [], stateCount := none }).disengage n (.position q)
  s2.hunt n

/-- The joined position leaves (R24, R122). -/
def State.joinedLeaves (s : State) (n : CallNo) (q : Fin 6) : State :=
  let s1 := (s.setCall n { s.call n with joined := none }).sendClear (.position q) .normal
  (s1.disengage n (.position q)).unjoinVoice n

/-- The answering handset of a joined call leaves and the joined position becomes the answerer (R24, R122). -/
def State.handOver (s : State) (n : CallNo) (r : Fin 8) (a : Fin 63) (q : Fin 6) : State :=
  let x := Party.handset r a
  let s1 := s.setCall n { s.call n with answerer := some (.position q), joined := none }
  let s2 := (s1.sendClear x .normal).disengage n x
  let s3 := match (s2.call n).channelOn r with
    | some c => s2.handBack n (r, c)
    | none => s2
  s3.unjoinVoice n

/-- The HANGUP of a handset, by its role (R20, R21, R24, R25). -/
def State.hangupHandset (s : State) (r : Fin 8) (a : Fin 63) : State :=
  match s.roleOf (.handset r a) with
  | some (n, .alerted) => s.memberLeaves n r a (some .declined) .declined
  | some (n, .answerer) =>
    match (s.call n).joined with
    | some q => s.handOver n r a q
    | none => s.clear n .targetHungup
  | some (n, .origin) => s.clear n .callerHungup
  | some (_, .joined) => s
  | none => s

/-- The HANGUP of a position, by its role (R16, R22, R24, R25). -/
def State.hangupPosition (s : State) (q : Fin 6) : State :=
  match s.roleOf (.position q) with
  | some (n, .alerted) => s.positionReturns n q .declined
  | some (n, .answerer) => s.clear n .targetHungup
  | some (n, .joined) => s.joinedLeaves n q
  | some (n, .origin) => s.clear n .callerHungup
  | none => s

/-- A handset becomes ABSENT after its misses (R59). -/
def State.becomeAbsent (s : State) (r : Fin 8) (a : Fin 63) : State :=
  let s1 := (s.setHandset r a { s.handset r a with present := false }).raise .party
  let s2 := match s1.roleOf (.handset r a) with
    | some (n, .alerted) => s1.memberLeaves n r a none .absent
    | _ => s1.hangupHandset r a
  s2.wakeAll r a

/-- A handset's message is delivered: its miss count returns to 0 and an ABSENT handset becomes PRESENT (R60). -/
def State.notePresence (s : State) (r : Fin 8) (a : Fin 63) : State :=
  let s1 := s.setHandset r a { s.handset r a with present := true, misses := 0 }
  if (s.handset r a).present then s1 else s1.raise .party

/-! ### Link loss (R28, R61, R66, R134) -/

/-- Every call with a party on a lost link clears with LINK_LOST, in record-number order (R28). A call whose wait the
clearing of a lower record has ended before its turn, a grant that gave it its outcome, has cleared with that outcome's
cause (R83; log 29). -/
def State.clearLost (s : State) (l : LinkId) : State :=
  allCalls.foldl
    (fun t n => if (t.call n).parties.any (fun x => decide (x.link = l)) then t.clear n .linkLost else t) s

/-- Every call on the desk queue takes NO_DESK, in queue order (R16, R89). -/
def State.handOverQueue (s : State) : State :=
  s.deskQueue.foldl (fun t n => t.outcome n .noDesk) { s with deskQueue := [] }

/-- A riser link goes DOWN: its turn ends, its handsets become ABSENT, and its watch lists are woken (R56, R61). -/
def State.riserLost (s : State) (r : Fin 8) : State :=
  let changed := (s.handsets[r]).toList.any fun h => h.present
  let s1 := s.setScheduler r { s.scheduler r with turn := none }
  let s2 := { s1 with
    handsets := s1.handsets.set r (tableMap (fun h : Handset => { h with present := false, misses := 0 }) s1.handsets[r]) }
  let s3 := if changed then s2.raise .party else s2
  allAddresses.foldl (fun t a => t.wakeAll r a) s3

/-- The trunk link goes DOWN: every position is logged off and the desk queue is handed over (R66). -/
def State.trunkLost (s : State) : State :=
  let changed := s.positions.toList.any fun x => x.loggedOn
  let s1 := { s with positions := tableMap (fun x : Position => { x with loggedOn := false }) s.positions, idleOrder := [] }
  let s2 := if changed then s1.raise .party else s1
  s2.handOverQueue

/-- The blocks that follow link state are told that a link has gone DOWN (R151; their order is log 8). -/
def State.linkLost (s : State) (l : LinkId) : State :=
  match l with
  | .panel p => s.setDoor p Door.lockedShut
  | .riser r => s.riserLost r
  | .trunk => s.trunkLost

end Sys2Proof.Machine
end

