-- ==== Sys2Proof/Machine/Links.lean ====
section
/-!
DEFINITION. The link units of 08_link_framing.md and 09_signalling_messages.md: the marker hunt, the classing of
frames, link states, message assembly, what a frame carries inward, the downstream frame, and the turns of a riser.
-/

namespace Sys2Proof.Machine

/-! ### Line bits (R142) -/

/-- The line bits of an octet: one start bit 0, the data bits least significant first, one stop bit 1 (Table 8-2). -/
def octetBits (o : Octet) : List Bool := false :: ((List.range 8).map o.getLsbD ++ [true])

/-- The line bits of octets sent without a pause (Table 8-2). -/
def lineBits (os : List Octet) : List Bool := os.flatMap octetBits

/-- The octet of data bits, the least significant first. -/
def octetOfBits (bits : List Bool) : Octet := BitVec.ofNat 8 (bits.foldr (fun b n => (if b then 1 else 0) + 2 * n) 0)

/-- The receiver takes the line bit at place `t` of a frame period. An octet whose stop bit is 0 is passed up as it is,
and the next start bit is a 0 that follows a 1 (R142). -/
def Receiver.bit (t : Nat) (r : Receiver) (b : Bool) : Receiver × List Arrival :=
  match r with
  | .rest => if b then (.rest, []) else (.data t [], [])
  | .broken => if b then (.rest, []) else (.broken, [])
  | .data start bits =>
    if bits.length < 8 then (.data start (bits ++ [b]), [])
    else (if b then .rest else .broken, [⟨start, octetOfBits bits⟩])

/-- The receiver takes line bits from place `t` on. -/
def Receiver.bits (t : Nat) (r : Receiver) : List Bool → Receiver × List Arrival
  | [] => (r, [])
  | b :: bs =>
    let x := r.bit t b
    let y := Receiver.bits (t + 1) x.1 bs
    (y.1, x.2 ++ y.2)

/-- A receiver as a frame period of `n` line bits ends: places count from the period that follows. -/
def Receiver.later (n : Nat) : Receiver → Receiver
  | .data start bits => .data (start - n) bits
  | r => r

/-- An octet as a frame period of `n` line bits ends. -/
def Arrival.later (n : Nat) (a : Arrival) : Arrival := { a with start := a.start - n }

/-- The receiver takes the line bits of one frame period. -/
def Receiver.period (r : Receiver) (bits : List Bool) : Receiver × List Arrival :=
  let x := Receiver.bits 0 r bits
  (x.1.later bits.length, x.2)

/-- Where the frame that is arriving ends in a frame period of `n` line bits: where a held alignment puts the start of the
next one (R144, R145). -/
def LinkUnit.frameEnd (u : LinkUnit) (n : Nat) : Nat :=
  match u.alignment with
  | some (h + 1) => h + 1
  | _ => n

/-- The octets that stand at the places of the frame of `n` line bits that ends at place `e`: those that began and ended
within it, if one began at the expected place, the frame's first octet time (R144; log 6). -/
def placedOctets (n e : Nat) (as : List Arrival) : List Octet :=
  match as.filter fun a => decide ((e : Int) ≤ a.start + n ∧ a.start + Config.lineBitsPerOctet ≤ (e : Int)) with
  | [] => []
  | a :: rest => if a.start + n < (e : Int) + Config.lineBitsPerOctet then a.octet :: rest.map (·.octet) else []

/-! ### Frames (R143, R144) -/

/-- The classes of a frame period (R144). -/
inductive FrameClass where
  | good
  | bad
  | lost
  deriving DecidableEq, Repr

/-- The sum of octets modulo 256 (R144). -/
def octetSum (os : List Octet) : Octet := os.foldl (fun t o => t + o) 0#8

/-- The check octet that makes the sum 0 (R144). -/
def checkOctet (os : List Octet) : Octet := 0#8 - octetSum os

/-- The class of a frame period of a link from the octets that stand at the places of its frame (R144). A frame that bears
its marker and lacks octets is a bad frame (log 6). -/
def frameClass (l : LinkId) (octets : List Octet) : FrameClass :=
  match octets with
  | [] => .lost
  | m :: rest =>
    if m ≠ Config.marker then .lost
    else if octets.length = l.frameOctets ∧ octetSum rest = 0#8 then .good
    else .bad

/-- A whole frame with its marker and check (R143, Table 9-3). -/
def frameOf (status sig1 sig2 : Octet) (voice : List Octet) : List Octet :=
  let inner := [status, sig1, sig2] ++ voice
  Config.marker :: inner ++ [checkOctet inner]

/-! ### Assembly (R160, R161) -/

/-- What one signalling octet brings about in the assembly stage. -/
inductive AssemblyEvent where
  | nothing
  | began
  | overlong
  | ended (body : List Octet) (escape : Bool)
  deriving DecidableEq, Repr

/-- An assembly stage in HUNTING with an empty body (R160). -/
def Assembly.hunting : Assembly := { stage := .hunting, body := [], escape := false }
/-- An assembly stage in OPEN with an empty body (R160). -/
def Assembly.openStage : Assembly := { stage := .opened, body := [], escape := false }

/-- The assembly stage takes one signalling octet of a good frame (R160). -/
def Assembly.feed (a : Assembly) (o : Octet) : Assembly × AssemblyEvent :=
  match a.stage with
  | .hunting => if o = Config.delimiter then (Assembly.openStage, .nothing) else (a, .nothing)
  | .opened =>
    if o = Config.delimiter then (Assembly.openStage, .nothing)
    else if o = Config.escape then ({ stage := .collecting, body := [], escape := true }, .began)
    else ({ stage := .collecting, body := [o], escape := false }, .began)
  | .collecting =>
    if o = Config.delimiter then (Assembly.openStage, .ended a.body a.escape)
    else if o = Config.escape ∧ a.escape = false then ({ a with escape := true }, .nothing)
    else if 28 ≤ a.body.length then (Assembly.hunting, .overlong)
    else
      ({ stage := .collecting, body := a.body ++ [if a.escape then o ^^^ 0x20#8 else o], escape := false }, .nothing)

/-- A message that a delimiter has ended, when it is complete and good (R161). -/
def judgeBody (body : List Octet) (escape : Bool) : Option Message :=
  if escape = true ∨ body.length < 4 then none
  else
    let content := body.take (body.length - 2)
    if body.drop (body.length - 2) = crcOctets content then
      match content with
      | a :: t :: payload => some ⟨a, t, payload⟩
      | _ => none
    else none

/-! ### Turns (R55, R57) -/

/-- The current turn of a riser. -/
def State.turn (s : State) (r : Fin 8) : Option Turn := (s.scheduler r).turn

/-- The current turn of a riser written. -/
def State.setTurn (s : State) (r : Fin 8) (t : Option Turn) : State :=
  s.setScheduler r { s.scheduler r with turn := t }

/-- A message has begun on a link: on a riser it answers the current turn when it begins within the 2 ms counted from the
first frame that carries the grant (R55; log 17). -/
def State.messageBegan (s : State) (l : LinkId) : State :=
  match l with
  | .riser r =>
    match s.turn r with
    | some t =>
      if t.answered = false ∧ 1 ≤ t.frames ∧ t.frames ≤ Config.turnFrames then
        s.setTurn r (some { t with answered := true })
      else s
    | none => s
  | _ => s

/-- The message in assembly has ended: on a riser an answered turn ends with it (R55). -/
def State.endAnsweredTurn (s : State) (l : LinkId) : State :=
  match l with
  | .riser r =>
    match s.turn r with
    | some t => if t.answered then s.setTurn r none else s
    | none => s
  | _ => s

/-- Whether a complete good message is taken into the receive path: on a riser only from the granted address, or at the
management address, in an answered turn (R57). -/
def State.admits (s : State) (l : LinkId) (m : Message) : Bool :=
  match l with
  | .riser r =>
    match s.turn r with
    | some t => t.answered && (decide (m.addr = BitVec.ofNat 8 t.addr.val) || decide (m.addr = Config.managementAddress))
    | none => false
  | _ => true

/-- A message that a delimiter has ended is judged and taken, or discarded and counted (R57, R161, R162). -/
def State.takeBody (s : State) (l : LinkId) (body : List Octet) (escape : Bool) : State :=
  match judgeBody body escape with
  | some m => if s.admits l m then s.enqueue l m else s.countCheckError l
  | none => s.countCheckError l

/-- The assembly stage of a link written. -/
def State.setAssembly (s : State) (l : LinkId) (a : Assembly) : State := s.setLink l { s.link l with assembly := a }

/-- A link unit takes one signalling octet of a good frame (R149, R160). -/
def State.takeSignalling (l : LinkId) (s : State) (o : Octet) : State :=
  let x := (s.link l).assembly.feed o
  let s1 := s.setAssembly l x.1
  match x.2 with
  | .nothing => s1
  | .began => s1.messageBegan l
  | .overlong => (s1.countCheckError l).endAnsweredTurn l
  | .ended body escape => (s1.takeBody l body escape).endAnsweredTurn l

/-- A bad or lost frame strikes the assembly stage: a message in assembly is abandoned and counted, and the stage goes to
HUNTING (R149, R160). -/
def State.strike (s : State) (l : LinkId) : State :=
  let s1 := s.setAssembly l Assembly.hunting
  if (s.link l).assembly.stage = .collecting then (s1.countCheckError l).endAnsweredTurn l else s1

/-! ### Link states (R145 to R153) -/

/-- A link unit with its queues, holding slot and assembly stage flushed and a message partly sent cut (R152, R157). -/
def LinkUnit.flushed (u : LinkUnit) : LinkUnit :=
  { u with
    rx := []
    holding := none
    assembly := Assembly.hunting
    tx := []
    sending := none
    holdOffWait := none }

/-- A link goes DOWN (R151, R152, R153): its own work, LINK raised, and the blocks that follow link state told. -/
def State.goDown (s : State) (l : LinkId) : State :=
  let u := (s.link l).flushed
  let s1 := s.setLink l
    { u with
      state := .down
      rx := [.lost]
      partnerHoldOff := false
      alignment := none
      acquiring := false
      gathered := []
      candidate := none
      markerRun := 0
      lostRun := 0 }
  (s1.raise .link).linkLost l

/-- A DOWN link goes UP at the sixteenth marker, whose start bit stood at place `start` of a frame period of `n` line bits:
the candidate becomes the held alignment, and the frame of that marker is not classed if it ends in the next period (R145,
R146, R151). -/
def State.goUp (s : State) (l : LinkId) (n : Nat) (start : Int) : State :=
  (s.setLink l
    { s.link l with
      state := .up
      alignment := some (start % n).toNat
      acquiring := decide (0 < start)
      gathered := []
      candidate := none
      lostRun := 0
      goodRun := 0
      history := [] }).raise .link

/-- The hunt of a DOWN link takes one octet (R145). -/
def LinkUnit.huntOctet (frame : Nat) (u : LinkUnit) (o : Octet) : LinkUnit :=
  match u.candidate with
  | none => if o = Config.marker then { u with candidate := some 0, markerRun := 1 } else u
  | some k =>
    if k + 1 < frame then { u with candidate := some (k + 1) }
    else if o = Config.marker then { u with candidate := some 0, markerRun := u.markerRun + 1 }
    else { u with candidate := none, markerRun := 0 }

/-- The octets of a frame period of `n` line bits go to the hunt of a DOWN link; at the sixteenth marker the link goes UP
and the rest of the octets belong to the sixteenth frame (R145, R146). -/
def State.hunt16 (l : LinkId) (n : Nat) : List Arrival → State → State
  | [], s => s
  | a :: as, s =>
    let s1 := s.setLink l ((s.link l).huntOctet l.frameOctets a.octet)
    if (s1.link l).markerRun = 16 then s1.goUp l n a.start else State.hunt16 l n as s1

/-- The impairment history after one more period (R147). -/
def historyAfter (bad : Bool) (h : List Bool) : List Bool := (bad :: h).take 7

/-- The counts and the state of an UP or IMPAIRED link unit after a classed frame period (R147, R148), short of the work
of going DOWN. -/
def LinkUnit.classed (u : LinkUnit) (k : FrameClass) : LinkUnit :=
  let impaired := decide (u.state = .impaired)
  match k with
  | .good =>
    let run := if impaired then u.goodRun + 1 else u.goodRun
    if impaired = true ∧ 64 ≤ run then
      { u with state := .up, lostRun := 0, goodRun := 0, history := historyAfter false u.history }
    else { u with lostRun := 0, goodRun := run, history := historyAfter false u.history }
  | .bad =>
    { u with
      state := if u.history.any (fun b => b) then LinkState.impaired else u.state
      lostRun := 0
      goodRun := 0
      badFrames := countUp u.badFrames
      history := historyAfter true u.history }
  | .lost => { u with lostRun := u.lostRun + 1, goodRun := 0, history := historyAfter false u.history }

/-- The voice octets of a frame period set the last good and presented octets by the link state (R108). -/
def LinkUnit.takeVoice (u : LinkUnit) (good : Option (List Octet)) : LinkUnit :=
  let last := good.getD u.lastGood
  { u with lastGood := last, presented := if u.state = .up then last else last.map fun _ => 0#8 }

/-- The presented octets of a link are silence (R108, R149). -/
def LinkUnit.presentSilence (u : LinkUnit) : LinkUnit := { u with presented := u.presented.map fun _ => 0#8 }

/-- The hold-off mark of a status octet (Table 9-4). -/
def holdOffMark (status : Octet) : Bool := status.getLsbD 7

/-- Whether a link is a riser link. -/
def isRiser : LinkId → Bool
  | .riser _ => true
  | _ => false

/-- A good frame on an UP or IMPAIRED link: its status octet on a panel or trunk link, its voice octets and its
signalling octets (R108, R149, R150). -/
def State.takeGoodFrame (s : State) (l : LinkId) (octets : List Octet) : State :=
  let u := (s.link l).takeVoice (some ((octets.drop 4).take l.voiceChannels))
  let s1 := s.setLink l
    { u with partnerHoldOff := if isRiser l then u.partnerHoldOff else holdOffMark (octets.getD 1 0#8) }
  ((octets.drop 2).take 2).foldl (State.takeSignalling l) s1

/-- A change of a link's state raises LINK (R151). -/
def State.noteChange (s : State) (l : LinkId) (before : LinkState) : State :=
  if (s.link l).state = before then s else s.raise .link

/-- A link that is UP or IMPAIRED classes the frame that has ended, moves its counts and its state, and takes what the frame
carries (R144, R146 to R152). -/
def State.takeFrame (s : State) (l : LinkId) (octets : List Octet) : State :=
  let u := s.link l
  let k := frameClass l octets
  let s1 := (s.setLink l (u.classed k)).noteChange l u.state
  match k with
  | .good => s1.takeGoodFrame l octets
  | .bad => (s1.setLink l ((s1.link l).takeVoice none)).strike l
  | .lost =>
    if 8 ≤ (s1.link l).lostRun then
      (s1.setLink l (s1.link l).presentSilence).goDown l
    else (s1.setLink l ((s1.link l).takeVoice none)).strike l

/-- A link unit with the octets `as` of a frame period of `n` line bits that belong to the frame which starts at place `e`
gathered, the frame before it being at its end (R145). -/
def LinkUnit.gather (u : LinkUnit) (n e : Nat) (as : List Arrival) : LinkUnit :=
  { u with
    acquiring := false
    gathered := (as.filter fun a => decide ((e : Int) ≤ a.start)).map (Arrival.later n) }

/-- One upstream frame period of `n` line bits, which has brought the octets `as` (R144 to R152): a DOWN link hunts; a link
that is UP or IMPAIRED takes the frame that ends in the period, unless it is the sixteenth of its acquisition, and a link
that this takes DOWN hunts from the next octet to arrive. -/
def State.upstream (s : State) (l : LinkId) (n : Nat) (as : List Arrival) : State :=
  let u := s.link l
  if u.state = .down then State.hunt16 l n as (s.setLink l u.presentSilence)
  else
    let e := u.frameEnd n
    let s1 := s.setLink l (u.gather n e as)
    if u.acquiring then s1
    else
      let s2 := s1.takeFrame l (placedOctets n e (u.gathered ++ as))
      if (s2.link l).state = .down then
        State.hunt16 l n (as.filter fun a => decide ((e : Int) < a.start + Config.lineBitsPerOctet)) s2
      else s2

/-- The end of an upstream frame event: when the trunk has come UP one ATTENTION carries the masked pending set, if it is
not empty; otherwise the event ends as every other (R189). -/
def State.settleUpstream (s before : State) (l : LinkId) : State :=
  if l = .trunk ∧ (before.link .trunk).state = .down ∧ (s.link .trunk).state ≠ .down then
    if s.maskedPending = 0#8 then s else s.put .trunk (attentionMsg s.maskedPending)
  else s.settle before

/-! ### The downstream frame (R143, R150, R166 to R168) -/

/-- Whether the switch asserts hold-off toward a link (R163). -/
def LinkUnit.holdsOff (u : LinkUnit) : Bool := decide (Config.receivePlaces ≤ u.rx.length)

/-- The grant field of a downstream status octet (R150). -/
def State.grantField (s : State) (l : LinkId) : Nat :=
  match l with
  | .riser r => match s.turn r with
    | some t => t.addr.val
    | none => 63
  | _ => 0

/-- The downstream status octet (Table 9-4). -/
def State.statusOctet (s : State) (l : LinkId) : Octet :=
  BitVec.ofNat 8 ((if (s.link l).holdsOff then 128 else 0) + s.grantField l)

/-- One signalling octet sent from octets still to go; the message leaves the queue with its closing delimiter (R166,
R167). -/
def LinkUnit.sendOctets (u : LinkUnit) : List Octet → Octet × LinkUnit
  | [] => (Config.delimiter, { u with tx := u.tx.tail, sending := none, lastDelimiter := true })
  | [o] => (o, { u with tx := u.tx.tail, sending := none, lastDelimiter := true })
  | o :: rest => (o, { u with sending := some rest, lastDelimiter := decide (o = Config.delimiter) })

/-- The next signalling octet of a link, and the link unit after it (R167, R168). -/
def LinkUnit.nextOctet (u : LinkUnit) : Octet × LinkUnit :=
  match u.sending with
  | some os => u.sendOctets os
  | none =>
    match u.tx with
    | [] => (Config.delimiter, { u with lastDelimiter := true })
    | m :: _ =>
      if u.partnerHoldOff then
        (Config.delimiter,
         { u with
           lastDelimiter := true
           holdOffWait := if u.holdOffWait.isSome then u.holdOffWait else some Config.framesPerSecond })
      else if u.lastDelimiter then { u with holdOffWait := none }.sendOctets m.lineOctets
      else (Config.delimiter,
        { u with lastDelimiter := true, holdOffWait := none, sending := some m.lineOctets })

/-- The turn of a riser after one more downstream frame has carried its grant (R55). -/
def State.countTurnFrame (s : State) (l : LinkId) : State :=
  match l with
  | .riser r =>
    match s.turn r with
    | some t => s.setTurn r (some { t with frames := t.frames + 1 })
    | none => s
  | _ => s

/-- One downstream frame of a link; none while RESET is low (R142, R143). -/
def State.downstream (s : State) (l : LinkId) : State :=
  if s.resetLow then s
  else
    let u := s.link l
    let x := u.nextOctet
    let y := x.2.nextOctet
    (s.setLink l { y.2 with line := some (frameOf (s.statusOctet l) x.1 y.1 u.handed) }).countTurnFrame l

/-! ### Turns (R54 to R59) -/

/-- The address after an address, 0-62, wrapping (R54). -/
def nextAddress (a : Fin 63) : Fin 63 := a + 1

/-- The addresses in order from the one after `a`, wrapping round to `a` (R54). -/
def addressesAfter (a : Fin 63) : List (Fin 63) := allAddresses.map fun i => a + 1 + i

/-- The first engaged handset of a riser after the last served address (R54). -/
def State.nextEngaged (s : State) (r : Fin 8) : Option (Fin 63) :=
  (addressesAfter (s.scheduler r).lastServed).find? fun a => (s.handset r a).engaged.isSome

/-- Whether a riser may begin a turn (R54, R56). -/
def State.mayBeginTurn (s : State) (r : Fin 8) : Bool :=
  (s.turn r).isNone && decide ((s.link (.riser r)).state ≠ .down) && !(s.link (.riser r)).holdsOff

/-- A fresh turn (R54). -/
def freshTurn (a : Fin 63) (k : TurnKind) : Option Turn := some { addr := a, kind := k, answered := false, frames := 0 }

/-- A ROLL turn begins (R54); `nextKind` is the kind meant for the turn after it. -/
def State.beginRoll (s : State) (r : Fin 8) (nextKind : TurnKind) : State :=
  let a := nextAddress (s.scheduler r).lastRolled
  s.setScheduler r
    { s.scheduler r with lastRolled := a, nextKind := nextKind, turn := freshTurn a .roll }

/-- A riser begins its next turn, if it may (R54). -/
def State.beginTurn (s : State) (r : Fin 8) : State :=
  if s.mayBeginTurn r then
    match (s.scheduler r).nextKind with
    | .roll => s.beginRoll r .engaged
    | .engaged =>
      match s.nextEngaged r with
      | some a =>
        s.setScheduler r
          { s.scheduler r with lastServed := a, nextKind := .roll, turn := freshTurn a .engaged }
      | none => s.beginRoll r .roll
  else s

/-- An unanswered turn ends: a miss for the granted address, and absence at the third (R55, R58, R59). -/
def State.turnUnanswered (s : State) (r : Fin 8) (a : Fin 63) : State :=
  let s1 := s.setTurn r none
  let h := s1.handset r a
  let misses := min (h.misses + 1) 3
  let s2 := s1.setHandset r a { h with misses := misses }
  if misses = 3 ∧ h.present = true then s2.becomeAbsent r a else s2

/-- An answered turn is cut off at 10 ms: its message is abandoned and counted (R55). -/
def State.turnCut (s : State) (r : Fin 8) : State :=
  ((s.setTurn r none).setAssembly (.riser r) Assembly.hunting).countCheckError (.riser r)

end Sys2Proof.Machine
end

