-- ==== Sys2Proof/Machine/Operands.lean ====
section
/-!
DEFINITION. The operand forms of the delivery commands: the message each stands for (Tables 9-6 and 9-7), the delivery
of one message at the head of a receive queue (R164), and the party a link and an address name (R4, R60).
-/

namespace Sys2Proof

/-- The party a talker names; none for a trunk address above 5 (R4). -/
def Talker.party : Talker → Option Party
  | .handset r a => some (.handset r a)
  | .position a => LinkId.trunk.party a

/-- The link a talker speaks on. -/
def Talker.link : Talker → LinkId
  | .handset r _ => .riser r
  | .position _ => .trunk

/-- The address a talker speaks with. -/
def Talker.addr : Talker → Octet
  | .handset _ a => BitVec.ofNat 8 a.val
  | .position a => a

/-- The code of a handset state (Table 9-7). -/
def HandsetReport.code : HandsetReport → Octet
  | .idle => 0x00#8
  | .ringing => 0x01#8
  | .talking => 0x02#8

/-- A message without payload. -/
def bareMsg (a type : Octet) : Message := ⟨a, type, []⟩

/-- KEY with a key code (Table 9-7). -/
def keyMsg (a key : Octet) : Message := ⟨a, 0x01#8, [key]⟩

/-- DOOR with a contact code (Table 9-7). -/
def doorMsg (a : Octet) (isOpen : Bool) : Message := ⟨a, 0x02#8, [flagOctet isOpen]⟩

/-- A message at the management address (R174). -/
def managementMsg (type : Octet) (args : List Octet) : Message := ⟨Config.managementAddress, type, args⟩

/-- The request a request command delivers: its link, its type and its arguments. -/
def Instr.request : Instr → Option (LinkId × Machine.Request × List Octet)
  | .start l a => some (l, .start, a)
  | .stop l a => some (l, .stop, a)
  | .restart l a => some (l, .restart, a)
  | .status l a => some (l, .status, a)
  | .set l a => some (l, .set, a)
  | .get l a => some (l, .get, a)
  | .dirPut l a => some (l, .dirPut, a)
  | .dirDel l a => some (l, .dirDel, a)
  | .dirGet l a => some (l, .dirGet, a)
  | .dirNext l a => some (l, .dirNext, a)
  | .partyGet l a => some (l, .partyGet, a)
  | .partySet l a => some (l, .partySet, a)
  | .callGet l a => some (l, .callGet, a)
  | .callClear l a => some (l, .callClear, a)
  | .linkGet l a => some (l, .linkGet, a)
  | .linkReset l a => some (l, .linkReset, a)
  | .clearCounts l a => some (l, .clearCounts, a)
  | .journalRead l a => some (l, .journalRead, a)
  | .ackAttention l a => some (l, .ackAttention, a)
  | .setTime l a => some (l, .setTime, a)
  | _ => none

/-- The link and the message that a delivery command delivers (Table 9-6); none for the commands that deliver no
message. -/
def Instr.delivery (i : Instr) : Option (LinkId × Message) :=
  match i with
  | .keyDigit p a d => some (.panel p, keyMsg a (BitVec.ofNat 8 d.val))
  | .keyCall p a => some (.panel p, keyMsg a 0x0A#8)
  | .keyCancel p a => some (.panel p, keyMsg a 0x0B#8)
  | .keyDesk p a => some (.panel p, keyMsg a 0x0C#8)
  | .doorOpen p a => some (.panel p, doorMsg a true)
  | .doorShut p a => some (.panel p, doorMsg a false)
  | .hello r a report q =>
    some (.riser r, ⟨BitVec.ofNat 8 a.val, 0x11#8, [report.code, flagOctet q]⟩)
  | .answer t => some (t.link, bareMsg t.addr 0x12#8)
  | .hangup t => some (t.link, bareMsg t.addr 0x13#8)
  | .openDoor t => some (t.link, bareMsg t.addr 0x14#8)
  | .callDesk r a => some (.riser r, bareMsg (BitVec.ofNat 8 a.val) 0x15#8)
  | .quiet r a on => some (.riser r, ⟨BitVec.ofNat 8 a.val, 0x16#8, [flagOctet on]⟩)
  | .extend t => some (t.link, bareMsg t.addr 0x17#8)
  | .logon a => some (.trunk, bareMsg a 0x21#8)
  | .logoff a => some (.trunk, bareMsg a 0x22#8)
  | .dial a code => some (.trunk, ⟨a, 0x23#8, code.octets⟩)
  | .join a call => some (.trunk, ⟨a, 0x24#8, [call]⟩)
  | .catalogueDiscard l m => some (l, m)
  | .managementRefused l type args => some (l, managementMsg type args)
  | .unknownRequest l type args => some (l, managementMsg type args)
  | i => (i.request).map fun x => (x.1, managementMsg x.2.1.code x.2.2)

end Sys2Proof

namespace Sys2Proof.Machine

/-- What a meaning answers. -/
abbrev Outcome := Host.Outcome State Fault Refusal

/-- An event that is no delivery: its work, then the ATTENTION it brings (R189). -/
def State.event (s : State) (effect : State → State) : State := (effect s).settle s

/-- The message of a delivery command as it stands for delivery: where the receive queue is empty the command brings
its message with it (log 1). -/
def State.arrived (s : State) (l : LinkId) (m : Message) : State :=
  if (s.link l).rx = [] then s.setLink l { s.link l with rx := [.message m] } else s

/-- One delivery (R164): the message stands at the head, the block takes it, the event ends, and the message leaves the
queue. A message that is not the next delivery changes nothing (log 2). -/
def State.deliver (s : State) (l : LinkId) (m : Message) (effect : State → State) : State :=
  if s.deliverable l m then
    let s0 := s.arrived l m
    ((effect s0).settle s0).removeHead l (.message m)
  else s

/-- The delivery of a party's message (R165). At the management address a message is no party message (log 2). -/
def State.deliverParty (s : State) (l : LinkId) (m : Message) (effect : State → State) : State :=
  if m.addr = Config.managementAddress then s else s.deliver l m effect

/-- A message of a station: discarded when the station does not exist (R4, R50). -/
def State.fromStation (s : State) (p : Fin 4) (a : Octet) (f : Fin 2 → State → State) : State :=
  if h : a.toNat < 2 then (if s.stationExists p a then f ⟨a.toNat, h⟩ s else s) else s

/-- A message of a handset: the party table takes it first (R60). -/
def State.fromHandset (s : State) (r : Fin 8) (a : Fin 63) (f : State → State) : State := f (s.notePresence r a)

/-- A message of a position: discarded at a trunk address above 5 (R4). -/
def State.fromPosition (s : State) (a : Octet) (f : Fin 6 → State → State) : State :=
  if h : a.toNat < 6 then f ⟨a.toNat, h⟩ s else s

/-- A message that handsets and positions share, from its sender (R4, R60). -/
def State.fromTalker (s : State) (t : Talker) (f : Party → State → State) : State :=
  match t with
  | .handset r a => s.fromHandset r a (f (.handset r a))
  | .position a => s.fromPosition a fun q => f (.position q)

end Sys2Proof.Machine
end

