-- ==== Sys2Proof/Machine/Expiries.lean ====
section
/-!
DEFINITION. The expiries: the timers of a call (chapter 5), the timers of a door (chapter 7), the hold-off wait of a link
(R168) and the seconds counter (R192). An expiry happens when its count has run out and not otherwise: a count that is
stopped, held, or loaded again and still running changes nothing (R90; log 2, log 4).
-/

namespace Sys2Proof.Machine

/-- Whether a call's state count carries a timer and has run out (R90). -/
def CallRecord.stateRanOut (c : CallRecord) (t : StateTimer) : Bool := decide (c.stateCount = some ⟨t, 0⟩)

/-- Whether a call's wait count carries a timer and has run out; a held count does not (R90, R93). -/
def CallRecord.waitRanOut (c : CallRecord) (t : WaitTimer) : Bool := decide (c.waitCount = some ⟨t, 0, false⟩)

/-- A call's state count stopped (R90). -/
def State.stopState (s : State) (n : CallNo) : State := s.setCall n { s.call n with stateCount := none }

/-- A call's wait count stopped (R90). -/
def State.stopWait (s : State) (n : CallNo) : State := s.setCall n { s.call n with waitCount := none }

/-- The digit timer's expiry (R7, R92). -/
def State.digitExpires (n : CallNo) (s : State) : State :=
  if (s.call n).state = .dialling ∧ (s.call n).stateRanOut .digit = true then (s.stopState n).resolveExact n else s

/-- DIGIT_TIMER_EXPIRY (R92). -/
def execDigitTimerExpiry (n : CallNo) (s : State) : Outcome := .next (s.event (State.digitExpires n))

/-- The seek timer's expiry (R94). -/
def State.seekExpires (n : CallNo) (s : State) : State :=
  if (s.call n).state = .seeking ∧ (s.call n).waitRanOut .seek = true then (s.stopWait n).outcome n .congestion else s

/-- SEEK_TIMER_EXPIRY (R94). -/
def execSeekTimerExpiry (n : CallNo) (s : State) : Outcome := .next (s.event (State.seekExpires n))

/-- The camp timer's expiry (R95). -/
def State.campExpires (n : CallNo) (s : State) : State :=
  if (s.call n).state = .camped ∧ (s.call n).stateRanOut .camp = true then (s.stopState n).outcome n .busy else s

/-- CAMP_TIMER_EXPIRY (R95). -/
def execCampTimerExpiry (n : CallNo) (s : State) : Outcome := .next (s.event (State.campExpires n))

/-- The end of a ringing that nobody answered: RING_STOP(TIMEOUT) to every member, every reservation handed back, every
member disengaged, and NO_ANSWER (R20, R96). -/
def State.stopRinging (s : State) (n : CallNo) : State :=
  let c := s.call n
  let s1 := c.alerted.foldl (fun t x => t.sendRingStop x .timeout) s
  let s2 := c.reservations.foldl (fun t x => t.handBack n x) s1
  let s3 := c.alerted.foldl (fun t x => t.disengage n x) s2
  (s3.setCall n { s3.call n with alerted := [] }).outcome n .noAnswer

/-- The alert timer's expiry (R20, R96). -/
def State.alertExpires (n : CallNo) (s : State) : State :=
  if (s.call n).state = .alerting ∧ (s.call n).stateRanOut .alert = true then (s.stopState n).stopRinging n else s

/-- ALERT_TIMER_EXPIRY (R96). -/
def execAlertTimerExpiry (n : CallNo) (s : State) : Outcome := .next (s.event (State.alertExpires n))

/-- The position a call rings, if it rings one (R15). -/
def CallRecord.rungPosition (c : CallRecord) : Option (Fin 6) :=
  match c.state, c.alerted with
  | .alerting, .position q :: _ => some q
  | _, _ => none

/-- The desk ring timer's expiry (R16, R98). -/
def State.deskRingExpires (n : CallNo) (s : State) : State :=
  match (s.call n).rungPosition with
  | some q => if (s.call n).stateRanOut .deskRing then s.positionReturns n q .timeout else s
  | none => s

/-- DESK_RING_EXPIRY (R98). -/
def execDeskRingExpiry (n : CallNo) (s : State) : Outcome := .next (s.event (State.deskRingExpires n))

/-- The end of a hunt that nobody answered (R16, R99). -/
def State.endHunt (s : State) (n : CallNo) : State :=
  match (s.call n).rungPosition with
  | some q =>
    let s1 := s.sendRingStop (.position q) .timeout
    let s2 := s1.setCall n { s1.call n with alerted := [], stateCount := none }
    (s2.disengage n (.position q)).outcome n .noAnswer
  | none => s.outcome n .noAnswer

/-- The desk wait timer's expiry (R16, R99). -/
def State.deskWaitExpires (n : CallNo) (s : State) : State :=
  if ((s.call n).state = .queued ∨ ((s.call n).rungPosition).isSome = true) ∧ (s.call n).waitRanOut .deskWait = true then
    (s.stopWait n).endHunt n
  else s

/-- DESK_WAIT_EXPIRY (R99). -/
def execDeskWaitExpiry (n : CallNo) (s : State) : Outcome := .next (s.event (State.deskWaitExpires n))

/-- The parties of a call that are sent REPLY WARN: the answerer, the joined position, and an origin that is no station
(R101). -/
def CallRecord.warned (c : CallRecord) : List Party :=
  c.answerer.toList ++ (c.joined.map Party.position).toList ++ c.origin.toList.filter fun x => !Party.isStation x

/-- PROGRESS WARN to an origin station, REPLY WARN to the other parties (R101). -/
def State.warn (s : State) (c : CallRecord) : State :=
  let s1 := match c.origin with
    | some (.station p st) => s.sendProgress p st .warn
    | _ => s
  c.warned.foldl (fun t x => t.sendReply x .warn) s1

/-- The talk count has reached 0: the grace bound is fixed and the parties are warned (R101, R102). While it stands above
0, after an EXTEND for one, no warning is given (R103). -/
def State.talkWarns (n : CallNo) (s : State) : State :=
  match (s.call n).state, (s.call n).talk, (s.call n).graceBound with
  | .talking, some t, none =>
    if t.seconds ≤ 0 then (s.setCall n { s.call n with graceBound := some s.params.grace }).warn (s.call n) else s
  | _, _, _ => s

/-- TALK_COUNT_WARNING (R101, R102). -/
def execTalkCountWarning (n : CallNo) (s : State) : Outcome := .next (s.event (State.talkWarns n))

/-- The talk count has reached the negative of the grace bound (R102). -/
def State.talkEnds (n : CallNo) (s : State) : State :=
  match (s.call n).state, (s.call n).talk, (s.call n).graceBound with
  | .talking, some t, some g => if t.seconds ≤ -(g : Int) then s.clear n .timeLimit else s
  | _, _, _ => s

/-- TIME_LIMIT (R102). -/
def execTimeLimit (n : CallNo) (s : State) : Outcome := .next (s.event (State.talkEnds n))

/-- The release timer's expiry (R131). -/
def State.releaseExpires (p : Fin 4) (s : State) : State :=
  if (s.door p).state = .released ∧ (s.door p).releaseTimer = some 0 then s.setDoor p Door.lockedShut else s

/-- RELEASE_TIMER_EXPIRY (R131). -/
def execReleaseTimerExpiry (p : Fin 4) (s : State) : Outcome := .next (s.event (State.releaseExpires p))

/-- The held-open timer's expiry (R133). -/
def State.heldOpenExpires (p : Fin 4) (s : State) : State :=
  if (s.door p).state = .opened ∧ (s.door p).heldOpenTimer = some 0 then
    (s.setDoor p { s.door p with heldOpenTimer := none }).raise .door
  else s

/-- HELD_OPEN_EXPIRY (R133). -/
def execHeldOpenExpiry (p : Fin 4) (s : State) : Outcome := .next (s.event (State.heldOpenExpires p))

/-- A link unit whose head has waited 1 s under partner hold-off: the head is discarded, and the wait of the next head is
loaded at once if the partner still holds off (R168; log 25). -/
def LinkUnit.discardHead (u : LinkUnit) : LinkUnit :=
  { u with
    tx := u.tx.tail
    txDrops := countUp u.txDrops
    holdOffWait := if u.tx.tail.isEmpty = false ∧ u.partnerHoldOff = true then some Config.framesPerSecond else none }

/-- The hold-off wait's expiry (R168). -/
def State.holdOffExpires (l : LinkId) (s : State) : State :=
  if (s.link l).holdOffWait = some 0 then (s.setLink l (s.link l).discardHead).raise .fault else s

/-- HOLD_OFF_WAIT_EXPIRY (R168). -/
def execHoldOffWaitExpiry (l : LinkId) (s : State) : Outcome := .next (s.event (State.holdOffExpires l))

/-- A whole second has passed (R192): the counter rises by one and goes from its top to 0; the next second is measured
from here. -/
def State.secondPasses (s : State) : State :=
  if s.secondLeft = 0 then { s with seconds := (s.seconds + 1) % 4294967296, secondLeft := Config.framesPerSecond } else s

/-- SECONDS_TICK (R192). -/
def execSecondsTick (s : State) : Outcome := .next s.secondPasses

end Sys2Proof.Machine
end

