-- ==== Sys2Proof/Machine/Turns.lean ====
section
/-!
DEFINITION. The commands of the riser turns: TURN_BEGIN, TURN_TIMEOUT and TURN_LIMIT (3-3).
-/

namespace Sys2Proof.Machine

/-- TURN_BEGIN (R54, R56). -/
def execTurnBegin (r : Fin 8) (s : State) : Outcome := .next (s.beginTurn r)

/-- Whether a turn that nobody answered has lasted its 2 ms (R55). -/
def Turn.timedOut (t : Turn) : Bool := !t.answered && decide (Config.turnFrames ≤ t.frames)

/-- Whether an answered turn has lasted its 10 ms (R55). -/
def Turn.overrun (t : Turn) : Bool := t.answered && decide (Config.turnLimitFrames ≤ t.frames)

/-- The end of an unanswered turn that has lasted its time, if there is one (R55, R58; log 4). -/
def State.timeoutTurn (r : Fin 8) (s : State) : State :=
  match s.turn r with
  | some t => if t.timedOut then s.turnUnanswered r t.addr else s
  | none => s

/-- TURN_TIMEOUT (R55, R58, R59). -/
def execTurnTimeout (r : Fin 8) (s : State) : Outcome := .next (s.event (State.timeoutTurn r))

/-- The cut of an answered turn that has lasted its time, if there is one (R55; log 4). -/
def State.limitTurn (r : Fin 8) (s : State) : State :=
  match s.turn r with
  | some t => if t.overrun then s.turnCut r else s
  | none => s

/-- TURN_LIMIT (R55). -/
def execTurnLimit (r : Fin 8) (s : State) : Outcome := .next (s.event (State.limitTurn r))

end Sys2Proof.Machine
end

