-- ==== Sys2Proof/Machine/Clock.lean ====
section
/-!
DEFINITION. The passing of one frame period of 125 us, which is what a step does when no command waits (log 3): every
running count loses one frame period, and the commands that the period brings join the queue.
-/

namespace Sys2Proof.Machine

/-- A call record one frame period later: its state count, its wait count unless it is held, and its talk count, which
falls by one at each whole second (R90, R93, R101). -/
def CallRecord.elapse (c : CallRecord) : CallRecord :=
  { c with
    stateCount := c.stateCount.map fun x => { x with frames := x.frames - 1 }
    waitCount := c.waitCount.map fun x => { x with frames := if x.held then x.frames else x.frames - 1 }
    talk := c.talk.map fun x =>
      if x.frames ≤ 1 then { seconds := x.seconds - 1, frames := Config.framesPerSecond }
      else { x with frames := x.frames - 1 } }

/-- A door record one frame period later (R125). -/
def Door.elapse (d : Door) : Door :=
  { d with
    releaseTimer := d.releaseTimer.map fun f => f - 1
    heldOpenTimer := d.heldOpenTimer.map fun f => f - 1 }

/-- Whether a link unit that classes its frame periods has counted one to its end with nothing taken from the line: its
line was silent (R144). -/
def LinkUnit.silent (u : LinkUnit) : Bool := decide (u.state ≠ .down) && decide (1 ≤ u.unclassed)

/-- A link unit one frame period later: its hold-off wait (R168), the period that begins by its own clock, beside one that
ended silent and is still to be classed (R144), and the silence that a DOWN link presents in every period (R108). -/
def LinkUnit.elapse (u : LinkUnit) : LinkUnit :=
  { u with
    holdOffWait := u.holdOffWait.map fun f => f - 1
    unclassed := if u.silent then u.unclassed + 1 else 1
    presented := if u.state = .down then u.presentSilence.presented else u.presented }

/-- Every running count one frame period later. -/
def State.elapse (s : State) : State :=
  { s with
    links := tableMap LinkUnit.elapse s.links
    calls := tableMap CallRecord.elapse s.calls
    doors := tableMap Door.elapse s.doors
    secondLeft := s.secondLeft - 1 }

/-- A command when a condition holds. -/
def dueWhen (b : Bool) (i : Instr) : List Instr := if b then [i] else []

/-- The turn of a riser that has run out, and the turn that follows with the next frame (R54, R55). -/
def State.dueTurn (s : State) (r : Fin 8) : List Instr :=
  (match s.turn r with
   | some t =>
     dueWhen t.timedOut (.turnTimeout r) ++ dueWhen t.overrun (.turnLimit r)
   | none => []) ++ dueWhen (decide ((s.link (.riser r)).state ≠ .down)) (.turnBegin r)

/-- The expiry of a state count that has run out (R92, R95, R96, R98). -/
def dueState (n : CallNo) : Option StateCount → List Instr
  | some ⟨.digit, 0⟩ => [.digitTimerExpiry n]
  | some ⟨.camp, 0⟩ => [.campTimerExpiry n]
  | some ⟨.alert, 0⟩ => [.alertTimerExpiry n]
  | some ⟨.deskRing, 0⟩ => [.deskRingExpiry n]
  | _ => []

/-- The expiry of a wait count that has run out and is not held (R93, R94, R99). -/
def dueWait (n : CallNo) : Option WaitCount → List Instr
  | some ⟨.seek, 0, false⟩ => [.seekTimerExpiry n]
  | some ⟨.deskWait, 0, false⟩ => [.deskWaitExpiry n]
  | _ => []

/-- The warning or the end of a conversation (R101, R102). -/
def CallRecord.dueTalk (c : CallRecord) (n : CallNo) : List Instr :=
  match c.talk, c.graceBound with
  | some t, none => dueWhen (decide (t.seconds ≤ 0)) (.talkCountWarning n)
  | some t, some g => dueWhen (decide (t.seconds ≤ -(g : Int))) (.timeLimit n)
  | none, _ => []

/-- The expiries of one call. -/
def State.dueCall (s : State) (n : CallNo) : List Instr :=
  dueState n (s.call n).stateCount ++ dueWait n (s.call n).waitCount ++ (s.call n).dueTalk n

/-- The expiries of one door (R131, R133). -/
def State.dueDoor (s : State) (p : Fin 4) : List Instr :=
  dueWhen (decide ((s.door p).releaseTimer = some 0)) (.releaseTimerExpiry p) ++
    dueWhen (decide ((s.door p).heldOpenTimer = some 0)) (.heldOpenExpiry p)

/-- The upstream frame of a link whose line was silent in the period that has ended (R144). -/
def State.dueSilence (s : State) (l : LinkId) : List Instr := dueWhen (s.link l).silent (.upstreamFrame l l.silentBits)

/-- The commands a frame period brings, in the order the model takes them (log 3): turns, the crosspoint, one downstream
frame of each link, the expiries of calls, doors and links, and the second. -/
def State.dueCommands (s : State) : List Instr :=
  allRisers.flatMap s.dueTurn ++ [.voiceFramePeriod] ++ allLinks.map Instr.downstreamFrame ++
    allCalls.flatMap s.dueCall ++ allPanels.flatMap s.dueDoor ++
    allLinks.flatMap (fun l => dueWhen (decide ((s.link l).holdOffWait = some 0)) (.holdOffWaitExpiry l)) ++
    dueWhen (decide (s.secondLeft = 0)) .secondsTick

/-- One frame period with no command waiting: the links that were silent in the period that has ended class it first, and
the commands of the new period follow. Time stands still while RESET is low (R142; log 18). -/
def State.framePeriod (s : State) : State :=
  if s.resetLow then s
  else { s.elapse with pending := allLinks.flatMap s.dueSilence ++ s.elapse.dueCommands }

end Sys2Proof.Machine
end

