-- ==== Sys2Proof/Machine/Management.lean ====
section
/-!
DEFINITION. The management agent of 10_in_band_management.md: the origin set, the parameters by number and index, the
course of a request, and the data a RESULT carries (Tables 9-9, 9-10 and 9-12).
-/

namespace Sys2Proof.Machine

/-! ### The origin set and the parameters -/

/-- The bit of a link in ORIGIN_SET (R187). -/
def originBit (l : LinkId) : Nat := l.index.val

/-- Whether a link is in the origin set (R179, R187). -/
def State.inOrigin (s : State) (l : LinkId) : Bool := s.params.originSet.getLsbD (originBit l)

/-- A parameter with its index (Table 10-2). -/
inductive ParamId where
  | digitTime
  | seekTime
  | campTime
  | alertTime
  | deskRing
  | deskWait
  | talkLimit
  | grace
  | panelGain (p : Fin 4)
  | riserGain (r : Fin 8)
  | trunkGain
  | switchLoss
  | speechThreshold
  | hangTime
  | releaseTime
  | heldLimit
  | journalThreshold
  | stations (p : Fin 4)
  | cadence (p : Fin 4)
  | originSet
  | noticeMask
  deriving DecidableEq, Repr

/-- A parameter without an index takes index 0 only (R186). -/
def plainIndex (x : ParamId) (index : Octet) : Option ParamId := if index = 0#8 then some x else none

/-- A parameter with one value for each panel. -/
def panelIndex (x : Fin 4 → ParamId) (index : Octet) : Option ParamId :=
  if h : index.toNat < 4 then some (x ⟨index.toNat, h⟩) else none

/-- The parameter a number and an index name, if any (Table 10-2, R186). -/
def ParamId.ofOctets (number index : Octet) : Option ParamId :=
  match number.toNat with
  | 0x01 => plainIndex .digitTime index
  | 0x02 => plainIndex .seekTime index
  | 0x03 => plainIndex .campTime index
  | 0x04 => plainIndex .alertTime index
  | 0x05 => plainIndex .deskRing index
  | 0x06 => plainIndex .deskWait index
  | 0x07 => plainIndex .talkLimit index
  | 0x08 => plainIndex .grace index
  | 0x10 => panelIndex .panelGain index
  | 0x11 => if h : index.toNat < 8 then some (.riserGain ⟨index.toNat, h⟩) else none
  | 0x12 => plainIndex .trunkGain index
  | 0x13 => plainIndex .switchLoss index
  | 0x14 => plainIndex .speechThreshold index
  | 0x15 => plainIndex .hangTime index
  | 0x20 => plainIndex .releaseTime index
  | 0x21 => plainIndex .heldLimit index
  | 0x22 => plainIndex .journalThreshold index
  | 0x30 => panelIndex .stations index
  | 0x31 => panelIndex .cadence index
  | 0x40 => plainIndex .originSet index
  | 0x41 => plainIndex .noticeMask index
  | _ => none

/-- The range of a parameter that is clamped to its bounds (Table 10-2); none for the two sets (R187). -/
def ParamId.range : ParamId → Option (Nat × Nat)
  | .digitTime => some (10, 255)
  | .seekTime => some (1, 60)
  | .campTime => some (5, 255)
  | .alertTime => some (5, 120)
  | .deskRing => some (5, 60)
  | .deskWait => some (5, 255)
  | .talkLimit => some (1, 30)
  | .grace => some (5, 60)
  | .panelGain _ | .riserGain _ | .trunkGain | .switchLoss => some (0, 7)
  | .speechThreshold => some (16, 2048)
  | .hangTime => some (0, 255)
  | .releaseTime => some (1, 255)
  | .heldLimit => some (0, 255)
  | .journalThreshold => some (1, 64)
  | .stations _ => some (1, 2)
  | .cadence _ => some (0, 3)
  | .originSet | .noticeMask => none

/-- A number clamped to the nearer bound (R186). -/
def clampTo (lo hi v : Nat) : Nat := if v < lo then lo else if hi < v then hi else v

/-- The value a SET applies: clamped to the range, or with the bits R187 fixes. -/
def ParamId.applied (x : ParamId) (v : BitVec 16) : Nat :=
  match x.range with
  | some (lo, hi) => clampTo lo hi v.toNat
  | none =>
    match x with
    | .originSet => ((v &&& 0x1FFF#16) ||| 0x1000#16).toNat
    | _ => (v &&& 0x007F#16).toNat

/-- The value in force (R186). -/
def Params.value (p : Params) : ParamId → Nat
  | .digitTime => p.digitTime
  | .seekTime => p.seekTime
  | .campTime => p.campTime
  | .alertTime => p.alertTime
  | .deskRing => p.deskRing
  | .deskWait => p.deskWait
  | .talkLimit => p.talkLimit
  | .grace => p.grace
  | .panelGain i => p.panelGain[i]
  | .riserGain i => p.riserGain[i]
  | .trunkGain => p.trunkGain
  | .switchLoss => p.switchLoss
  | .speechThreshold => p.speechThreshold
  | .hangTime => p.hangTime
  | .releaseTime => p.releaseTime
  | .heldLimit => p.heldLimit
  | .journalThreshold => p.journalThreshold
  | .stations i => p.stations[i]
  | .cadence i => (p.cadence[i]).val
  | .originSet => p.originSet.toNat
  | .noticeMask => p.noticeMask.toNat

/-- A parameter written with an applied value (R186). -/
def Params.write (p : Params) (x : ParamId) (v : Nat) : Params :=
  match x with
  | .digitTime => { p with digitTime := v }
  | .seekTime => { p with seekTime := v }
  | .campTime => { p with campTime := v }
  | .alertTime => { p with alertTime := v }
  | .deskRing => { p with deskRing := v }
  | .deskWait => { p with deskWait := v }
  | .talkLimit => { p with talkLimit := v }
  | .grace => { p with grace := v }
  | .panelGain i => { p with panelGain := p.panelGain.set i v }
  | .riserGain i => { p with riserGain := p.riserGain.set i v }
  | .trunkGain => { p with trunkGain := v }
  | .switchLoss => { p with switchLoss := v }
  | .speechThreshold => { p with speechThreshold := v }
  | .hangTime => { p with hangTime := v }
  | .releaseTime => { p with releaseTime := v }
  | .heldLimit => { p with heldLimit := v }
  | .journalThreshold => { p with journalThreshold := v }
  | .stations i => { p with stations := p.stations.set i v }
  | .cadence i => { p with cadence := p.cadence.set i (Fin.ofNat 4 v) }
  | .originSet => { p with originSet := BitVec.ofNat 16 v }
  | .noticeMask => { p with noticeMask := BitVec.ofNat 16 v }

/-! ### The course of a request (R180, R181) -/

/-- What a request comes to: carried out, with its data, or turned down with a status and nothing changed. -/
inductive Answer where
  | done (s : State) (data : List Octet)
  | turnedDown (st : Status)

/-- The state after the request's own effects. -/
def Answer.state (a : Answer) (s : State) : State :=
  match a with
  | .done t _ => t
  | .turnedDown _ => s

/-- The RESULT of a request (R180). -/
def Answer.result (a : Answer) (type : Octet) : Message :=
  match a with
  | .done _ data => resultMsg type .ok data
  | .turnedDown st => resultMsg type st []

/-- A request carried out or turned down: its effects, the ATTENTION they bring, and its RESULT on the link it came from;
a RESULT that a full queue drops may bring one ATTENTION more (R180, R189; log 16). -/
def State.answerRequest (s : State) (l : LinkId) (type : Octet) (a : Answer) : State :=
  let s1 := (a.state s).settle s
  (s1.put l (a.result type)).settle s1

/-- One message at the management address is delivered to the agent as a request (R179, R180): a link outside the origin
set delivers none (log 2). The delivery ends the events within it, so the message leaves the queue last. -/
def State.deliverRequest (s : State) (l : LinkId) (type : Octet) (args : List Octet) (judge : State → Answer) : State :=
  if s.inOrigin l = true ∧ s.deliverable l (managementMsg type args) = true then
    let s0 := s.arrived l (managementMsg type args)
    (s0.answerRequest l type (judge s0)).removeHead l (.message (managementMsg type args))
  else s

/-- The course of one of the twenty requests. -/
def State.takeRequest (s : State) (k : Request) (l : LinkId) (args : List Octet) (judge : State → Answer) : State :=
  s.deliverRequest l k.code args judge

/-! ### Octets of RESULT data -/

/-- A one-octet number, 0xFF for none (Table 9-12). -/
def octetOr (x : Option Nat) : Octet :=
  match x with
  | some n => BitVec.ofNat 8 n
  | none => 0xFF#8

/-- A remaining time in two octets, 0xFFFF when stopped (R175). -/
def timerOctets (x : Option Nat) : List Octet :=
  match x with
  | some f => be16 (stepsLeft f)
  | none => [0xFF#8, 0xFF#8]

/-- A list of octets filled up to `n` places with 0xFF. -/
def padTo (n : Nat) (os : List Octet) : List Octet := os ++ List.replicate (n - os.length) 0xFF#8

/-- The mode's code (R182). -/
def Mode.code : Mode → Octet
  | .standby => 0#8
  | .run => 1#8
  | .draining => 2#8

/-- The number of call records that are not IDLE (R191). -/
def State.inUse (s : State) : Nat := s.calls.toList.countP fun c => decide (c.state ≠ .idle)

/-- The data of STATUS (R191, Table 9-12). -/
def State.statusData (s : State) : List Octet :=
  [s.mode.code, s.attention, s.params.noticeMask.setWidth 8] ++ be16 s.directory.length ++
    [BitVec.ofNat 8 s.inUse, BitVec.ofNat 8 s.journal.length] ++ be16 s.overwrites ++ be32 s.seconds ++ be16 s.refusals

/-- The code of a release kind (Table 9-7). -/
def ReleaseKind.code : ReleaseKind → Octet
  | .byResident => 0x01#8
  | .byDesk => 0x02#8
  | .byCode => 0x03#8

/-- The octets of a journal record (Table 9-9). -/
def JournalRecord.octets (j : JournalRecord) : List Octet :=
  be16 j.sequence ++ be32 j.stamp ++
    [BitVec.ofNat 8 j.panel.val, BitVec.ofNat 8 j.station.val, j.kind.code] ++ partyOctets j.granting ++ codeOctets j.code

/-! ### CALL_GET (R30, R178, Table 9-10) -/

/-- The code of a call state. -/
def CallState.code : CallState → Octet
  | .idle => 0#8
  | .dialling => 1#8
  | .seeking => 2#8
  | .camped => 3#8
  | .queued => 4#8
  | .alerting => 5#8
  | .talking => 6#8

/-- The code of a call kind. -/
def CallKind.code : CallKind → Octet
  | .entrance => 1#8
  | .resident => 2#8
  | .desk => 3#8

/-- The code of a cause, numbered from 1 in the order of Table 1-9; 0 for NONE (R178). -/
def causeCode : Option Cause → Octet
  | none => 0#8
  | some .callerCancel => 1#8
  | some .callerHungup => 2#8
  | some .targetHungup => 3#8
  | some .unknown => 4#8
  | some .barred => 5#8
  | some .busy => 6#8
  | some .quiet => 7#8
  | some .absent => 8#8
  | some .noAnswer => 9#8
  | some .declined => 10#8
  | some .congestion => 11#8
  | some .noDesk => 12#8
  | some .timeLimit => 13#8
  | some .linkLost => 14#8
  | some .forced => 15#8
  | some .restart => 16#8
  | some .accessDone => 17#8
  | some .accessDenied => 18#8

/-- The joined position as a party. -/
def CallRecord.joinedParty (c : CallRecord) : Option Party := c.joined.map Party.position

/-- Part 0 of CALL_GET. -/
def CallRecord.part0 (n : CallNo) (c : CallRecord) : List Octet :=
  [BitVec.ofNat 8 n.val, c.state.code, (c.kind.map CallKind.code).getD 0xFF#8] ++ partyOctets c.origin ++
    codeOctets c.digits ++ [flagOctet c.forwarded, flagOctet c.extended] ++ partyOctets c.answerer ++
    partyOctets c.joinedParty ++
    [BitVec.ofNat 8 c.releases, causeCode c.lastCause, (c.lastProgress.map Progress.code).getD 0xFF#8]

/-- The target count of part 1: 0x0F for DESK. -/
def Targets.countOctet : Targets → Octet
  | .flat ts => BitVec.ofNat 8 ts.length
  | .desk => 0x0F#8

/-- The target parties of part 1, unused ones 0xFF. -/
def Targets.partyOctets : Targets → List Octet
  | .flat ts => padTo 8 (ts.flatMap fun t => Sys2Proof.partyOctets (some (.handset t.1 t.2)))
  | .desk => List.replicate 8 0xFF#8

/-- Part 1 of CALL_GET for a record with a resolved copy. -/
def Resolved.part1 (x : Resolved) : List Octet :=
  [0x01#8, x.targets.countOctet] ++ x.targets.partyOctets ++
    [flagOctet x.fallback, flagOctet x.camp, flagOctet x.duplex, BitVec.ofNat 8 x.alertTime] ++ codeOctets x.code

/-- Part 1 of CALL_GET for a record with no resolved copy: the flag says so and the parties are unused; the manual
states no value for the nine other octets, which are free values (log 14). -/
def State.part1Absent (s : State) : List Octet :=
  [0x00#8, Config.freeOctet s.freeIndex] ++ List.replicate 8 0xFF#8 ++
    (List.range 8).map fun k => Config.freeOctet (s.freeIndex + 1 + k)

/-- The name of a state count. -/
def stateCountName : Option StateCount → Nat
  | none => 0
  | some ⟨.digit, _⟩ => 1
  | some ⟨.camp, _⟩ => 2
  | some ⟨.alert, _⟩ => 3
  | some ⟨.deskRing, _⟩ => 4

/-- The name of a wait count. -/
def waitCountName : Option WaitCount → Nat
  | none => 0
  | some ⟨.seek, _, _⟩ => 5
  | some ⟨.deskWait, _, _⟩ => 6

/-- The talk count in two octets, signed; 0x8000 when absent (R175). -/
def talkOctets : Option TalkCount → List Octet
  | some t => be16 ((t.seconds % 65536).toNat)
  | none => [0x80#8, 0x00#8]

/-- One reservation: the riser in bits 6-4 and the channel in bits 1-0. -/
def reservationOctet (x : Fin 8 × Fin 4) : Octet := BitVec.ofNat 8 (x.1.val * 16 + x.2.val)

/-- Part 2 of CALL_GET. -/
def CallRecord.part2 (c : CallRecord) : List Octet :=
  [BitVec.ofNat 8 c.alerted.length] ++ padTo 8 (c.alerted.flatMap fun x => Sys2Proof.partyOctets (some x)) ++
    [BitVec.ofNat 8 c.reservations.length] ++ padTo 4 (c.reservations.map reservationOctet) ++
    [BitVec.ofNat 8 (stateCountName c.stateCount * 16 + waitCountName c.waitCount)] ++
    timerOctets (c.stateCount.map (·.frames)) ++ timerOctets (c.waitCount.map (·.frames)) ++ talkOctets c.talk ++
    [octetOr c.graceBound]

/-- The code of a voice mode. -/
def VoiceMode.code : VoiceMode → Octet
  | .switched => 1#8
  | .duplex => 2#8
  | .mixed => 3#8

/-- The code of a direction. -/
def Direction.code : Direction → Octet
  | .neutral => 0#8
  | .entrance => 1#8
  | .inside => 2#8

/-- Part 3 of CALL_GET: the voice state of the latest frame period completed (R124); where there is none the mode is 0xFF
and the rest 0x00 (R178; log 22). -/
def CallRecord.part3 (c : CallRecord) : List Octet :=
  match c.state, c.lastPeriod with
  | .talking, some v =>
    [v.mode.code] ++ be16 v.originMeter ++ be16 v.answererMeter ++
      (match v.joinedMeter with
       | some j => be16 j
       | none => [0xFF#8, 0xFF#8]) ++ [v.direction.code] ++ be16 v.hang
  | _, _ => 0xFF#8 :: List.replicate 9 0x00#8

/-- CALL_GET of a call number and a part (R30, R178). -/
def State.judgeCallGet (s : State) (number part : Octet) : Answer :=
  if h : number.toNat < 16 then
    let n : CallNo := ⟨number.toNat, h⟩
    let c := s.call n
    match part.toNat with
    | 0 => .done s (c.part0 n)
    | 1 =>
      match c.resolved with
      | some x => .done s x.part1
      | none => .done { s with freeIndex := s.freeIndex + 9 } s.part1Absent
    | 2 => .done s c.part2
    | 3 => .done s c.part3
    | _ => .turnedDown .badArgument
  else .turnedDown .badArgument

/-! ### PARTY_GET and LINK_GET -/

/-- A call number in one octet, 0xFF for none. -/
def callOctet (x : Option CallNo) : Octet := octetOr (x.map (·.val))

/-- The place of a position in the idle order, counted from 1 (R70). -/
def State.idlePlace (s : State) (q : Fin 6) : Option Nat :=
  if q ∈ s.idleOrder then some (s.idleOrder.idxOf q + 1) else none

/-- The data of PARTY_GET (R70, Table 9-12; the presence and logon octets are log 15). -/
def State.partyData (s : State) : Party → List Octet
  | .station p st =>
    [flagOctet (s.stationExists p (BitVec.ofNat 8 st.val)), callOctet (s.station p st)]
  | .handset r a =>
    let h := s.handset r a
    [Config.presenceOctet h.present, BitVec.ofNat 8 h.misses, flagOctet h.quiet, callOctet h.engaged] ++
      padTo 2 (h.watch.map fun n => BitVec.ofNat 8 n.val)
  | .position q =>
    [Config.logonOctet (s.position q).loggedOn, callOctet (s.position q).engaged, octetOr (s.idlePlace q)]

/-- The code of a link state. -/
def LinkState.code : LinkState → Octet
  | .down => 0#8
  | .up => 1#8
  | .impaired => 2#8

/-- The code of a door state. -/
def DoorState.code : DoorState → Octet
  | .locked => 0#8
  | .released => 1#8
  | .opened => 2#8

/-- The partner hold-off, the granted address and the door fields of LINK_GET by link kind, absent ones 0xFF (R135,
R156). -/
def State.linkTail (s : State) (l : LinkId) : List Octet :=
  match l with
  | .panel p =>
    [flagOctet (s.link l).partnerHoldOff, 0xFF#8, (s.door p).state.code] ++ timerOctets (s.door p).releaseTimer ++
      timerOctets (s.door p).heldOpenTimer
  | .riser r =>
    [0xFF#8, octetOr ((s.turn r).map fun t => t.addr.val), 0xFF#8, 0xFF#8, 0xFF#8, 0xFF#8, 0xFF#8]
  | .trunk => [flagOctet (s.link l).partnerHoldOff, 0xFF#8, 0xFF#8, 0xFF#8, 0xFF#8, 0xFF#8, 0xFF#8]

/-- The data of LINK_GET (R156, Table 9-12). -/
def State.linkData (s : State) (l : LinkId) : List Octet :=
  let u := s.link l
  [u.state.code] ++ be16 u.badFrames ++ be16 u.checkErrors ++ be16 u.overruns ++ be16 u.txDrops ++
    [BitVec.ofNat 8 u.rx.length, flagOctet u.holding.isSome, BitVec.ofNat 8 u.tx.length, flagOctet u.holdsOff] ++
    s.linkTail l

/-! ### LINK_RESET, CLEAR_COUNTS (R155, R156) -/

/-- A link unit with its four counters at 0. -/
def LinkUnit.zeroCounters (u : LinkUnit) : LinkUnit := { u with badFrames := 0, checkErrors := 0, overruns := 0, txDrops := 0 }

/-- LINK_RESET of a link (R155). -/
def State.linkReset (s : State) (l : LinkId) : State :=
  let s1 := s.setLink l (s.link l).zeroCounters
  if (s.link l).state = .down then s1.setLink l { s1.link l with candidate := none, markerRun := 0 }
  else s1.goDown l

/-! ### RESTART (R193, R194) -/

/-- A call record after RESTART (R29). -/
def CallRecord.restarted (c : CallRecord) : CallRecord :=
  { CallRecord.blank with releases := c.releases, lastCause := some .restart }

/-- A scheduler after RESTART: an answered turn ends (R53). -/
def Scheduler.restarted (x : Scheduler) : Scheduler :=
  { x with turn := x.turn.filter fun t => !t.answered }

/-- The blocks set as their rules state (R193). -/
def State.restartBlocks (s : State) : State :=
  { s with
    links := tableMap LinkUnit.flushed s.links
    calls := tableMap CallRecord.restarted s.calls
    handsets := tableMap (fun v => tableMap (fun h : Handset => { h with engaged := none, watch := [] }) v) s.handsets
    stations := Vector.replicate 4 (Vector.replicate 2 none)
    positions := tableMap (fun x : Position => { x with engaged := none }) s.positions
    schedulers := tableMap Scheduler.restarted s.schedulers
    channels := Vector.replicate 8 (Vector.replicate 4 none)
    seekQueues := Vector.replicate 8 []
    deskQueue := []
    idleOrder := allPositions.filter fun q => (s.position q).loggedOn
    doors := Vector.replicate 4 Door.lockedShut
    mode := .standby
    attention := 0#8 }

/-- PROGRESS CLEARED to the stations of a panel that exist, station 0 first (R194). -/
def State.clearedStations (s : State) (p : Fin 4) : State :=
  [(0 : Fin 2), 1].foldl
    (fun t st => if t.stationExists p (BitVec.ofNat 8 st.val) then t.sendProgress p st .cleared else t) s

/-- The messages of RESTART (R194), short of its RESULT. -/
def State.restartMessages (s : State) : State :=
  let s1 := allRisers.foldl (fun t r => t.put (.riser r) (clearMsg Config.managementAddress .restart)) s
  let s2 := s1.put .trunk (clearMsg Config.managementAddress .restart)
  allPanels.foldl State.clearedStations s2

/-! ### The remaining requests -/

/-- STOP (R184). -/
def State.judgeStop (s : State) : Answer :=
  match s.mode with
  | .run => .done { s with mode := if s.allIdle then .standby else .draining } []
  | .standby => .turnedDown .notNow
  | .draining => .turnedDown .notNow

/-- SET (R186). -/
def State.judgeSet (s : State) (number index hi lo : Octet) : Answer :=
  match ParamId.ofOctets number index with
  | some x =>
    let v := x.applied (hi ++ lo)
    .done { s with params := s.params.write x v } (be16 v)
  | none => .turnedDown .badArgument

/-- GET (R186). -/
def State.judgeGet (s : State) (number index : Octet) : Answer :=
  match ParamId.ofOctets number index with
  | some x => .done s (be16 (s.params.value x))
  | none => .turnedDown .badArgument

/-- DIR_PUT (R36, R37). -/
def State.judgeDirPut (s : State) (args : List Octet) : Answer :=
  match entryOfOctets args with
  | some e =>
    match putEntry e s.directory with
    | some (d, inserted) => .done { s with directory := d } ((if inserted then 0x01#8 else 0x02#8) :: be16 d.length)
    | none => .turnedDown .full
  | none => .turnedDown .badArgument

/-- DIR_DEL (R38). -/
def State.judgeDirDel (s : State) (f : CodeField) : Answer :=
  match f.code with
  | some c =>
    if (entryOf c s.directory).isSome then
      .done { s with directory := deleteEntry c s.directory } (be16 (deleteEntry c s.directory).length)
    else .turnedDown .notFound
  | none => .turnedDown .badArgument

/-- An entry found, or NOT_FOUND. -/
def State.entryAnswer (s : State) : Option Entry → Answer
  | some e => .done s (entryOctets e)
  | none => .turnedDown .notFound

/-- DIR_GET (R39). -/
def State.judgeDirGet (s : State) (f : CodeField) : Answer :=
  match f.code with
  | some c => s.entryAnswer (entryOf c s.directory)
  | none => .turnedDown .badArgument

/-- DIR_NEXT (R40). -/
def State.judgeDirNext (s : State) (f : CodeField) : Answer :=
  match f.codeOrEmpty with
  | some c => s.entryAnswer (entryAfter c s.directory)
  | none => .turnedDown .badArgument

/-- PARTY_GET (R70). -/
def State.judgePartyGet (s : State) (code a : Octet) : Answer :=
  match partyOfOctets code a with
  | some x => .done s (s.partyData x)
  | none => .turnedDown .badArgument

/-- PARTY_SET (R71). -/
def State.judgePartySet (s : State) (code a quiet : Octet) : Answer :=
  match partyOfOctets code a, flagOfOctet quiet with
  | some (.handset r h), some q => .done (s.setHandset r h { s.handset r h with quiet := q }) [flagOctet q]
  | _, _ => .turnedDown .badArgument

/-- CALL_CLEAR (R30). -/
def State.judgeCallClear (s : State) (number : Octet) : Answer :=
  if h : number.toNat < 16 then
    if (s.call ⟨number.toNat, h⟩).state = .idle then .turnedDown .notFound
    else .done (s.clear ⟨number.toNat, h⟩ .forced) []
  else .turnedDown .badArgument

/-- LINK_GET (R156). -/
def State.judgeLinkGet (s : State) (code : Octet) : Answer :=
  match LinkId.ofCode code with
  | some l => .done s (s.linkData l)
  | none => .turnedDown .badArgument

/-- LINK_RESET (R155). -/
def State.judgeLinkReset (s : State) (code : Octet) : Answer :=
  match LinkId.ofCode code with
  | some l => .done (s.linkReset l) []
  | none => .turnedDown .badArgument

/-- CLEAR_COUNTS (R156, R179). -/
def State.judgeClearCounts (s : State) (code : Octet) : Answer :=
  if code = 0xFF#8 then .done { s with links := tableMap LinkUnit.zeroCounters s.links, refusals := 0 } []
  else
    match LinkId.ofCode code with
    | some l => .done (s.setLink l (s.link l).zeroCounters) []
    | none => .turnedDown .badArgument

/-- JOURNAL_READ (R140, R177). -/
def State.judgeJournalRead (s : State) : Answer :=
  match s.journal with
  | j :: rest => .done { s with journal := rest } (j.octets ++ [BitVec.ofNat 8 rest.length])
  | [] => .turnedDown .notFound

/-- ACK_ATTENTION (R190). -/
def State.judgeAckAttention (s : State) (set : Octet) : Answer :=
  if set.getLsbD 7 then .turnedDown .badArgument
  else .done { s with attention := s.attention &&& ~~~set } [s.attention &&& ~~~set]

/-- SET_TIME (R192). -/
def State.judgeSetTime (s : State) (a b c d : Octet) : Answer :=
  .done { s with seconds := ofBe16 a b * 65536 + ofBe16 c d, secondLeft := Config.framesPerSecond } []

end Sys2Proof.Machine
end

