-- ==== Sys2Proof/Machine/Delivery.lean ====
section
/-!
DEFINITION. The deliveries that are no party message taken by its block: a message that does not fit the catalogue
(R165), the LOST marker (R28), and a message at the management address that is no request (R179, R181).
-/

namespace Sys2Proof.Machine

/-- CATALOGUE_DISCARD (R165): a message that fits the catalogue is not discarded, and the command has no occasion (log 2). -/
def execCatalogueDiscard (l : LinkId) (m : Message) (s : State) : Outcome :=
  .next (if fitsCatalogue l m then s else s.deliverParty l m fun t => t.countCheckError l)

/-- LOST_MARKER (R28, R153): the marker leaves the queue when the call table has taken it. -/
def execLostMarker (l : LinkId) (s : State) : Outcome :=
  .next (if (s.link l).rx.head? = some .lost then (s.event fun t => t.clearLost l).removeHead l .lost else s)

/-- A message at the management address from a link outside the origin set: RESULT REFUSED, the refusal counter and
FAULT (R165, R179). -/
def State.refuseManagement (l : LinkId) (type : Octet) (s : State) : State :=
  let s1 := s.put l (resultMsg type .refused [])
  State.raise { s1 with refusals := countUp s1.refusals } .fault

/-- MANAGEMENT_REFUSED (R179). -/
def execManagementRefused (l : LinkId) (type : Octet) (args : List Octet) (s : State) : Outcome :=
  .next (if s.inOrigin l then s else s.deliver l (managementMsg type args) (State.refuseManagement l type))

/-- UNKNOWN_REQUEST (R181): a request type is not unknown. -/
def execUnknownRequest (l : LinkId) (type : Octet) (args : List Octet) (s : State) : Outcome :=
  .next (if isRequestType type then s
    else s.deliverRequest l type args fun _ => .turnedDown .unknownRequest)

end Sys2Proof.Machine
end

