-- ==== Sys2Proof/Machine/Frames.lean ====
section
/-!
DEFINITION. The commands of power, of the frames and of the voice: POWER_ON, RESET_ASSERTED, UPSTREAM_FRAME,
DOWNSTREAM_FRAME, VOICE_FRAME_PERIOD and HANG_COUNTER_EXPIRY (chapters 6 and 8).
-/

namespace Sys2Proof.Machine

/-- POWER_ON (R142): every block takes its power-on values. The waiting commands and the index of the free values are the
model's own and stay (log 18). -/
def execPowerOn (s : State) : Outcome := .next { State.reset with pending := s.pending, freeIndex := s.freeIndex }

/-- RESET_ASSERTED (R142): every line output is held at the stop level and no frame is sent. -/
def execResetAsserted (s : State) : Outcome :=
  .next { s with resetLow := true, links := tableMap (fun u : LinkUnit => { u with line := none }) s.links }

/-- A link unit whose receiver has taken the line bits of a frame period, which is one period less to hunt or class
(R142, R144). -/
def LinkUnit.received (u : LinkUnit) (bits : List Bool) : LinkUnit :=
  { u with receiver := (u.receiver.period bits).1, unclassed := u.unclassed - 1 }

/-- UPSTREAM_FRAME (R142, R144 to R152). -/
def execUpstreamFrame (l : LinkId) (bits : List Bool) (s : State) : Outcome :=
  .next (((s.setLink l ((s.link l).received bits)).upstream l bits.length
    ((s.link l).receiver.period bits).2).settleUpstream s l)

/-- DOWNSTREAM_FRAME (R143, R150, R167). -/
def execDownstreamFrame (l : LinkId) (s : State) : Outcome := .next (s.downstream l)

/-- VOICE_FRAME_PERIOD (R109, R113). -/
def execVoiceFramePeriod (s : State) : Outcome := .next s.voicePeriod

/-- A switched call whose hang counter has run out returns to NEUTRAL where its meters call for it: the holding side below
the speech threshold and no break-in by the other (R116; log 4, log 26). -/
def State.hangRunsOut (s : State) (n : CallNo) : State :=
  match (s.call n).state, (s.call n).voice with
  | .talking, some v =>
    if v.mode = .switched ∧ v.direction ≠ .neutral ∧ v.hang = 0 ∧
        (directionDecision s.params v.direction v.originMeter v.answererMeter v.hang).1 = .neutral then
      s.setCall n { s.call n with voice := some { v with direction := .neutral } }
    else s
  | _, _ => s

/-- HANG_COUNTER_EXPIRY (R116). -/
def execHangCounterExpiry (n : CallNo) (s : State) : Outcome := .next (s.hangRunsOut n)

end Sys2Proof.Machine
end

