-- ==== Sys2Proof/Machine/Grants.lean ====
section
/-!
DEFINITION. The grants and wakes that the rules take within the event that brings them, as commands of their own
(log 26): CHANNEL_GRANT, CAMP_WAKE, DESK_QUEUE_WAKE and DRAIN_END. Where nothing waits, they change nothing.
-/

namespace Sys2Proof.Machine

/-- A channel that is FREE while calls wait is granted down the seek queue (R77, R79). -/
def State.grantWaiting (r : Fin 8) (c : Fin 4) (s : State) : State :=
  if (s.channel r c).isNone = true ∧ (s.seekQueue r).isEmpty = false then s.free r c else s

/-- CHANNEL_GRANT (R77). -/
def execChannelGrant (r : Fin 8) (c : Fin 4) (s : State) : Outcome := .next (s.event (State.grantWaiting r c))

/-- The head of the watch list of a handset that no call engages is woken (R68). -/
def State.wakeWaiting (r : Fin 8) (a : Fin 63) (s : State) : State :=
  if (s.handset r a).engaged.isNone then s.wakeHead r a else s

/-- CAMP_WAKE (R68). -/
def execCampWake (r : Fin 8) (a : Fin 63) (s : State) : Outcome := .next (s.event (State.wakeWaiting r a))

/-- The head of the desk queue is woken while a position stands in the idle order (R88). -/
def State.wakeQueued (s : State) : State := if s.idleOrder.isEmpty then s else s.wakeDesk

/-- DESK_QUEUE_WAKE (R88). -/
def execDeskQueueWake (s : State) : Outcome := .next (s.event State.wakeQueued)

/-- DRAIN_END (R184). -/
def execDrainEnd (s : State) : Outcome := .next (s.event State.endDrain)

end Sys2Proof.Machine
end

