-- ==== Sys2Proof/Machine/Handsets.lean ====
section
/-!
DEFINITION. The commands that deliver the messages of handsets, and those that handsets and positions share: HELLO,
ANSWER, HANGUP, OPEN_DOOR, CALL_DESK, QUIET and EXTEND.
-/

namespace Sys2Proof.Machine

/-- Reconciliation of a handset's reported state with its role (Table 3-2). -/
def State.reconcile (s : State) (r : Fin 8) (a : Fin 63) (report : HandsetReport) : State :=
  match report, s.roleOf (.handset r a) with
  | .idle, none => s
  | .idle, some (n, .alerted) => s.sendRing n (r, a)
  | .idle, some (_, .answerer) => s.hangupHandset r a
  | .idle, some (_, .origin) => s.hangupHandset r a
  | .idle, some (_, .joined) => s
  | .ringing, none => s.sendClear (.handset r a) .normal
  | .ringing, some (_, .alerted) => s
  | .ringing, some (n, .answerer) => s.connectParty n (.handset r a)
  | .ringing, some (n, .origin) =>
    if (s.call n).state = .talking then s.connectParty n (.handset r a) else s
  | .ringing, some (_, .joined) => s
  | .talking, none => s.sendClear (.handset r a) .normal
  | .talking, some _ => s

/-- The quiet flag of a handset written (R62, R63). -/
def State.setQuiet (s : State) (r : Fin 8) (a : Fin 63) (quiet : Bool) : State :=
  s.setHandset r a { s.handset r a with quiet := quiet }

/-- HELLO (R62). -/
def execHello (r : Fin 8) (a : Fin 63) (report : HandsetReport) (quiet : Bool) (s : State) : Outcome :=
  .next (s.deliverParty (.riser r) ⟨BitVec.ofNat 8 a.val, 0x11#8, [report.code, flagOctet quiet]⟩ fun t =>
    t.fromHandset r a fun x => (x.setQuiet r a quiet).reconcile r a report)

/-- ANSWER by its sender's role (R17, R18, R19). -/
def State.answers (x : Party) (s : State) : State :=
  match s.roleOf x with
  | some (n, .alerted) =>
    if (s.call n).state = .alerting then
      match x with
      | .handset r a => s.answerHandset n r a
      | .position q => s.answerPosition n q
      | .station _ _ => s
    else s.sendClear x .normal
  | _ => s.sendClear x .normal

/-- ANSWER (R17 to R19). -/
def execAnswer (t : Talker) (s : State) : Outcome :=
  .next (s.deliverParty t.link (bareMsg t.addr 0x12#8) fun u => u.fromTalker t State.answers)

/-- HANGUP by its sender's role (R16, R20 to R25). -/
def State.hangsUp (x : Party) (s : State) : State :=
  match x with
  | .handset r a => s.hangupHandset r a
  | .position q => s.hangupPosition q
  | .station _ _ => s

/-- HANGUP (R16, R20 to R25). -/
def execHangup (t : Talker) (s : State) : Outcome :=
  .next (s.deliverParty t.link (bareMsg t.addr 0x13#8) fun u => u.fromTalker t State.hangsUp)

/-- The call and the station whose door a party may open: it is the answerer or the joined position of an ENTRANCE call
in TALKING (R126). -/
def State.doorCall (s : State) (x : Party) : Option (CallNo × Fin 4 × Fin 2) :=
  match s.roleOf x with
  | some (n, ro) =>
    if (ro = .answerer ∨ ro = .joined) ∧ (s.call n).kind = some .entrance ∧ (s.call n).state = .talking then
      match (s.call n).origin with
      | some (.station p st) => some (n, p, st)
      | _ => none
    else none
  | none => none

/-- The journal kind of a release a party asks for (Table 7-3). -/
def releaseKindOf (x : Party) : ReleaseKind := if Party.isPosition x then .byDesk else .byResident

/-- The entry code of a call's resolved copy. -/
def CallRecord.entryCode (c : CallRecord) : Code := (c.resolved.map (·.code)).getD []

/-- The messages that follow the door unit's answer to an OPEN_DOOR (R127, R128). -/
def State.tellRelease (s : State) (p : Fin 4) (st : Fin 2) (x : Party) : ReleaseAnswer → State
  | .started => (s.sendProgress p st .opened).sendReply x .accepted
  | .already => s.sendReply x .already
  | .refused => s.sendReply x .refused

/-- OPEN_DOOR by its sender (R126, R127, R128). -/
def State.opensDoor (x : Party) (s : State) : State :=
  match s.doorCall x with
  | some (n, p, st) =>
    let y := s.requestRelease n p st (releaseKindOf x) (some x) (s.call n).entryCode
    y.2.tellRelease p st x y.1
  | none => s.sendReply x .refused

/-- OPEN_DOOR (R126). -/
def execOpenDoor (t : Talker) (s : State) : Outcome :=
  .next (s.deliverParty t.link (bareMsg t.addr 0x14#8) fun u => u.fromTalker t State.opensDoor)

/-- A RESIDENT call that has just been created asks for its channel: it goes on to the desk, or seeks (R21, R76). -/
def State.placeResident (s : State) (n : CallNo) (r : Fin 8) : State :=
  let s1 := (s.takeCopy n (deskCopy true [])).reserve n r
  if ((s1.call n).channelOn r).isSome then
    if s1.loggedOnCount = 0 then s1.outcome n .noDesk else s1.acceptResident n
  else s1.enterSeeking n r

/-- CALL_DESK by its sender (R3, R21). -/
def State.callsDesk (r : Fin 8) (a : Fin 63) (s : State) : State :=
  if (s.handset r a).engaged.isSome then s.sendReply (.handset r a) .refused
  else
    match s.create .resident .seeking (.handset r a) [] with
    | some (n, t) => t.placeResident n r
    | none => s.refuseCaller (.handset r a)

/-- CALL_DESK (R21). -/
def execCallDesk (r : Fin 8) (a : Fin 63) (s : State) : Outcome :=
  .next (s.deliverParty (.riser r) (bareMsg (BitVec.ofNat 8 a.val) 0x15#8) fun t =>
    t.fromHandset r a (State.callsDesk r a))

/-- QUIET (R63). -/
def execQuiet (r : Fin 8) (a : Fin 63) (on : Bool) (s : State) : Outcome :=
  .next (s.deliverParty (.riser r) ⟨BitVec.ofNat 8 a.val, 0x16#8, [flagOctet on]⟩ fun t =>
    t.fromHandset r a fun x => (x.setQuiet r a on).sendReply (.handset r a) .accepted)

/-- The call a party may extend: it is the answerer of a call in TALKING not yet extended (R103). -/
def State.extendCall (s : State) (x : Party) : Option CallNo :=
  match s.roleOf x with
  | some (n, .answerer) => if (s.call n).state = .talking ∧ (s.call n).extended = false then some n else none
  | _ => none

/-- EXTEND by its sender (R103). -/
def State.extends (x : Party) (s : State) : State :=
  match s.extendCall x with
  | some n =>
    (s.setCall n
      { s.call n with talk := loadTalk s.params.talkLimit, extended := true, graceBound := none }).sendReply x .accepted
  | none => s.sendReply x .refused

/-- EXTEND (R103). -/
def execExtend (t : Talker) (s : State) : Outcome :=
  .next (s.deliverParty t.link (bareMsg t.addr 0x17#8) fun u => u.fromTalker t State.extends)

end Sys2Proof.Machine
end

