-- ==== Sys2Proof/Machine/Positions.lean ====
section
/-!
DEFINITION. The commands that deliver a position's own messages: LOGON, LOGOFF, DIAL and JOIN (R22, R23, R64, R65).
-/

namespace Sys2Proof.Machine

/-- A position takes the tail of the idle order unless it stands there (R85). -/
def State.joinIdleOrder (s : State) (q : Fin 6) : State :=
  if q ∈ s.idleOrder then s else { s with idleOrder := s.idleOrder ++ [q] }

/-- The logon state of a position written. -/
def State.setLoggedOn (s : State) (q : Fin 6) (on : Bool) : State :=
  s.setPosition q { s.position q with loggedOn := on }

/-- LOGON by its sender (R64): the REPLY goes before what the wake of the desk queue sends (log 24). -/
def State.logsOn (q : Fin 6) (s : State) : State :=
  if (s.position q).loggedOn then s.sendReply (.position q) .accepted
  else ((((s.setLoggedOn q true).joinIdleOrder q).raise .party).sendReply (.position q) .accepted).wakeDesk

/-- LOGON (R64). -/
def execLogon (a : Octet) (s : State) : Outcome :=
  .next (s.deliverParty .trunk (bareMsg a 0x21#8) fun t => t.fromPosition a State.logsOn)

/-- A free position logs off (R65). -/
def State.leaveDesk (s : State) (q : Fin 6) : State :=
  let s1 := s.setLoggedOn q false
  let s2 := ({ s1 with idleOrder := s1.idleOrder.filter (· ≠ q) }.raise .party).sendReply (.position q) .accepted
  if s2.loggedOnCount = 0 then s2.handOverQueue else s2

/-- LOGOFF by its sender (R65). -/
def State.logsOff (q : Fin 6) (s : State) : State :=
  if (s.position q).engaged.isSome then s.sendReply (.position q) .refused
  else if (s.position q).loggedOn then s.leaveDesk q
  else s.sendReply (.position q) .accepted

/-- LOGOFF (R65). -/
def execLogoff (a : Octet) (s : State) : Outcome :=
  .next (s.deliverParty .trunk (bareMsg a 0x22#8) fun t => t.fromPosition a State.logsOff)

/-- Whether a position is logged on and not engaged (R22, R23). -/
def Position.free (x : Position) : Bool := x.loggedOn && x.engaged.isNone

/-- The origin position of a DESK-kind call is sent REPLY ACCEPTED when the call waits or rings (R22). -/
def State.acceptDial (s : State) (n : CallNo) (q : Fin 6) : State :=
  match (s.call n).state with
  | .seeking | .camped | .alerting => s.sendReply (.position q) .accepted
  | .idle | .dialling | .queued | .talking => s

/-- DIAL by its sender (R3, R22). -/
def State.dials (code : CodeField) (q : Fin 6) (s : State) : State :=
  match code.code with
  | some c =>
    if (s.position q).free then
      match s.create .desk .dialling (.position q) c with
      | some (n, t) => (t.resolveExact n).acceptDial n q
      | none => s.refuseCaller (.position q)
    else s.sendReply (.position q) .refused
  | none => s.sendReply (.position q) .refused

/-- DIAL (R22). -/
def execDial (a : Octet) (code : CodeField) (s : State) : Outcome :=
  .next (s.deliverParty .trunk ⟨a, 0x23#8, code.octets⟩ fun t => t.fromPosition a (State.dials code))

/-- Whether a record holds a call that a position may join (R23). -/
def CallRecord.joinable (c : CallRecord) : Bool :=
  decide (c.kind = some .entrance) && decide (c.state = .talking) && c.joined.isNone &&
    match c.answerer with
    | some (.handset _ _) => true
    | _ => false

/-- The joinable call a JOIN names, if any (R23). -/
def State.joinCall (s : State) (call : Octet) : Option CallNo :=
  if h : call.toNat < 16 then
    (if (s.call ⟨call.toNat, h⟩).joinable then some ⟨call.toNat, h⟩ else none)
  else none

/-- A position joins a call (R23, R120). -/
def State.enterJoin (s : State) (n : CallNo) (q : Fin 6) : State :=
  let s1 := s.engage (.position q) n
  let s2 := s1.setCall n { s1.call n with joined := some q }
  (s2.sendConnect (.position q) q.val).joinVoice n q

/-- JOIN by its sender (R23). -/
def State.joins (call : Octet) (q : Fin 6) (s : State) : State :=
  if (s.position q).free then
    match s.joinCall call with
    | some n => s.enterJoin n q
    | none => s.sendReply (.position q) .refused
  else s.sendReply (.position q) .refused

/-- JOIN (R23). -/
def execJoin (a : Octet) (call : Octet) (s : State) : Outcome :=
  .next (s.deliverParty .trunk ⟨a, 0x24#8, [call]⟩ fun t => t.fromPosition a (State.joins call))

end Sys2Proof.Machine
end

