-- ==== Sys2Proof/Machine/Requests.lean ====
section
/-!
DEFINITION. The twenty management requests (Table 9-12): each judges its payload and acts (R180, R181). A payload shorter
than the request requires gives BAD_ARGUMENT; octets beyond it are ignored.
-/

namespace Sys2Proof.Machine

/-- START (R183). -/
def execStart (l : LinkId) (args : List Octet) (s : State) : Outcome :=
  .next (s.takeRequest .start l args fun t => .done { t with mode := .run } [])

/-- STOP (R184). -/
def execStop (l : LinkId) (args : List Octet) (s : State) : Outcome :=
  .next (s.takeRequest .stop l args State.judgeStop)

/-- RESTART (R193, R194). -/
def execRestart (l : LinkId) (args : List Octet) (s : State) : Outcome :=
  .next (s.takeRequest .restart l args fun t => .done t.restartBlocks.restartMessages [])

/-- STATUS (R191). -/
def execStatus (l : LinkId) (args : List Octet) (s : State) : Outcome :=
  .next (s.takeRequest .status l args fun t => .done t t.statusData)

/-- SET (R186, R187). -/
def execSet (l : LinkId) (args : List Octet) (s : State) : Outcome :=
  .next (s.takeRequest .set l args fun t =>
    match args with
    | number :: index :: hi :: lo :: _ => t.judgeSet number index hi lo
    | _ => .turnedDown .badArgument)

/-- GET (R186). -/
def execGet (l : LinkId) (args : List Octet) (s : State) : Outcome :=
  .next (s.takeRequest .get l args fun t =>
    match args with
    | number :: index :: _ => t.judgeGet number index
    | _ => .turnedDown .badArgument)

/-- DIR_PUT (R36, R37). -/
def execDirPut (l : LinkId) (args : List Octet) (s : State) : Outcome :=
  .next (s.takeRequest .dirPut l args fun t => t.judgeDirPut args)

/-- DIR_DEL (R38). -/
def execDirDel (l : LinkId) (args : List Octet) (s : State) : Outcome :=
  .next (s.takeRequest .dirDel l args fun t =>
    match codeFieldOf args with
    | some f => t.judgeDirDel f
    | none => .turnedDown .badArgument)

/-- DIR_GET (R39). -/
def execDirGet (l : LinkId) (args : List Octet) (s : State) : Outcome :=
  .next (s.takeRequest .dirGet l args fun t =>
    match codeFieldOf args with
    | some f => t.judgeDirGet f
    | none => .turnedDown .badArgument)

/-- DIR_NEXT (R40). -/
def execDirNext (l : LinkId) (args : List Octet) (s : State) : Outcome :=
  .next (s.takeRequest .dirNext l args fun t =>
    match codeFieldOf args with
    | some f => t.judgeDirNext f
    | none => .turnedDown .badArgument)

/-- PARTY_GET (R70). -/
def execPartyGet (l : LinkId) (args : List Octet) (s : State) : Outcome :=
  .next (s.takeRequest .partyGet l args fun t =>
    match args with
    | code :: a :: _ => t.judgePartyGet code a
    | _ => .turnedDown .badArgument)

/-- PARTY_SET (R71). -/
def execPartySet (l : LinkId) (args : List Octet) (s : State) : Outcome :=
  .next (s.takeRequest .partySet l args fun t =>
    match args with
    | code :: a :: quiet :: _ => t.judgePartySet code a quiet
    | _ => .turnedDown .badArgument)

/-- CALL_GET (R30, R178). -/
def execCallGet (l : LinkId) (args : List Octet) (s : State) : Outcome :=
  .next (s.takeRequest .callGet l args fun t =>
    match args with
    | number :: part :: _ => t.judgeCallGet number part
    | _ => .turnedDown .badArgument)

/-- CALL_CLEAR (R30). -/
def execCallClear (l : LinkId) (args : List Octet) (s : State) : Outcome :=
  .next (s.takeRequest .callClear l args fun t =>
    match args with
    | number :: _ => t.judgeCallClear number
    | [] => .turnedDown .badArgument)

/-- LINK_GET (R156). -/
def execLinkGet (l : LinkId) (args : List Octet) (s : State) : Outcome :=
  .next (s.takeRequest .linkGet l args fun t =>
    match args with
    | code :: _ => t.judgeLinkGet code
    | [] => .turnedDown .badArgument)

/-- LINK_RESET (R155). -/
def execLinkReset (l : LinkId) (args : List Octet) (s : State) : Outcome :=
  .next (s.takeRequest .linkReset l args fun t =>
    match args with
    | code :: _ => t.judgeLinkReset code
    | [] => .turnedDown .badArgument)

/-- CLEAR_COUNTS (R156, R179). -/
def execClearCounts (l : LinkId) (args : List Octet) (s : State) : Outcome :=
  .next (s.takeRequest .clearCounts l args fun t =>
    match args with
    | code :: _ => t.judgeClearCounts code
    | [] => .turnedDown .badArgument)

/-- JOURNAL_READ (R140). -/
def execJournalRead (l : LinkId) (args : List Octet) (s : State) : Outcome :=
  .next (s.takeRequest .journalRead l args State.judgeJournalRead)

/-- ACK_ATTENTION (R190). -/
def execAckAttention (l : LinkId) (args : List Octet) (s : State) : Outcome :=
  .next (s.takeRequest .ackAttention l args fun t =>
    match args with
    | set :: _ => t.judgeAckAttention set
    | [] => .turnedDown .badArgument)

/-- SET_TIME (R192). -/
def execSetTime (l : LinkId) (args : List Octet) (s : State) : Outcome :=
  .next (s.takeRequest .setTime l args fun t =>
    match args with
    | a :: b :: c :: d :: _ => t.judgeSetTime a b c d
    | _ => .turnedDown .badArgument)

end Sys2Proof.Machine
end

