-- ==== Sys2Proof/Machine/Stations.lean ====
section
/-!
DEFINITION. The commands that deliver a station's messages: the keys (R5 to R9) and the door contact (R129, R130).
-/

namespace Sys2Proof.Machine

/-- A digit key (R5, R6, R7). -/
def State.keysDigit (d : Fin 10) (p : Fin 4) (st : Fin 2) (s : State) : State :=
  match s.station p st with
  | some n =>
    if (s.call n).state = .dialling then
      (s.setCall n { s.call n with digits := (s.call n).digits ++ [d.val] }).afterDigit n
    else s
  | none =>
    match s.create .entrance .dialling (.station p st) [d.val] with
    | some (n, t) => t.afterDigit n
    | none => s.refuseStation p st

/-- The CALL key (R5, R7). -/
def State.keysCall (p : Fin 4) (st : Fin 2) (s : State) : State :=
  match s.station p st with
  | some n => if (s.call n).state = .dialling then s.resolveExact n else s
  | none => s

/-- The CANCEL key (R5, R7). -/
def State.keysCancel (p : Fin 4) (st : Fin 2) (s : State) : State :=
  match s.station p st with
  | some n => s.clear n .callerCancel
  | none => s

/-- A call with its digits emptied and the DESK key's resolved copy goes to the desk hunt (R5, R7). -/
def State.goToDesk (s : State) (n : CallNo) : State :=
  ((s.setCall n { s.call n with digits := [] }).takeCopy n (deskCopy false [])).hunt n

/-- The DESK key (R5, R7). A call it creates stands as QUEUED until its hunt has placed it, within the event. -/
def State.keysDesk (p : Fin 4) (st : Fin 2) (s : State) : State :=
  match s.station p st with
  | some n => if (s.call n).state = .dialling then s.goToDesk n else s
  | none =>
    match s.create .entrance .queued (.station p st) [] with
    | some (n, t) => t.goToDesk n
    | none => s.refuseStation p st

/-- KEY_DIGIT (R5, R6). -/
def execKeyDigit (p : Fin 4) (a : Octet) (d : Fin 10) (s : State) : Outcome :=
  .next (s.deliverParty (.panel p) (keyMsg a (BitVec.ofNat 8 d.val)) fun t => t.fromStation p a (State.keysDigit d p))

/-- KEY_CALL (R7). -/
def execKeyCall (p : Fin 4) (a : Octet) (s : State) : Outcome :=
  .next (s.deliverParty (.panel p) (keyMsg a 0x0A#8) fun t => t.fromStation p a (State.keysCall p))

/-- KEY_CANCEL (R7). -/
def execKeyCancel (p : Fin 4) (a : Octet) (s : State) : Outcome :=
  .next (s.deliverParty (.panel p) (keyMsg a 0x0B#8) fun t => t.fromStation p a (State.keysCancel p))

/-- KEY_DESK (R5, R7). -/
def execKeyDesk (p : Fin 4) (a : Octet) (s : State) : Outcome :=
  .next (s.deliverParty (.panel p) (keyMsg a 0x0C#8) fun t => t.fromStation p a (State.keysDesk p))

/-- DOOR_OPEN (R129). -/
def execDoorOpen (p : Fin 4) (a : Octet) (s : State) : Outcome :=
  .next (s.deliverParty (.panel p) (doorMsg a true) fun t => t.fromStation p a fun _ x => x.doorOpens p)

/-- DOOR_SHUT (R130). -/
def execDoorShut (p : Fin 4) (a : Octet) (s : State) : Outcome :=
  .next (s.deliverParty (.panel p) (doorMsg a false) fun t => t.fromStation p a fun _ x => x.doorShuts p)

end Sys2Proof.Machine
end

