-- ==== Sys2Proof/Machine/Dispatch.lean ====
section
/-!
DEFINITION. The dispatch of the commands: one arm per constructor of `Instr`, each one direct call of its meaning.
-/

namespace Sys2Proof.Machine

def exec (i : Instr) (s : State) : Host.Outcome State Fault Refusal :=
  match i with
  | .powerOn => Sys2Proof.Machine.execPowerOn s
  | .upstreamFrame l o => Sys2Proof.Machine.execUpstreamFrame l o s
  | .downstreamFrame l => Sys2Proof.Machine.execDownstreamFrame l s
  | .voiceFramePeriod => Sys2Proof.Machine.execVoiceFramePeriod s
  | .hangCounterExpiry n => Sys2Proof.Machine.execHangCounterExpiry n s
  | .turnBegin r => Sys2Proof.Machine.execTurnBegin r s
  | .turnTimeout r => Sys2Proof.Machine.execTurnTimeout r s
  | .turnLimit r => Sys2Proof.Machine.execTurnLimit r s
  | .keyDigit p a d => Sys2Proof.Machine.execKeyDigit p a d s
  | .keyCall p a => Sys2Proof.Machine.execKeyCall p a s
  | .keyCancel p a => Sys2Proof.Machine.execKeyCancel p a s
  | .keyDesk p a => Sys2Proof.Machine.execKeyDesk p a s
  | .doorOpen p a => Sys2Proof.Machine.execDoorOpen p a s
  | .doorShut p a => Sys2Proof.Machine.execDoorShut p a s
  | .hello r a report q => Sys2Proof.Machine.execHello r a report q s
  | .answer t => Sys2Proof.Machine.execAnswer t s
  | .hangup t => Sys2Proof.Machine.execHangup t s
  | .openDoor t => Sys2Proof.Machine.execOpenDoor t s
  | .callDesk r a => Sys2Proof.Machine.execCallDesk r a s
  | .quiet r a on => Sys2Proof.Machine.execQuiet r a on s
  | .extend t => Sys2Proof.Machine.execExtend t s
  | .logon a => Sys2Proof.Machine.execLogon a s
  | .logoff a => Sys2Proof.Machine.execLogoff a s
  | .dial a code => Sys2Proof.Machine.execDial a code s
  | .join a call => Sys2Proof.Machine.execJoin a call s
  | .catalogueDiscard l m => Sys2Proof.Machine.execCatalogueDiscard l m s
  | .lostMarker l => Sys2Proof.Machine.execLostMarker l s
  | .managementRefused l type args => Sys2Proof.Machine.execManagementRefused l type args s
  | .unknownRequest l type args => Sys2Proof.Machine.execUnknownRequest l type args s
  | .start l args => Sys2Proof.Machine.execStart l args s
  | .stop l args => Sys2Proof.Machine.execStop l args s
  | .restart l args => Sys2Proof.Machine.execRestart l args s
  | .status l args => Sys2Proof.Machine.execStatus l args s
  | .set l args => Sys2Proof.Machine.execSet l args s
  | .get l args => Sys2Proof.Machine.execGet l args s
  | .dirPut l args => Sys2Proof.Machine.execDirPut l args s
  | .dirDel l args => Sys2Proof.Machine.execDirDel l args s
  | .dirGet l args => Sys2Proof.Machine.execDirGet l args s
  | .dirNext l args => Sys2Proof.Machine.execDirNext l args s
  | .partyGet l args => Sys2Proof.Machine.execPartyGet l args s
  | .partySet l args => Sys2Proof.Machine.execPartySet l args s
  | .callGet l args => Sys2Proof.Machine.execCallGet l args s
  | .callClear l args => Sys2Proof.Machine.execCallClear l args s
  | .linkGet l args => Sys2Proof.Machine.execLinkGet l args s
  | .linkReset l args => Sys2Proof.Machine.execLinkReset l args s
  | .clearCounts l args => Sys2Proof.Machine.execClearCounts l args s
  | .journalRead l args => Sys2Proof.Machine.execJournalRead l args s
  | .ackAttention l args => Sys2Proof.Machine.execAckAttention l args s
  | .setTime l args => Sys2Proof.Machine.execSetTime l args s
  | .digitTimerExpiry n => Sys2Proof.Machine.execDigitTimerExpiry n s
  | .seekTimerExpiry n => Sys2Proof.Machine.execSeekTimerExpiry n s
  | .campTimerExpiry n => Sys2Proof.Machine.execCampTimerExpiry n s
  | .alertTimerExpiry n => Sys2Proof.Machine.execAlertTimerExpiry n s
  | .deskRingExpiry n => Sys2Proof.Machine.execDeskRingExpiry n s
  | .deskWaitExpiry n => Sys2Proof.Machine.execDeskWaitExpiry n s
  | .talkCountWarning n => Sys2Proof.Machine.execTalkCountWarning n s
  | .timeLimit n => Sys2Proof.Machine.execTimeLimit n s
  | .releaseTimerExpiry p => Sys2Proof.Machine.execReleaseTimerExpiry p s
  | .heldOpenExpiry p => Sys2Proof.Machine.execHeldOpenExpiry p s
  | .holdOffWaitExpiry l => Sys2Proof.Machine.execHoldOffWaitExpiry l s
  | .secondsTick => Sys2Proof.Machine.execSecondsTick s
  | .channelGrant r c => Sys2Proof.Machine.execChannelGrant r c s
  | .campWake r a => Sys2Proof.Machine.execCampWake r a s
  | .deskQueueWake => Sys2Proof.Machine.execDeskQueueWake s
  | .drainEnd => Sys2Proof.Machine.execDrainEnd s
  | .resetAsserted => Sys2Proof.Machine.execResetAsserted s

end Sys2Proof.Machine
end

