-- ==== Sys2Proof/Safety.lean ====
section
/-!
DEFINITION. What the claims about the switch speak of: the invariants that every step keeps, and the plain terms in which
a claim says what a command leaves behind (the link units after a delivery, the messages sent, the ATTENTION a raise
brings, a call that has cleared).
-/

namespace Sys2Proof.Machine

/-! ### Invariants -/

/-- The queues and the counters keep to their sizes (R154, R162, R166, R179, R137, R1, R192). -/
structure QueuesBounded (s : State) : Prop where
  receive : ∀ l, (s.link l).rx.length ≤ 4
  transmit : ∀ l, (s.link l).tx.length ≤ 8
  counters : ∀ l, (s.link l).badFrames ≤ 65535 ∧ (s.link l).checkErrors ≤ 65535 ∧ (s.link l).overruns ≤ 65535 ∧
    (s.link l).txDrops ≤ 65535
  refusals : s.refusals ≤ 65535
  overwrites : s.overwrites ≤ 65535
  releases : ∀ n, (s.call n).releases ≤ 255
  seconds : s.seconds < 4294967296

/-- A DOWN link holds no message but the LOST marker, sends none, and a riser that is DOWN gives no turn (R56, R152,
R153). -/
structure DownLinksQuiet (s : State) : Prop where
  queues : ∀ l, (s.link l).state = .down →
    ((s.link l).rx = [] ∨ (s.link l).rx = [.lost]) ∧ (s.link l).holding = none ∧ (s.link l).tx = [] ∧
      (s.link l).sending = none ∧ (s.link l).holdOffWait = none ∧ (s.link l).partnerHoldOff = false
  turns : ∀ r, (s.link (.riser r)).state = .down → s.turn r = none

/-- An entry keeps to Table 2-1: a code of 1-6 digits, an entrance, and the fields of its kind in range. -/
def Entry.wellKept (e : Entry) : Prop :=
  1 ≤ e.code.length ∧ e.code.length ≤ 6 ∧ (∀ d ∈ e.code, d ≤ 9) ∧ e.entrances ≠ 0#4 ∧
    match e.body with
    | .flat ts _ _ _ alert =>
      1 ≤ ts.length ∧ ts.length ≤ 4 ∧ ts.Nodup ∧ (alert = 0 ∨ (5 ≤ alert ∧ alert ≤ 120))
    | .access uses => uses ≤ 255
    | .desk => True
    | .barred => True

/-- The directory holds at most 1024 entries, in dial order without two of one code (R33, R34). -/
structure DirectoryOrdered (s : State) : Prop where
  size : s.directory.length ≤ 1024
  order : s.directory.Pairwise fun x y => dialBefore x.code y.code = true
  entries : ∀ e ∈ s.directory, e.wellKept

/-- The journal holds at most 64 records, whose sequence numbers rise by one modulo 65536 up to the sequence counter
(R137). -/
structure JournalConsecutive (s : State) : Prop where
  size : s.journal.length ≤ 64
  counter : s.journalSeq < 65536
  rising : s.journal.IsChain fun x y => y.sequence = (x.sequence + 1) % 65536
  newest : ∀ x, s.journal.getLast? = some x → s.journalSeq = (x.sequence + 1) % 65536

/-- Every parameter lies in its range, the trunk is in the origin set, and the spare bits of the two sets are clear
(Table 10-2, R187). -/
structure ParamsInRange (s : State) : Prop where
  ranges : ∀ x lo hi, ParamId.range x = some (lo, hi) → lo ≤ s.params.value x ∧ s.params.value x ≤ hi
  trunkStays : s.params.originSet.getLsbD 12 = true
  originSpare : ∀ i, 13 ≤ i → s.params.originSet.getLsbD i = false
  maskSpare : ∀ i, 7 ≤ i → s.params.noticeMask.getLsbD i = false

/-- While the mode is STANDBY every call record is IDLE (R182). -/
def StandbyIdle (s : State) : Prop := s.mode = .standby → ∀ n, (s.call n).state = .idle

/-- An IDLE record holds its power-on values but for the last cause and the releases (R2). -/
def IdleRecordsBlank (s : State) : Prop :=
  ∀ n, (s.call n).state = .idle →
    s.call n = { CallRecord.blank with lastCause := (s.call n).lastCause, releases := (s.call n).releases }

/-- A call's reservations list exactly the pairs whose map entries hold its number (R72). -/
structure ChannelsMatch (s : State) : Prop where
  exact : ∀ n r c, s.channel r c = some n ↔ (r, c) ∈ (s.call n).reservations
  once : ∀ n, (s.call n).reservations.Nodup

/-- Meters, hang counters and directions keep to their ranges, now and in the latest frame period (R114, R117, R119,
R124). -/
def VoiceBounded (s : State) : Prop :=
  ∀ n v, ((s.call n).voice = some v ∨ (s.call n).lastPeriod = some v) →
    v.originMeter ≤ 4032 ∧ v.answererMeter ≤ 4032 ∧ (∀ j, v.joinedMeter = some j → j ≤ 4032) ∧ v.hang ≤ 4080 ∧
      (v.mode ≠ .switched → v.direction = .neutral) ∧ (v.direction = .neutral → v.hang = 0)

/-- Miss counts, watch lists and the idle order keep to their sizes (R49, R58, R67, R84). -/
structure PartiesBounded (s : State) : Prop where
  misses : ∀ r a, (s.handset r a).misses ≤ 3
  watch : ∀ r a, (s.handset r a).watch.length ≤ 2
  idleOrder : s.idleOrder.Nodup

/-- The resolved targets of a record are the desk. -/
def CallRecord.ForDesk (c : CallRecord) : Prop := ∃ x, c.resolved = some x ∧ x.targets = .desk
/-- The resolved targets of a record are a flat. -/
def CallRecord.ForFlat (c : CallRecord) : Prop := ∃ x ts, c.resolved = some x ∧ x.targets = .flat ts

/-- Every call stands where its state says (R21, R67, R75, R76): a SEEKING call on exactly one seek queue, a QUEUED one on the
desk queue, a CAMPED one on exactly one watch list, each there once, and no other call on any of them. What it waits for is
what its kind allows, and DIALLING is for ENTRANCE calls alone. -/
structure PlacesMatch (s : State) : Prop where
  seeking : ∀ n, (s.call n).state = .seeking ↔ ∃ r, n ∈ s.seekQueue r
  queued : ∀ n, (s.call n).state = .queued ↔ n ∈ s.deskQueue
  camped : ∀ n, (s.call n).state = .camped ↔ ∃ r a, n ∈ (s.handset r a).watch
  oneQueue : ∀ n r r', n ∈ s.seekQueue r → n ∈ s.seekQueue r' → r = r'
  oneList : ∀ n r a r' a', n ∈ (s.handset r a).watch → n ∈ (s.handset r' a').watch → r = r' ∧ a = a'
  once : (∀ r, (s.seekQueue r).Nodup) ∧ s.deskQueue.Nodup ∧ ∀ r a, (s.handset r a).watch.Nodup
  targets : ∀ n, match (s.call n).state with
    | .seeking => if (s.call n).kind = some .resident then (s.call n).ForDesk else (s.call n).ForFlat
    | .camped => (s.call n).kind ≠ some .resident ∧ (s.call n).ForFlat
    | .dialling => (s.call n).kind = some .entrance
    | .queued => (s.call n).ForDesk
    | _ => True

/-- Each party is engaged by the call that is not IDLE and has it as a party, and by no other; the roles of a call are those
its state allows; the idle order holds the positions that are logged on and free, and is empty while calls wait for the desk
(R4, R52, R84, R88). -/
structure EngagementsMatch (s : State) : Prop where
  engaged : ∀ x n, s.engagedBy x = some n ↔ (s.call n).state ≠ .idle ∧ x ∈ (s.call n).parties
  roles : ∀ n,
    let c := s.call n
    (c.state ≠ .idle → c.origin ≠ none) ∧ (c.state ≠ .alerting → c.alerted = []) ∧
      (c.state = .talking ↔ c.answerer ≠ none) ∧ (c.state ≠ .talking → c.joined = none) ∧
      (c.state = .alerting →
        (c.ForDesk ∧ ∃ q, c.alerted = [.position q]) ∨
          (c.ForFlat ∧ c.alerted ≠ [] ∧ ∀ x ∈ c.alerted, ∃ r a, x = .handset r a))
  idleOrder : ∀ q, q ∈ s.idleOrder ↔ (s.position q).loggedOn = true ∧ (s.position q).engaged = none
  exclusive : s.idleOrder = [] ∨ s.deskQueue = []

/-- A LOST marker stands at the head of its queue; until it is taken the handsets of a lost riser stay ABSENT and the positions
of a lost trunk logged off, and only then may a position that is logged off be engaged (R28, R61, R66, R153). -/
structure MarkersFirst (s : State) : Prop where
  first : ∀ l, .lost ∉ (s.link l).rx.tail
  riser : ∀ r, (s.link (.riser r)).rx.head? = some .lost → ∀ a, (s.handset r a).present = false
  trunk : (s.link .trunk).rx.head? = some .lost → ∀ q, (s.position q).loggedOn = false
  held : ∀ q, (s.position q).loggedOn = false → (s.position q).engaged ≠ none →
    (s.link .trunk).rx.head? = some .lost

/-- A door's timers follow its state (R125, R129 to R134). -/
def DoorsKept (s : State) : Prop :=
  ∀ p, match (s.door p).state with
    | .locked => (s.door p).releaseTimer = none ∧ (s.door p).heldOpenTimer = none
    | .released => ((s.door p).releaseTimer).isSome = true ∧ (s.door p).heldOpenTimer = none
    | .opened => (s.door p).releaseTimer = none

/-! ### What a command leaves behind -/

/-- The link unit of `l` once the message `m` has been delivered from its head (R164). -/
def State.delivered (s : State) (l : LinkId) (m : Message) : LinkUnit := ((s.arrived l m).link l).dropHead

/-- The messages of `out` for one link, in their order. -/
def outFor (k : LinkId) (out : List (LinkId × Message)) : List Message :=
  (out.filter fun x => decide (x.1 = k)).map (·.2)

/-- A link unit with messages joined to the tail of its transmit queue. -/
def LinkUnit.withTx (u : LinkUnit) (ms : List Message) : LinkUnit := { u with tx := u.tx ++ ms }

/-- Every link a message is sent on is not DOWN and has the places for all that is sent on it (R166). -/
def State.Room (s : State) (out : List (LinkId × Message)) : Prop :=
  ∀ x ∈ out, (s.link x.1).state ≠ .down ∧ (s.link x.1).tx.length + (outFor x.1 out).length ≤ 8

/-- Every link unit is as it was, with the messages of `out` sent. -/
def Sends (s t : State) (out : List (LinkId × Message)) : Prop :=
  ∀ k, t.link k = (s.link k).withTx (outFor k out)

/-- Every link unit is as it was, with `m` delivered from `l` and the messages of `out` sent. -/
def DeliversAndSends (s t : State) (l : LinkId) (m : Message) (out : List (LinkId × Message)) : Prop :=
  ∀ k, t.link k = (if k = l then s.delivered l m else s.link k).withTx (outFor k out)

/-- The ATTENTION that raising the classes of `set` brings: one, carrying the masked pending set, when some class of it is
in the mask and not pending (R189). -/
def State.notice (s : State) (set : Octet) : List (LinkId × Message) :=
  if set &&& ~~~s.attention &&& s.params.noticeMask.setWidth 8 ≠ 0#8 then
    [(.trunk, attentionMsg ((s.attention ||| set) &&& s.params.noticeMask.setWidth 8))]
  else []

/-- Record `n` is the lowest-numbered IDLE one (R3). -/
def State.FirstIdle (s : State) (n : CallNo) : Prop :=
  (s.call n).state = .idle ∧ ∀ m, m < n → (s.call m).state ≠ .idle

/-- Channel `c` is the lowest-numbered FREE one of riser `r` (R73). -/
def State.FirstFree (s : State) (r : Fin 8) (c : Fin 4) : Prop :=
  s.channel r c = none ∧ ∀ d, d < c → s.channel r d ≠ none

/-- A handset that the target check finds eligible (R10). -/
def Handset.Eligible (h : Handset) : Prop := h.present = true ∧ h.engaged = none ∧ h.quiet = false

/-- A party whose message changes nothing by its mere delivery: a handset PRESENT with no misses, or a position (R60). -/
def State.Heard (s : State) : Talker → Prop
  | .handset r a => (s.handset r a).present = true ∧ (s.handset r a).misses = 0
  | .position a => a.toNat < 6

/-- A call stands on no queue and on no watch list. -/
def State.StandsNowhere (s : State) (n : CallNo) : Prop :=
  (∀ r, n ∉ s.seekQueue r) ∧ n ∉ s.deskQueue ∧ ∀ r a, n ∉ (s.handset r a).watch

/-- Call `n` has cleared with a cause: its record is IDLE with every field at its power-on value but the cause and the
releases it had, and it stands nowhere (R2, R27). -/
def ClearedWith (s t : State) (n : CallNo) (cause : Cause) : Prop :=
  t.call n = { CallRecord.blank with lastCause := some cause, releases := (s.call n).releases } ∧ t.StandsNowhere n

/-! ### Clearing where no other call waits (R27) -/

/-- Table 1-10: the PROGRESS value the origin station of a clearing call is sent, and the CLEAR class its handsets and
positions are sent. -/
def clearingTable : Cause → Option Progress × Option ClearKind
  | .callerCancel => (some .cleared, some .normal)
  | .targetHungup => (some .cleared, some .normal)
  | .callerHungup => (none, some .normal)
  | .unknown => (some .unknown, some .unknown)
  | .barred => (some .barred, none)
  | .busy => (some .busy, some .busy)
  | .congestion => (some .busy, some .busy)
  | .noDesk => (some .busy, some .busy)
  | .quiet => (some .unavailable, some .unavailable)
  | .absent => (some .unavailable, some .unavailable)
  | .noAnswer => (some .noReply, some .noReply)
  | .declined => (some .noReply, some .noReply)
  | .timeLimit => (some .cleared, some .timeLimit)
  | .linkLost => (some .cleared, some .linkLost)
  | .forced => (some .cleared, some .forced)
  | .restart => (none, none)
  | .accessDone => (none, none)
  | .accessDenied => (none, none)

/-- The messages of a clearing in the order of R27: PROGRESS to the origin station, RING_STOP(CALLER_LEFT) to every alerted
member, CLEAR to the answerer, the joined position and an origin that is no station. -/
def CallRecord.clearingOut (c : CallRecord) (cause : Cause) : List (LinkId × Message) :=
  (match c.origin, (clearingTable cause).1 with
   | some (.station p st), some v => [(.panel p, progressMsg (BitVec.ofNat 8 st.val) v)]
   | _, _ => []) ++
  c.alerted.map (fun x => (x.link, ringStopMsg x.addr .callerLeft)) ++
  (match (clearingTable cause).2 with
   | some k =>
     (c.answerer.toList ++ (c.joined.map Party.position).toList ++
       c.origin.toList.filter (fun x => !Party.isStation x)).map fun x => (x.link, clearMsg x.addr k)
   | none => [])

/-- The messages of `out` that are put: none for a party whose link is DOWN (R27, R166). -/
def State.reached (s : State) (out : List (LinkId × Message)) : List (LinkId × Message) :=
  out.filter fun x => decide ((s.link x.1).state ≠ .down)

/-- No call but `n` stands on a queue or a watch list, so that nothing call `n` gives up brings work to another call, and
no drain waits for its end. -/
def State.WaitsAlone (s : State) (n : CallNo) : Prop :=
  (∀ r, ∀ m ∈ s.seekQueue r, m = n) ∧ (∀ m ∈ s.deskQueue, m = n) ∧ (∀ r a, ∀ m ∈ (s.handset r a).watch, m = n) ∧
    s.mode ≠ .draining

/-- Call `n` has given up all it held and has cleared, and nothing beside it has changed but the link units and the
pending set: its channels are FREE, its parties are disengaged, a position among them that is logged on stands in the
idle order behind those before it, it stands nowhere, and its record is IDLE (R2, R27, R52, R78, R85). -/
structure GivenUp (s t : State) (n : CallNo) (cause : Cause) : Prop where
  frame : t = { s with
                links := t.links
                calls := t.calls
                handsets := t.handsets
                stations := t.stations
                positions := t.positions
                channels := t.channels
                seekQueues := Vector.replicate 8 []
                deskQueue := []
                idleOrder := t.idleOrder
                attention := t.attention }
  record : t.call n = { CallRecord.blank with lastCause := some cause, releases := (s.call n).releases }
  others : ∀ m, m ≠ n → t.call m = s.call m
  channels : ∀ r c, t.channel r c = if (r, c) ∈ (s.call n).reservations then none else s.channel r c
  stations : ∀ p st, t.station p st =
    if .station p st ∈ (s.call n).parties ∧ s.station p st = some n then none else s.station p st
  handsets : ∀ r a, t.handset r a =
    { s.handset r a with
      watch := []
      engaged := if .handset r a ∈ (s.call n).parties ∧ (s.handset r a).engaged = some n then none
                 else (s.handset r a).engaged }
  positions : ∀ q, t.position q =
    { s.position q with
      engaged := if .position q ∈ (s.call n).parties ∧ (s.position q).engaged = some n then none
                 else (s.position q).engaged }
  idleOrder : s.idleOrder <+: t.idleOrder
  idle : ∀ q, q ∈ t.idleOrder ↔ q ∈ s.idleOrder ∨
    (.position q ∈ (s.call n).parties ∧ (s.position q).engaged = some n ∧ (s.position q).loggedOn = true)

/-- The link units once the message `m` has been delivered from link `l`, before anything is sent. -/
def State.taking (s : State) (l : LinkId) (m : Message) (k : LinkId) : LinkUnit :=
  if k = l then s.delivered l m else s.link k

/-- Where no other call waits and there is room, call `n` clears in the order of R27: its messages are put, then those of
`more`, on the link units `base`, and all it held is given up. -/
def ClearsAlone (s t : State) (n : CallNo) (cause : Cause) (base : LinkId → LinkUnit) (more : List (LinkId × Message)) :
    Prop :=
  s.WaitsAlone n → s.StandsNowhere n → s.Room (s.reached ((s.call n).clearingOut cause) ++ more) →
    GivenUp s t n cause ∧ t.attention = s.attention ∧
      ∀ k, t.link k = (base k).withTx (outFor k (s.reached ((s.call n).clearingOut cause) ++ more))

/-- A command that would create a call, in a state that lets it create none (R3): in STANDBY and DRAINING `closed` is sent,
in RUN with no record IDLE `busy` is sent and CONGESTION raised; nothing else changes but that `m` is delivered from `l`. -/
def CreatesNoCall (i : Instr) (s : State) (l : LinkId) (m : Message) (closed busy : LinkId × Message) : Prop :=
  (s.mode ≠ .run → s.Room [closed] →
    ∃ t, exec i s = .next t ∧ DeliversAndSends s t l m [closed] ∧ t = { s with links := t.links }) ∧
  (s.mode = .run → (∀ n, (s.call n).state ≠ .idle) → s.Room (busy :: s.notice 0x20#8) →
    ∃ t, exec i s = .next t ∧ DeliversAndSends s t l m (busy :: s.notice 0x20#8) ∧
      t = { s with links := t.links, attention := s.attention ||| 0x20#8 })

/-- Call `n` has been handed to its joined position `q` (R24, R122): the handset that answered is disengaged and its
channel `c` is FREE, the position is the answerer, nobody is joined, and the voice is SWITCHED with fresh meters. -/
def HandedOver (s t : State) (n : CallNo) (r : Fin 8) (a : Fin 63) (c : Fin 4) (q : Fin 6) : Prop :=
  t = { ((s.setHandset r a { s.handset r a with engaged := none }).setChannel r c none) with
        links := t.links
        calls := s.calls.set n
          { s.call n with
            answerer := some (.position q)
            joined := none
            reservations := []
            voice := (s.call n).voice.map fun _ =>
              { mode := .switched, originMeter := 0, answererMeter := 0, joinedMeter := none, direction := .neutral,
                hang := 0 } } }

/-- The call forwards to the desk on an outcome that R14 forwards: an ENTRANCE call with fallback DESK not yet forwarded. -/
def CallRecord.MayForward (c : CallRecord) : Prop :=
  c.kind = some .entrance ∧ c.resolved.map (·.fallback) = some true ∧ c.forwarded = false

/-- A link unit is as it was but for its queues and its count of transmit drops. -/
def LinkKept (s t : State) (k : LinkId) : Prop :=
  t.link k =
    { s.link k with
      rx := (t.link k).rx, holding := (t.link k).holding, tx := (t.link k).tx, txDrops := (t.link k).txDrops }

/-- The frame of a command whose work is on calls: beside the calls, the engagements, the waiting places, the channels, the
mode and the pending set, nothing has changed but queues and transmit drops of the links; no position has logged on or
off and no quiet flag but that of `but` has changed. -/
def KeepsToCalls (s t : State) (but : Option Party) : Prop :=
  t = { s with
        links := t.links
        calls := t.calls
        handsets := t.handsets
        stations := t.stations
        positions := t.positions
        channels := t.channels
        seekQueues := t.seekQueues
        deskQueue := t.deskQueue
        idleOrder := t.idleOrder
        mode := t.mode
        attention := t.attention } ∧
    (∀ q, (t.position q).loggedOn = (s.position q).loggedOn) ∧
    (∀ r a, but ≠ some (.handset r a) → (t.handset r a).quiet = (s.handset r a).quiet) ∧ ∀ k, LinkKept s t k

/-- Where there is room for `out`, `i` answers from `s` the state `u`, with the link units of `base` and `out` sent. -/
def Answers (i : Instr) (s u : State) (base : LinkId → LinkUnit) (out : List (LinkId × Message)) : Prop :=
  s.Room out → ∃ t, exec i s = .next t ∧ t = { u with links := t.links } ∧ ∀ k, t.link k = (base k).withTx (outFor k out)

/-! ### Ringing, waiting and the desk hunt (R10 to R15) -/

/-- The PROGRESS that tells the origin station of a call a value it was not told last (R12a). -/
def CallRecord.telling (c : CallRecord) (v : Progress) : List (LinkId × Message) :=
  match c.origin with
  | some (.station p st) => if c.lastProgress = some v then [] else [(.panel p, progressMsg (BitVec.ofNat 8 st.val) v)]
  | _ => []

/-- The record of a call whose origin station, if it has one, has been told a value (R12a). -/
def CallRecord.told (c : CallRecord) (v : Progress) : CallRecord :=
  match c.origin with
  | some (.station _ _) => { c with lastProgress := some v }
  | _ => c

/-- The cadence class a RING of the call carries: that of its first RING, else its panel's, or 3 (R11). -/
def CallRecord.ringClass (p : Params) (c : CallRecord) : Fin 4 :=
  match c.ringCadence, c.origin with
  | some k, _ => k
  | none, some (.station i _) => p.cadence[i]
  | none, _ => 3

/-- The messages of a call that rings the handsets `ms` (R11, R12a). -/
def CallRecord.ringingOut (p : Params) (c : CallRecord) (ms : List (Fin 8 × Fin 63)) : List (LinkId × Message) :=
  let entrance : Octet :=
    match c.origin with
    | some (.station i _) => BitVec.ofNat 8 i.val
    | _ => 0x0F#8
  (ms.map fun m => (LinkId.riser m.1,
    ringHandsetMsg (BitVec.ofNat 8 m.2.val) entrance (BitVec.ofNat 8 (c.ringClass p).val))) ++ c.telling .ringback

/-- The record of a call that rings the handsets `ms` of its flat over the reservations `rs`, with `alert` the alert time of
its entry (R11, R91, R93, R96). -/
def CallRecord.ringing (p : Params) (c : CallRecord) (alert : Nat) (ms : List (Fin 8 × Fin 63))
    (rs : List (Fin 8 × Fin 4)) : CallRecord :=
  { c.told .ringback with
    state := .alerting
    alerted := ms.map fun m => .handset m.1 m.2
    reservations := rs
    ringCadence := some (c.ringClass p)
    stateCount := some ⟨.alert, (if alert = 0 then p.alertTime else alert) * 8000⟩
    waitCount := none }

/-- The messages of call `n` that rings position `q` (R15, R12a). -/
def CallRecord.deskOut (c : CallRecord) (n : CallNo) (q : Fin 6) : List (LinkId × Message) :=
  (.trunk, ringPositionMsg (BitVec.ofNat 8 q.val) n c.origin) :: c.telling .ringback

/-- The record of a call that rings position `q` (R15, R98). -/
def CallRecord.ringingDesk (p : Params) (c : CallRecord) (q : Fin 6) : CallRecord :=
  { c.told .ringback with
    state := .alerting
    alerted := [.position q]
    stateCount := some ⟨.deskRing, p.deskRing * 8000⟩ }

/-- Call `n`, whose record stands in `z` with no wait count, hunts for a position (R15, R86, R99): `i` answers from `s`, over
the link units `base`. With a position at the head of the idle order it rings that one; with none there and some logged on
it is QUEUED at the tail of the desk queue; DESK_WAIT is loaded, and `pre` is sent before either. With none logged on it
clears with NO_DESK, and `lost` is sent first. -/
def HuntsDesk (i : Instr) (s z : State) (n : CallNo) (base : LinkId → LinkUnit) (pre lost : List (LinkId × Message)) :
    Prop :=
  let c := z.call n
  let wait : Option WaitCount := some ⟨.deskWait, z.params.deskWait * 8000, false⟩
  let out := lost ++ s.reached (c.clearingOut .noDesk)
  ((∃ k, (z.position k).loggedOn = true) →
    (∀ q rest, z.idleOrder = q :: rest → q ∉ rest →
      Answers i s
        { (z.setPosition q { z.position q with engaged := some n }) with
          idleOrder := rest
          calls := z.calls.set n { c.ringingDesk z.params q with waitCount := wait } }
        base (pre ++ c.deskOut n q)) ∧
    (z.idleOrder = [] →
      Answers i s
        { z with
          deskQueue := z.deskQueue ++ [n]
          calls := z.calls.set n { c.told .wait with state := .queued, stateCount := none, waitCount := wait } }
        base (pre ++ c.telling .wait))) ∧
  ((∀ k, (z.position k).loggedOn = false) →
    ∃ t, exec i s = .next t ∧ ClearedWith z t n .noDesk ∧ KeepsToCalls z t none ∧
      (z.WaitsAlone n → z.StandsNowhere n → s.Room out →
        GivenUp z t n .noDesk ∧ t.attention = z.attention ∧ ∀ k, t.link k = (base k).withTx (outFor k out)))

/-- The target check of call `n`, whose record stands in `z` with the flat `x` resolved (R10, R11, R13, R14, R74): `i` answers
from `s`, over the link units `base`, with `reply` sent last where the call waits or rings. Where `free` gives each riser's
lowest FREE channel, the call takes one on each riser of an eligible member, in list order, and rings every eligible member
of those risers. With no FREE channel on any of them it seeks at the tail of the first eligible member's riser. With no
eligible member and a busy one it camps at the tail of the first watch list with a place, if camping is allowed. Else it takes
the outcome BUSY, QUIET or ABSENT, which a call with a fallback left carries to the desk and which clears any other. -/
def ChecksTargets (i : Instr) (s z : State) (n : CallNo) (base : LinkId → LinkUnit) (reply : List (LinkId × Message)) :
    Prop :=
  let c := z.call n
  ∀ (x : Resolved) (ts : List (Fin 8 × Fin 63)) (free : Fin 8 → Option (Fin 4)), c.state ≠ .idle → c.resolved = some x →
    x.targets = .flat ts → c.alerted = [] → c.reservations = [] → c.waitCount = none →
    (∀ r,
      match free r with
      | some ch => z.FirstFree r ch
      | none => ∀ ch, z.channel r ch ≠ none) →
    let is : Fin 8 × Fin 63 → Bool → Bool → Option Bool → Bool := fun m present busy quiet =>
      let h := z.handset m.1 m.2
      decide (h.present = present ∧ h.engaged.isSome = busy ∧ (quiet = none ∨ quiet = some h.quiet))
    let eligible := ts.filter fun m => is m true false (some false)
    let busy := ts.filter fun m => is m true true none
    let quiet := ts.filter fun m => is m true false (some true)
    let rung := eligible.filter fun m => (free m.1).isSome
    let held := ((eligible.map (·.1)).eraseDups).filterMap fun r => (free r).map fun ch => (r, ch)
    let cause : Cause := if busy ≠ [] then .busy else if quiet ≠ [] then .quiet else .absent
    let room := busy.find? fun m => decide ((z.handset m.1 m.2).watch.length < 2)
    (rung ≠ [] → s.Room (c.ringingOut z.params rung ++ reply) →
      ∃ t, exec i s = .next t ∧
        t = { z with
              links := t.links
              handsets := t.handsets
              channels := t.channels
              calls := z.calls.set n (c.ringing z.params x.alertTime rung held) } ∧
        (∀ k, t.link k = (base k).withTx (outFor k (c.ringingOut z.params rung ++ reply))) ∧
        (∀ r a, t.handset r a = if (r, a) ∈ rung then { z.handset r a with engaged := some n } else z.handset r a) ∧
        ∀ r ch, t.channel r ch = if (r, ch) ∈ held then some n else z.channel r ch) ∧
    (∀ m more, eligible = m :: more → rung = [] →
      Answers i s
        { (z.setSeekQueue m.1 (z.seekQueue m.1 ++ [n])) with
          calls := z.calls.set n
            { c.told .wait with
              state := .seeking
              stateCount := none
              waitCount := some ⟨.seek, z.params.seekTime * 8000, false⟩ } }
        base (c.telling .wait ++ reply)) ∧
    (eligible = [] →
      (∀ m, x.camp = true → room = some m →
        Answers i s
          { (z.setHandset m.1 m.2 { z.handset m.1 m.2 with watch := (z.handset m.1 m.2).watch ++ [n] }) with
            calls := z.calls.set n
              { c.told .wait with state := .camped, stateCount := some ⟨.camp, z.params.campTime * 8000⟩ } }
          base (c.telling .wait ++ reply)) ∧
      (x.camp = false ∨ room = none →
        (¬ c.MayForward →
          ∃ t, exec i s = .next t ∧ ClearedWith z t n cause ∧ KeepsToCalls z t none ∧ ClearsAlone z t n cause base []) ∧
        (c.MayForward → z.StandsNowhere n →
          let told := CallRecord.telling { c with lastProgress := none } .wait
          HuntsDesk i s
            (z.setCall n
              { c with
                forwarded := true
                lastProgress := some .wait
                stateCount := none
                resolved := some { x with targets := .desk } })
            n base told told)))

/-- Call `n` of station `st` of panel `p`, whose record stands DIALLING in `z` with the digits `ds`, has them put to the
directory (R6, R8, R9): `i` answers from `s`, over the link units `base`. A FLAT or a DESK entry open to the panel has its copy
taken; the target check runs, or the call hunts. An entry not open to the panel or of kind BARRED clears the call with BARRED,
and no entry with UNKNOWN. An ACCESS entry with no uses left is DENIED; else it releases a LOCKED door by code and counts
the use, or finds the door released or open already. -/
def ResolvesCode (i : Instr) (s z : State) (n : CallNo) (p : Fin 4) (st : Fin 2) (base : LinkId → LinkUnit) (ds : Code) :
    Prop :=
  let c := z.call n
  let copied : Resolved → State := fun x => z.setCall n { c with resolved := some x, stateCount := none }
  let clears : Cause → Prop := fun cause =>
    ∃ t, exec i s = .next t ∧ ClearedWith z t n cause ∧ KeepsToCalls z t none ∧ ClearsAlone z t n cause base []
  let say : Progress → LinkId × Message := fun v => (.panel p, progressMsg (BitVec.ofNat 8 st.val) v)
  (entryOf ds z.directory = none → clears .unknown) ∧
  ∀ e : Entry, entryOf ds z.directory = some e →
    (e.entrances.getLsbD p.val = false ∨ e.body = .barred → clears .barred) ∧
    (e.entrances.getLsbD p.val = true →
      (∀ (ts : List (Fin 8 × Fin 63)) (fb cmp dup : Bool) (at' : Nat), e.body = .flat ts fb cmp dup at' →
        ChecksTargets i s (copied ⟨.flat ts, fb, cmp, dup, at', e.code⟩) n base []) ∧
      (e.body = .desk → c.waitCount = none →
        HuntsDesk i s (copied ⟨.desk, false, false, false, 0, e.code⟩) n base [] []) ∧
      (∀ uses : Nat, e.body = .access uses → c.alerted = [] → c.reservations = [] → c.answerer = none →
        c.joined = none → z.station p st = some n → z.StandsNowhere n → z.mode ≠ .draining →
        let ended : Cause → Nat → State := fun cause releases =>
          (z.setStation p st none).setCall n { CallRecord.blank with lastCause := some cause, releases := releases }
        let record : JournalRecord :=
          { sequence := z.journalSeq, stamp := z.seconds, panel := p, station := st, kind := .byCode, granting := none
            code := e.code }
        let full := decide (64 ≤ z.journal.length)
        let journal := (if full then z.journal.drop 1 else z.journal) ++ [record]
        let raised : Octet := if full = true ∨ z.params.journalThreshold ≤ journal.length then 0x10#8 else 0x00#8
        (uses = 0 → Answers i s (ended .accessDenied c.releases) base [say .denied]) ∧
        (uses ≠ 0 → (z.door p).state ≠ .locked → Answers i s (ended .accessDone c.releases) base [say .opened]) ∧
        (uses ≠ 0 → (z.door p).state = .locked → DirectoryOrdered z →
          Answers i s
            { (ended .accessDone (min (c.releases + 1) 255)) with
              directory :=
                if uses = 255 then z.directory
                else z.directory.map fun x => if x.code = e.code then { x with body := .access (uses - 1) } else x
              doors := z.doors.set p
                { state := .released, releaseTimer := some (z.params.releaseTime * 800), heldOpenTimer := none }
              journal := journal
              journalSeq := (z.journalSeq + 1) % 65536
              overwrites := if full then min (z.overwrites + 1) 65535 else z.overwrites
              attention := z.attention ||| raised }
            base
            ((.panel p, unlockMsg (BitVec.ofNat 8 st.val) z.params.releaseTime) :: say .opened :: z.notice raised))))

/-- What the clearing of call `n`, an ENTRANCE call between its station and one handset or position, brings to the first call
`m` that waits for what it gives up, within its own event and before `more` (R27, R52): the riser channel goes to the head of
its seek queue, which rings its flat (R77); the handset wakes the head of its watch list (R68); the position, appended to the
idle order, wakes the head of the desk queue (R88). -/
def WakesTheNext (s t : State) (n : CallNo) (cause : Cause) (base : LinkId → LinkUnit) (more : List (LinkId × Message)) :
    Prop :=
  ∀ (p : Fin 4) (st : Fin 2) (m : CallNo) (rest : List CallNo), m ≠ n → (s.call n).origin = some (.station p st) →
    s.station p st = some n → (s.call n).alerted = [] → (s.call n).joined = none → s.StandsNowhere n →
    s.mode ≠ .draining →
    let w := s.call m
    let gone : CallRecord := { CallRecord.blank with lastCause := some cause, releases := (s.call n).releases }
    let left := s.setStation p st none
    let is : State → List (LinkId × Message) → Prop := fun u out =>
      let all := s.reached ((s.call n).clearingOut cause) ++ out ++ more
      s.Room all → t = { u with links := t.links } ∧ ∀ k, t.link k = (base k).withTx (outFor k all)
    (∀ r a c b, (s.call n).answerer = some (.handset r a) → (s.call n).reservations = [(r, c)] →
      (s.handset r a).engaged = some n →
      ∀ x : Resolved, w.resolved = some x → x.targets = .flat [(r, b)] → w.alerted = [] → w.reservations = [] →
      (s.handset r b).present = true → (s.handset r b).quiet = false →
      (w.state = .seeking → w.kind ≠ some .resident → s.seekQueue r = m :: rest → (s.handset r a).watch = [] →
        (s.handset r b).engaged = none →
        is { (((left.setHandset r a { s.handset r a with engaged := none }).setHandset r b
                { s.handset r b with engaged := some m }).setChannel r c (some m)) with
             seekQueues := s.seekQueues.set r rest
             calls := (s.calls.set n gone).set m (w.ringing s.params x.alertTime [(r, b)] [(r, c)]) }
           (w.ringingOut s.params [(r, b)])) ∧
      (∀ ch, w.state = .camped → b = a → (s.handset r a).watch = m :: rest → s.seekQueue r = [] →
        (s.setChannel r c none).FirstFree r ch →
        is { (((left.setHandset r a { s.handset r a with engaged := some m, watch := rest }).setChannel r c
                none).setChannel r ch (some m)) with
             calls := (s.calls.set n gone).set m (w.ringing s.params x.alertTime [(r, a)] [(r, ch)]) }
           (w.ringingOut s.params [(r, a)]))) ∧
    (∀ q f h, (s.call n).answerer = some (.position q) → (s.call n).reservations = [] → (s.position q).engaged = some n →
      (s.position q).loggedOn = true → s.idleOrder = [] → s.deskQueue = m :: rest → w.state = .queued →
      w.waitCount = some ⟨.deskWait, f, h⟩ →
      is { (left.setPosition q { s.position q with engaged := some m }) with
           deskQueue := rest
           calls := (s.calls.set n gone).set m (w.ringingDesk s.params q) }
         (w.deskOut m q))

/-- The frame of a link's way DOWN: as for a command on calls, and beside it only what follows the state of link `l` has
changed: its unit, the door of its panel, the turn and the presences of its riser, the logged-on positions of the trunk. -/
def KeepsToLinkLoss (s t : State) (l : LinkId) : Prop :=
  t = { s with
        links := t.links
        calls := t.calls
        handsets := t.handsets
        stations := t.stations
        positions := t.positions
        schedulers := t.schedulers
        channels := t.channels
        seekQueues := t.seekQueues
        deskQueue := t.deskQueue
        idleOrder := t.idleOrder
        doors := t.doors
        mode := t.mode
        attention := t.attention } ∧
    (∀ k, k ≠ l → LinkKept s t k) ∧ (∀ p, l ≠ .panel p → t.door p = s.door p) ∧
    (∀ r, l ≠ .riser r → t.scheduler r = s.scheduler r) ∧
    (∀ r a, (t.handset r a).quiet = (s.handset r a).quiet) ∧
    (∀ r a, l ≠ .riser r → (t.handset r a).present = (s.handset r a).present) ∧
    (l ≠ .trunk → ∀ q, (t.position q).loggedOn = (s.position q).loggedOn)

end Sys2Proof.Machine
end

