-- ==== Sys2Proof/WellFormed.lean ====
section
/-!
DEFINITION. The checks on a command's operands, one named check for each way a command can name what no link unit
delivers or no frame period brings.
-/

namespace Sys2Proof

/-- A party's message does not carry the management address (9-1). -/
def partyAddressOk (a : Octet) : Bool := decide (a ≠ Config.managementAddress)

/-- A frame period brings ten line bits for each octet of a frame of its link (Table 8-2, Table 8-3). -/
def frameBitsOk (l : LinkId) (bits : List Bool) : Bool := decide (bits.length = l.frameBits)

/-- A payload holds at most 24 octets (R158). -/
def payloadOk (payload : List Octet) : Bool := decide (payload.length ≤ 24)

/-- A position's address is an octet other than the management address; a handset's always is (9-1). -/
def talkerOk (t : Talker) : Bool := partyAddressOk t.addr

/-- A message that is discarded at delivery is a party's message, with a payload the envelope admits, that does not fit
the catalogue of its link (R165). -/
def discardOk (l : LinkId) (m : Message) : Bool :=
  partyAddressOk m.addr && payloadOk m.payload && !Machine.fitsCatalogue l m

/-- The type of an unknown request is no request type (R181). -/
def unknownTypeOk (type : Octet) : Bool := !Machine.isRequestType type

/-- Whether a command is well formed. -/
def wellFormed (i : Instr) : Bool :=
  match i with
  | .upstreamFrame l bits => frameBitsOk l bits
  | .keyDigit _ a _ => partyAddressOk a
  | .keyCall _ a => partyAddressOk a
  | .keyCancel _ a => partyAddressOk a
  | .keyDesk _ a => partyAddressOk a
  | .doorOpen _ a => partyAddressOk a
  | .doorShut _ a => partyAddressOk a
  | .answer t => talkerOk t
  | .hangup t => talkerOk t
  | .openDoor t => talkerOk t
  | .extend t => talkerOk t
  | .logon a => partyAddressOk a
  | .logoff a => partyAddressOk a
  | .dial a _ => partyAddressOk a
  | .join a _ => partyAddressOk a
  | .catalogueDiscard l m => discardOk l m
  | .managementRefused _ _ args => payloadOk args
  | .unknownRequest _ type args => unknownTypeOk type && payloadOk args
  | .start _ args => payloadOk args
  | .stop _ args => payloadOk args
  | .restart _ args => payloadOk args
  | .status _ args => payloadOk args
  | .set _ args => payloadOk args
  | .get _ args => payloadOk args
  | .dirPut _ args => payloadOk args
  | .dirDel _ args => payloadOk args
  | .dirGet _ args => payloadOk args
  | .dirNext _ args => payloadOk args
  | .partyGet _ args => payloadOk args
  | .partySet _ args => payloadOk args
  | .callGet _ args => payloadOk args
  | .callClear _ args => payloadOk args
  | .linkGet _ args => payloadOk args
  | .linkReset _ args => payloadOk args
  | .clearCounts _ args => payloadOk args
  | .journalRead _ args => payloadOk args
  | .ackAttention _ args => payloadOk args
  | .setTime _ args => payloadOk args
  | .powerOn => true
  | .downstreamFrame _ => true
  | .voiceFramePeriod => true
  | .hangCounterExpiry _ => true
  | .turnBegin _ => true
  | .turnTimeout _ => true
  | .turnLimit _ => true
  | .hello _ _ _ _ => true
  | .callDesk _ _ => true
  | .quiet _ _ _ => true
  | .lostMarker _ => true
  | .digitTimerExpiry _ => true
  | .seekTimerExpiry _ => true
  | .campTimerExpiry _ => true
  | .alertTimerExpiry _ => true
  | .deskRingExpiry _ => true
  | .deskWaitExpiry _ => true
  | .talkCountWarning _ => true
  | .timeLimit _ => true
  | .releaseTimerExpiry _ => true
  | .heldOpenExpiry _ => true
  | .holdOffWaitExpiry _ => true
  | .secondsTick => true
  | .channelGrant _ _ => true
  | .campWake _ _ => true
  | .deskQueueWake => true
  | .drainEnd => true
  | .resetAsserted => true

end Sys2Proof
end

