-- ==== Sys2Proof/Certificates/Slice0/Obligations.lean ====
section
/-!
DEFINITION. The statements for the provers. A statement about a command says, for every state and operands that meet its
hypotheses, that `exec` answers a next state and what that state holds: written `t = { s with … }` it says in the same
breath that nothing else has changed, and `Sends` or `DeliversAndSends` says what each link unit holds.
-/

open Sys2Proof Sys2Proof.Machine

/-! ### The machine as a whole -/

/-- A step takes the command at the front of the queue and runs it with the rest of the queue (log 1). -/
def Obligations.StepRunsFrontCommand : Prop :=
  ∀ (s : State) (c : Instr) (rest : List Instr), s.pending = c :: rest →
    step s = exec c { s with pending := rest }

/-- A delivery command that can take its message does, at an empty receive queue of a link that is not DOWN, what it does
with its message at the head. It changes nothing where the queue is empty on a DOWN link, where another entry stands at the
head, and where it cannot take the message at all: a party's command at the management address, CATALOGUE_DISCARD of a
message that fits the catalogue, a request from outside the origin set, MANAGEMENT_REFUSED from inside it, UNKNOWN_REQUEST
from outside it or of a request type. That a command so brings its message, and that one without occasion changes nothing,
is the model's choice (log 1, log 2). -/
def Obligations.DeliveryBringsItsMessage : Prop :=
  ∀ (s : State) (c : Instr) (l : LinkId) (m : Message), c.delivery = some (l, m) →
    let takes : Prop :=
      match c with
      | .catalogueDiscard _ _ => m.addr ≠ 63#8 ∧ fitsCatalogue l m = false
      | .managementRefused _ _ _ => s.inOrigin l = false
      | .unknownRequest _ type _ => s.inOrigin l = true ∧ (type.toNat < 0x80 ∨ 0x93 < type.toNat)
      | _ => if c.request.isSome then s.inOrigin l = true else m.addr ≠ 63#8
    (takes → (s.link l).rx = [] → (s.link l).state ≠ .down → exec c s = exec c (s.arrived l m)) ∧
    (¬ takes → exec c s = .next s) ∧
    ((s.link l).rx = [] → (s.link l).state = .down → exec c s = .next s) ∧
    (∀ e, (s.link l).rx.head? = some e → e ≠ .message m → exec c s = .next s)

/-- A step with no command waiting, while RESET is high, lets one frame period pass: every running count loses one frame
period, a stopped count stays stopped and a held wait count as it is, the talk count falls by one at each whole second, the
measure of the second falls, and nothing else changes. The crosspoint, every link's downstream frame and exactly the turn
events and expiries then due join the queue, and an upstream frame at the stop level for each link that is UP or IMPAIRED
and has a frame period of its own clock not yet classed. A DOWN link presents 0x00 (R108). That the block so passes time is
the model's choice (log 3). -/
def Obligations.IdleStepIsOneFramePeriod : Prop :=
  ∀ s : State, s.pending = [] → s.resetLow = false →
    ∃ t, step s = .next t ∧
      t = { s with links := t.links, calls := t.calls, doors := t.doors, secondLeft := s.secondLeft - 1,
                   pending := t.pending } ∧
      (∀ l, t.link l =
        { s.link l with
          holdOffWait := (s.link l).holdOffWait.map fun f => f - 1
          unclassed := if (s.link l).state ≠ .down ∧ 1 ≤ (s.link l).unclassed then (s.link l).unclassed + 1 else 1
          presented := if (s.link l).state = .down then (s.link l).presented.map fun _ => 0x00#8
                       else (s.link l).presented }) ∧
      (∀ n, t.call n =
        { s.call n with
          stateCount := (s.call n).stateCount.map fun x => { x with frames := x.frames - 1 }
          waitCount := (s.call n).waitCount.map fun x => { x with frames := if x.held then x.frames else x.frames - 1 }
          talk := (s.call n).talk.map fun x =>
            if x.frames ≤ 1 then ⟨x.seconds - 1, 8000⟩ else { x with frames := x.frames - 1 } }) ∧
      (∀ p, t.door p = { s.door p with releaseTimer := (s.door p).releaseTimer.map fun f => f - 1,
                                       heldOpenTimer := (s.door p).heldOpenTimer.map fun f => f - 1 }) ∧
      Instr.voiceFramePeriod ∈ t.pending ∧ (∀ l, Instr.downstreamFrame l ∈ t.pending) ∧
      (∀ l bits, Instr.upstreamFrame l bits ∈ t.pending ↔
        bits = List.replicate (10 * l.frameOctets) true ∧ (s.link l).state ≠ .down ∧ 1 ≤ (s.link l).unclassed) ∧
      (∀ r, (Instr.turnTimeout r ∈ t.pending ↔ ∃ x, s.turn r = some x ∧ x.answered = false ∧ 16 ≤ x.frames) ∧
        (Instr.turnLimit r ∈ t.pending ↔ ∃ x, s.turn r = some x ∧ x.answered = true ∧ 80 ≤ x.frames) ∧
        (Instr.turnBegin r ∈ t.pending ↔ (s.link (.riser r)).state ≠ .down)) ∧
      (∀ n, (Instr.digitTimerExpiry n ∈ t.pending ↔ (t.call n).stateCount = some ⟨.digit, 0⟩) ∧
        (Instr.campTimerExpiry n ∈ t.pending ↔ (t.call n).stateCount = some ⟨.camp, 0⟩) ∧
        (Instr.alertTimerExpiry n ∈ t.pending ↔ (t.call n).stateCount = some ⟨.alert, 0⟩) ∧
        (Instr.deskRingExpiry n ∈ t.pending ↔ (t.call n).stateCount = some ⟨.deskRing, 0⟩) ∧
        (Instr.seekTimerExpiry n ∈ t.pending ↔ (t.call n).waitCount = some ⟨.seek, 0, false⟩) ∧
        (Instr.deskWaitExpiry n ∈ t.pending ↔ (t.call n).waitCount = some ⟨.deskWait, 0, false⟩) ∧
        (Instr.talkCountWarning n ∈ t.pending ↔
          ∃ x, (t.call n).talk = some x ∧ (t.call n).graceBound = none ∧ x.seconds ≤ 0) ∧
        (Instr.timeLimit n ∈ t.pending ↔
          ∃ (x : TalkCount) (g : Nat), (t.call n).talk = some x ∧ (t.call n).graceBound = some g ∧ x.seconds ≤ -(g : Int))) ∧
      (∀ p, (Instr.releaseTimerExpiry p ∈ t.pending ↔ (t.door p).releaseTimer = some 0) ∧
        (Instr.heldOpenExpiry p ∈ t.pending ↔ (t.door p).heldOpenTimer = some 0)) ∧
      (∀ l, Instr.holdOffWaitExpiry l ∈ t.pending ↔ (t.link l).holdOffWait = some 0) ∧
      (Instr.secondsTick ∈ t.pending ↔ t.secondLeft = 0)

/-- POWER_ON puts every block into its power-on values, with a whole second of the seconds counter to come, and
RESET_ASSERTED holds every line at the stop level, changes nothing else, and leaves a state in which DOWNSTREAM_FRAME sends
nothing. That the waiting commands stay at POWER_ON and that RESET_ASSERTED changes nothing but the lines is the model's
choice (log 18), as are the receiver at rest, no octet yet sent counting as a delimiter, and the line at the stop level in the
link unit's power-on values (log 19). -/
def Obligations.PowerOnAndResetAsserted : Prop :=
  ∀ s : State,
    (∃ t, exec .powerOn s = .next t ∧ t.pending = s.pending ∧ t.resetLow = false ∧ t.mode = .standby ∧
      (∀ l, t.link l = LinkUnit.reset l.voiceChannels ∧ (t.link l).state = .down ∧ (t.link l).rx = [] ∧
        (t.link l).tx = []) ∧
      (∀ n, t.call n = CallRecord.blank) ∧ t.directory = [] ∧
      (∀ r a, t.handset r a = { present := false, misses := 0, quiet := false, engaged := none, watch := [] }) ∧
      (∀ p st, t.station p st = none) ∧ (∀ q, t.position q = { loggedOn := false, engaged := none }) ∧
      (∀ r, t.scheduler r = { lastRolled := 62, lastServed := 62, nextKind := .roll, turn := none }) ∧
      (∀ r c, t.channel r c = none) ∧ (∀ r, t.seekQueue r = []) ∧ t.deskQueue = [] ∧ t.idleOrder = [] ∧
      (∀ p, t.door p = { state := .locked, releaseTimer := none, heldOpenTimer := none }) ∧ t.journal = [] ∧
      t.journalSeq = 0 ∧ t.overwrites = 0 ∧ t.params = Params.default ∧ t.attention = 0#8 ∧ t.seconds = 0 ∧
      t.secondLeft = 8000 ∧ t.refusals = 0) ∧
    (∃ t, exec .resetAsserted s = .next t ∧ t = { s with resetLow := true, links := t.links } ∧
      (∀ l, t.link l = { s.link l with line := none }) ∧ ∀ l u, exec (.downstreamFrame l) t = .next u → u = t)

/-- The state after reset meets every invariant. -/
def Obligations.ResetMeetsInvariants : Prop :=
  QueuesBounded State.reset ∧ DownLinksQuiet State.reset ∧ DirectoryOrdered State.reset ∧
    JournalConsecutive State.reset ∧ ParamsInRange State.reset ∧ StandbyIdle State.reset ∧ IdleRecordsBlank State.reset ∧
    ChannelsMatch State.reset ∧
    VoiceBounded State.reset ∧ PartiesBounded State.reset ∧ DoorsKept State.reset ∧ PlacesMatch State.reset ∧
    EngagementsMatch State.reset ∧ MarkersFirst State.reset

/-! ### Invariants that every step keeps -/

/-- Every step keeps the queues and the counters within their sizes. -/
def Obligations.QueuesStayBounded : Prop :=
  ∀ s t : State, QueuesBounded s → step s = .next t → QueuesBounded t

/-- Every step keeps a DOWN link without messages but the LOST marker, and a DOWN riser without a turn. -/
def Obligations.DownLinksStayQuiet : Prop :=
  ∀ s t : State, DownLinksQuiet s → step s = .next t → DownLinksQuiet t

/-- Every step keeps the directory in dial order, within 1024 entries, each with its fields in range. -/
def Obligations.DirectoryStaysOrdered : Prop :=
  ∀ s t : State, DirectoryOrdered s → step s = .next t → DirectoryOrdered t

/-- Every step keeps the journal within 64 records whose sequence numbers rise by one modulo 65536. -/
def Obligations.JournalStaysConsecutive : Prop :=
  ∀ s t : State, JournalConsecutive s → step s = .next t → JournalConsecutive t

/-- Every step keeps every parameter in its range and the trunk in the origin set. -/
def Obligations.ParametersStayInRange : Prop :=
  ∀ s t : State, ParamsInRange s → step s = .next t → ParamsInRange t

/-- Every step keeps IDLE records blank, and STANDBY without calls. -/
def Obligations.IdleRecordsAndStandbyAreKept : Prop :=
  ∀ s t : State, step s = .next t → (IdleRecordsBlank s → IdleRecordsBlank t) ∧ (StandbyIdle s → StandbyIdle t)

/-- Every step keeps the channel maps and the reservations of the calls in exact agreement, where IDLE records are blank. -/
def Obligations.ChannelsStayMatched : Prop :=
  ∀ s t : State, IdleRecordsBlank s → ChannelsMatch s → step s = .next t → ChannelsMatch t

/-- Every step keeps the meters at most 4032, the hang counters at most 4080, and the direction NEUTRAL with the hang
counter 0 where the mode is not SWITCHED, as long as the parameters are in range. -/
def Obligations.VoiceStaysBounded : Prop :=
  ∀ s t : State, ParamsInRange s → VoiceBounded s → step s = .next t → VoiceBounded t

/-- Every step keeps miss counts at most 3, watch lists at most 2 long and the idle order without repeats. Where IDLE records
are blank, every step keeps every call where its state says (SEEKING on one seek queue, QUEUED on the desk queue, CAMPED on
one watch list, no other call on any), every party engaged by the one call that has it, every role as the state of its call
allows, the free logged-on positions in the idle order, and a LOST marker before all that follows it. -/
def Obligations.PartiesStayBounded : Prop :=
  ∀ s t : State, step s = .next t →
    (PartiesBounded s → PartiesBounded t) ∧
    (IdleRecordsBlank s → PlacesMatch s → EngagementsMatch s → MarkersFirst s →
      PlacesMatch t ∧ EngagementsMatch t ∧ MarkersFirst t)

/-- Every step keeps the timers of a door as its state asks. -/
def Obligations.DoorTimersFollowState : Prop :=
  ∀ s t : State, DoorsKept s → step s = .next t → DoorsKept t

/-- A command changes the mode only in these ways: POWER_ON, RESTART and STOP may set STANDBY, STOP may set DRAINING, START
may set RUN, and any command may end a drain, after which every record is IDLE. -/
def Obligations.OnlyTheseCommandsChangeMode : Prop :=
  ∀ (c : Instr) (s t : State), exec c s = .next t → t.mode ≠ s.mode →
    c = .powerOn ∨ (∃ l args, c = .restart l args ∧ t.mode = .standby) ∨ (∃ l args, c = .start l args ∧ t.mode = .run) ∨
      (∃ l args, c = .stop l args ∧ s.mode = .run ∧ (t.mode = .standby ∨ t.mode = .draining)) ∨
      (s.mode = .draining ∧ t.mode = .standby ∧ ∀ n, (t.call n).state = .idle)

/-- Only SET and POWER_ON change a parameter; only SECONDS_TICK, SET_TIME and POWER_ON change the seconds counter; only
MANAGEMENT_REFUSED, CLEAR_COUNTS and POWER_ON change the refusal counter; and the journal's sequence counter moves only by
one, with a door that was LOCKED and is now RELEASED, or at POWER_ON. -/
def Obligations.OnlyTheseCommandsWrite : Prop :=
  ∀ (c : Instr) (s t : State), exec c s = .next t →
    (t.params ≠ s.params → c = .powerOn ∨ ∃ l args, c = .set l args) ∧
    (t.seconds ≠ s.seconds → c = .powerOn ∨ c = .secondsTick ∨ ∃ l args, c = .setTime l args) ∧
    (t.refusals ≠ s.refusals →
      c = .powerOn ∨ (∃ l type args, c = .managementRefused l type args) ∨ ∃ l args, c = .clearCounts l args) ∧
    (t.journalSeq ≠ s.journalSeq →
      c = .powerOn ∨
        (t.journalSeq = (s.journalSeq + 1) % 65536 ∧ ∃ p, (s.door p).state = .locked ∧ (t.door p).state = .released))

/-! ### Codes, frames and messages -/

/-- What is sent on a line comes back from it. A message of at most 24 payload octets, fed to an assembly stage in OPEN, comes
out of it whole at its closing delimiter and is judged good: escaping, assembly and the check agree. Octets sent without a
pause and followed by the stop level are recovered by a receiver at rest, each with the line bit that began it, and cut at
any line bit by the end of a frame period they come whole from the two periods. An octet whose stop bit arrives as 0 is
passed up as it is, and the octets after it are found again at the first start bit that follows a 1. -/
def Obligations.MessageLineRoundTrip : Prop :=
  (∀ m : Message, m.payload.length ≤ 24 →
    ∃ pre : List Octet, m.lineOctets = pre ++ [Config.delimiter] ∧
      Assembly.feed (pre.foldl (fun a o => (a.feed o).1) Assembly.openStage) Config.delimiter =
        (Assembly.openStage, .ended m.body false) ∧
      judgeBody m.body false = some m) ∧
  (∀ (os : List Octet) (k : Nat),
    let x := Receiver.period .rest (lineBits os ++ List.replicate k true)
    x.1 = .rest ∧ x.2.map (·.octet) = os ∧ x.2.map (·.start) = (List.range os.length).map fun i => ((10 * i : Nat) : Int)) ∧
  (∀ (os : List Octet) (k : Nat), k ≤ (lineBits os).length →
    let x := Receiver.period .rest ((lineBits os).take k)
    let y := Receiver.period x.1 ((lineBits os).drop k)
    y.1 = .rest ∧ (x.2 ++ y.2).map (·.octet) = os ∧
      x.2.map (·.start) ++ y.2.map (fun a => (a.start + k : Int)) =
        (List.range os.length).map fun i => ((10 * i : Nat) : Int)) ∧
  (∀ (o : Octet) (os : List Octet) (j k : Nat),
    let x := Receiver.period .rest
      ((octetBits o).take 9 ++ List.replicate (j + 1) false ++ List.replicate (k + 1) true ++ lineBits os)
    x.1 = .rest ∧ x.2.map (·.octet) = o :: os)

/-- An entry that keeps to Table 2-1 comes back whole from the payload that carries it; octets beyond it are ignored. -/
def Obligations.EntryPayloadRoundTrip : Prop :=
  ∀ (e : Entry) (more : List Octet), e.wellKept → entryOfOctets (entryOctets e ++ more) = some e

/-- Encoding and decoding of samples (R105): the segment and the step by the magnitude, the sign bit for a negative value,
the decoded value in the middle of its span, every octet but 0x80 coming back from decoding and encoding, and the values
the crosspoint encodes kept within -4095 to 4095. -/
def Obligations.SampleCodeRoundTrip : Prop :=
  (∀ y : Int, -4095 ≤ y → y ≤ 4095 →
    ∃ e m : Nat, e ≤ 7 ∧ m ≤ 15 ∧ (encodeSample y).toNat = (if y < 0 then 128 else 0) + e * 16 + m ∧
      ((y.natAbs < 32 ∧ e = 0 ∧ m = y.natAbs / 2) ∨
        (1 ≤ e ∧ 2 ^ (e + 4) ≤ y.natAbs ∧ y.natAbs < 2 ^ (e + 5) ∧ m + 16 = y.natAbs / 2 ^ e)) ∧
      (decodeSample (encodeSample y)).natAbs = (if e = 0 then 2 * m else (16 + m) * 2 ^ e + 2 ^ (e - 1)) ∧
      0 ≤ (if y < 0 then -decodeSample (encodeSample y) else decodeSample (encodeSample y))) ∧
  (∀ o : Octet, encodeSample (decodeSample o) = if o = 0x80#8 then 0x00#8 else o) ∧
  (∀ (step : Nat) (o : Octet), (attenuate step (decodeSample o)).natAbs ≤ 4095) ∧
  ∀ y : Int, (clampMix y).natAbs ≤ 4095

/-- Attenuation (R106): the factors of the eight steps, the truncated magnitude that never exceeds the value, the sign kept,
0 kept, step 0 exact, and two steps halving the factor but for its rounding. -/
def Obligations.AttenuationNeverExceeds : Prop :=
  (List.range 8).map attenuationFactor = [256, 181, 128, 91, 64, 45, 32, 23] ∧
    (∀ (step : Nat) (v : Int), step ≤ 7 →
      (attenuate step v).natAbs = v.natAbs * attenuationFactor step / 256 ∧
        (attenuate step v).natAbs ≤ v.natAbs ∧ (0 ≤ v → 0 ≤ attenuate step v) ∧ (v ≤ 0 → attenuate step v ≤ 0) ∧
        attenuate step 0 = 0 ∧ attenuate 0 v = v) ∧
    ∀ step : Nat, step ≤ 5 →
      attenuationFactor step ≤ 2 * attenuationFactor (step + 2) + 1 ∧
        2 * attenuationFactor (step + 2) ≤ attenuationFactor step + 1

/-- The frame the switch builds is a good one for a link of its length, and changing one octet of it after the marker to
another value makes it bad. -/
def Obligations.FrameCheckFindsOneWrongOctet : Prop :=
  ∀ (l : LinkId) (status sig1 sig2 : Octet) (voice : List Octet), voice.length = l.voiceChannels →
    frameClass l (frameOf status sig1 sig2 voice) = .good ∧
      ∀ (i : Nat) (o : Octet), 1 ≤ i → i < l.frameOctets → o ≠ (frameOf status sig1 sig2 voice).getD i 0#8 →
        frameClass l ((frameOf status sig1 sig2 voice).set i o) = .bad

/-! ### Frames and turns -/

/-- DOWNSTREAM_FRAME, RESET high: the link sends one whole frame with its marker, its status octet (hold-off while four
entries stand in the receive queue; the grant of the current turn, 63 for none, 0 off the risers), its two signalling octets,
the octets the crosspoint handed last, and a check that makes the sum 0. Nothing but its own unit, and the frame count of its
turn, changes. The signalling octets (R166 to R168): delimiters when the link has nothing to send; the next two octets of the
message being sent, which leaves the queue with its closing delimiter, its last octet, and the head may begin at the octet
after that; the first octets of the head that may begin, behind an opening delimiter where the octet sent last was none; and
delimiters while the partner hold-off keeps the head from beginning, whose wait of 1 s is loaded unless it is loaded
already, and stopped as the head begins. -/
def Obligations.DownstreamFrameIsSent : Prop :=
  ∀ (s : State) (l : LinkId), s.resetLow = false → (s.link l).handed.length = l.voiceChannels →
    ∃ t f, exec (.downstreamFrame l) s = .next t ∧ (t.link l).line = some f ∧ f.length = l.frameOctets ∧
      f.getD 0 0#8 = 0x5A#8 ∧ octetSum (f.drop 1) = 0#8 ∧ (f.drop 4).take l.voiceChannels = (s.link l).handed ∧
      f.getD 1 0#8 = BitVec.ofNat 8 ((if 4 ≤ (s.link l).rx.length then 128 else 0) +
        (match l with
         | .riser r => match s.turn r with
           | some x => x.addr.val
           | none => 63
         | _ => 0)) ∧
      (let u := s.link l
       let sends : Octet → Octet → LinkUnit → Prop := fun a b v =>
         f.getD 2 0#8 = a ∧ f.getD 3 0#8 = b ∧ t.link l = { v with line := some f }
       let held : LinkUnit → LinkUnit := fun v =>
         { v with lastDelimiter := true, holdOffWait := some (v.holdOffWait.getD 8000) }
       let isE7 : Octet → Bool := fun o => decide (o = 0xE7#8)
       (u.sending = none →
         (u.tx = [] → sends 0xE7#8 0xE7#8 { u with lastDelimiter := true }) ∧
         (∀ m rest, u.tx = m :: rest →
           (u.partnerHoldOff = true → sends 0xE7#8 0xE7#8 (held u)) ∧
           (∀ a b more, u.partnerHoldOff = false → m.lineOctets = a :: b :: more →
             (u.lastDelimiter = true →
               sends a b { u with sending := some more, lastDelimiter := isE7 b, holdOffWait := none }) ∧
             (u.lastDelimiter = false →
               sends 0xE7#8 a { u with sending := some (b :: more), lastDelimiter := isE7 a, holdOffWait := none })))) ∧
       (∀ a b o more, u.sending = some (a :: b :: o :: more) →
         sends a b { u with sending := some (o :: more), lastDelimiter := isE7 b }) ∧
       (∀ a b, u.sending = some [a, b] → sends a b { u with sending := none, tx := u.tx.tail, lastDelimiter := true }) ∧
       (∀ a, u.sending = some [a] →
         let v := { u with sending := none, tx := u.tx.tail, lastDelimiter := true }
         (u.tx.tail = [] → sends a 0xE7#8 v) ∧
         (∀ m rest, u.tx.tail = m :: rest →
           (u.partnerHoldOff = true → sends a 0xE7#8 (held v)) ∧
           (∀ b more, u.partnerHoldOff = false → m.lineOctets = b :: more →
             sends a b { v with sending := some more, lastDelimiter := isE7 b, holdOffWait := none })))) ∧
      (∀ m : Message, 5 ≤ m.lineOctets.length ∧ m.lineOctets.getLast? = some 0xE7#8 ∧ 0xE7#8 ∉ m.lineOctets.dropLast) ∧
      (∀ k, k ≠ l → t.link k = s.link k) ∧ t = { s with links := t.links, schedulers := t.schedulers } ∧
      (∀ r, l ≠ .riser r → t.scheduler r = s.scheduler r) ∧
      ∀ r, l = .riser r →
        t.scheduler r =
          { s.scheduler r with turn := (s.turn r).map fun x => { x with frames := x.frames + 1 } }

/-- UPSTREAM_FRAME, on a link whose receiver is at rest; where not said otherwise the frame starts with the frame period. On
an UP link a good frame of idle fill gives its voice octets to
the crosspoint and its hold-off mark to a panel or trunk link, and clears the lost run. A good frame that ends a message in
assembly puts it at the tail of the receive queue, with four there into the holding slot, with that taken over it, counted
and FAULT raised; on a riser only a message of the address granted, or at the management address, in an answered turn is
so taken, any other counts a check error, and the answered turn ends. A bad frame with another in the seven
periods before it takes the link to IMPAIRED, counts, presents silence, raises LINK and may end its riser's turn. The 64th
good frame in a row takes an IMPAIRED link UP, raises LINK and is heard; one before it leaves the link IMPAIRED and silent.
On a DOWN link the sixteenth marker at one place takes the link UP and raises LINK, and where it stood in the frame period is
the held alignment; an octet short of that moves the hunt on as R145 says, and the link presents silence. On a link whose
sixteenth frame began within a period, that frame is not classed, and the frame after it, which starts at the held alignment
and ends in the period after, is taken whole.
How the bits of a period come to stand at the places of its frame is log 6. -/
def Obligations.UpstreamFrameIsTaken : Prop :=
  ∀ (s : State) (l : LinkId), (s.link l).receiver = .rest →
    let opened : Assembly := { stage := .opened, body := [], escape := false }
    let holdOff : Octet → Bool := fun status =>
      match l with
      | .riser _ => (s.link l).partnerHoldOff
      | _ => status.getLsbD 7
    let whole := (s.link l).alignment = some 0 ∧ (s.link l).acquiring = false ∧ (s.link l).gathered = []
    (∀ (status : Octet) (voice : List Octet), voice.length = l.voiceChannels → whole →
      let good := Instr.upstreamFrame l (lineBits (frameOf status 0xE7#8 0xE7#8 voice))
      ((s.link l).state = .up → (s.link l).assembly.stage ≠ .collecting →
        ∃ t, exec good s = .next t ∧ t = { s with links := t.links } ∧ (∀ k, k ≠ l → t.link k = s.link k) ∧
          t.link l =
            { s.link l with
              unclassed := (s.link l).unclassed - 1
              lostRun := 0
              history := (false :: (s.link l).history).take 7
              lastGood := voice
              presented := voice
              assembly := opened
              partnerHoldOff := holdOff status }) ∧
      ((s.link l).state = .impaired → (s.link l).goodRun = 63 → (s.link l).assembly.stage ≠ .collecting →
        ∃ t, exec good s = .next t ∧ t.attention.getLsbD 0 = true ∧
          t = { s with links := t.links, attention := t.attention } ∧ (∀ k, k ≠ l → LinkKept s t k) ∧
          (t.link l).state = .up ∧ (t.link l).goodRun = 0 ∧ (t.link l).lostRun = 0 ∧ (t.link l).lastGood = voice ∧
          (t.link l).presented = voice ∧ (t.link l).assembly = opened) ∧
      ((s.link l).state = .impaired → (s.link l).goodRun < 63 → (s.link l).assembly.stage ≠ .collecting →
        ∃ t, exec good s = .next t ∧ t = { s with links := t.links } ∧ (∀ k, k ≠ l → t.link k = s.link k) ∧
          (t.link l).state = .impaired ∧ (t.link l).goodRun = (s.link l).goodRun + 1 ∧ (t.link l).lastGood = voice ∧
          (t.link l).presented = voice.map fun _ => 0x00#8) ∧
      (∀ m : Message, (s.link l).state = .up →
        (s.link l).assembly = { stage := .collecting, body := m.body, escape := false } →
        let admitted := ∀ r, l = .riser r →
          ∃ x, s.turn r = some x ∧ x.answered = true ∧ (m.addr = BitVec.ofNat 8 x.addr.val ∨ m.addr = 63#8)
        ∃ t, exec good s = .next t ∧
          t = { s with links := t.links, schedulers := t.schedulers, attention := t.attention } ∧
          (∀ k, k ≠ l → LinkKept s t k) ∧ (t.link l).assembly = opened ∧ (t.link l).presented = voice ∧
          (∀ r, t.scheduler r =
            { s.scheduler r with turn := if l = .riser r then (s.turn r).filter (fun x => !x.answered) else s.turn r }) ∧
          (¬ admitted → (t.link l).rx = (s.link l).rx ∧ (t.link l).holding = (s.link l).holding ∧
            (t.link l).checkErrors = min ((s.link l).checkErrors + 1) 65535 ∧ t.attention = s.attention) ∧
          (admitted → (t.link l).checkErrors = (s.link l).checkErrors ∧
            ((s.link l).rx.length < 4 → (t.link l).rx = (s.link l).rx ++ [.message m] ∧
              (t.link l).holding = (s.link l).holding ∧ (t.link l).overruns = (s.link l).overruns ∧
              t.attention = s.attention) ∧
            (4 ≤ (s.link l).rx.length → (t.link l).rx = (s.link l).rx ∧ (t.link l).holding = some m) ∧
            (4 ≤ (s.link l).rx.length → (s.link l).holding = none →
              (t.link l).overruns = (s.link l).overruns ∧ t.attention = s.attention) ∧
            (4 ≤ (s.link l).rx.length → (s.link l).holding ≠ none →
              (t.link l).overruns = min ((s.link l).overruns + 1) 65535 ∧ t.attention = s.attention ||| 0x04#8)))) ∧
    (∀ (octets : List Octet) (idle : Nat), (s.link l).state = .up → whole → frameClass l octets = .bad →
      true ∈ (s.link l).history →
      ∃ t, exec (.upstreamFrame l (lineBits octets ++ List.replicate idle true)) s = .next t ∧
        (t.link l).state = .impaired ∧
        (t.link l).badFrames = min ((s.link l).badFrames + 1) 65535 ∧ (t.link l).lostRun = 0 ∧ (t.link l).goodRun = 0 ∧
        (t.link l).lastGood = (s.link l).lastGood ∧ (∀ o ∈ (t.link l).presented, o = 0x00#8) ∧
        (t.link l).assembly = { stage := .hunting, body := [], escape := false } ∧ t.attention.getLsbD 0 = true ∧
        t = { s with links := t.links, attention := t.attention, schedulers := t.schedulers } ∧
        (∀ r, t.scheduler r = { s.scheduler r with turn := t.turn r } ∧ (l ≠ .riser r → t.turn r = s.turn r)) ∧
        ∀ k, k ≠ l → LinkKept s t k) ∧
    (∀ (idle : Nat) (before rest : List Octet), (s.link l).state = .down → (s.link l).markerRun = 15 →
      (s.link l).candidate = some (l.frameOctets - 1 - before.length) →
      idle + 10 * (before.length + 1 + rest.length) = l.frameBits →
      ∃ t, exec (.upstreamFrame l (List.replicate idle true ++ lineBits (before ++ 0x5A#8 :: rest))) s = .next t ∧
        (t.link l).state = .up ∧ (t.link l).alignment = some (idle + 10 * before.length) ∧
        (t.link l).acquiring = decide (0 < idle + 10 * before.length) ∧ (t.link l).gathered = [] ∧
        (t.link l).lostRun = 0 ∧ (t.link l).goodRun = 0 ∧ (t.link l).history = [] ∧ t.attention.getLsbD 0 = true ∧
        t = { s with links := t.links, attention := t.attention } ∧ ∀ k, k ≠ l → LinkKept s t k) ∧
    (∀ (o : Octet) (idle : Nat), (s.link l).state = .down → (s.link l).markerRun ≠ 15 → (s.link l).markerRun ≠ 16 →
      let found : Option Nat × Nat :=
        match (s.link l).candidate with
        | none => if o = 0x5A#8 then (some 0, 1) else (none, (s.link l).markerRun)
        | some k =>
          if k + 1 < l.frameOctets then (some (k + 1), (s.link l).markerRun)
          else if o = 0x5A#8 then (some 0, (s.link l).markerRun + 1) else (none, 0)
      ∃ t, exec (.upstreamFrame l (lineBits [o] ++ List.replicate idle true)) s = .next t ∧
        t = { s with links := t.links } ∧ (∀ k, k ≠ l → t.link k = s.link k) ∧
        t.link l =
          { s.link l with
            unclassed := (s.link l).unclassed - 1
            candidate := found.1
            markerRun := found.2
            presented := (s.link l).presented.map fun _ => 0x00#8 }) ∧
    (∀ (place : Nat) (status : Octet) (voice : List Octet), (s.link l).state = .up → voice.length = l.voiceChannels →
      0 < place → place < l.frameBits → (s.link l).alignment = some place → (s.link l).acquiring = true →
      (s.link l).assembly.stage ≠ .collecting →
      let line := lineBits (frameOf status 0xE7#8 0xE7#8 voice)
      let cut := l.frameBits - place
      ∃ t u, exec (.upstreamFrame l (List.replicate place true ++ line.take cut)) s = .next t ∧
        exec (.upstreamFrame l (line.drop cut ++ List.replicate cut true)) t = .next u ∧
        t = { s with links := t.links } ∧ (∀ k, k ≠ l → t.link k = s.link k) ∧
        t.link l =
          { s.link l with
            receiver := (t.link l).receiver
            unclassed := (s.link l).unclassed - 1
            acquiring := false
            gathered := (t.link l).gathered } ∧
        u = { s with links := u.links } ∧ (∀ k, k ≠ l → u.link k = s.link k) ∧
        u.link l =
          { s.link l with
            unclassed := (s.link l).unclassed - 2
            acquiring := false
            gathered := []
            lostRun := 0
            history := (false :: (s.link l).history).take 7
            lastGood := voice
            presented := voice
            assembly := opened
            partnerHoldOff := holdOff status })

/-- The eighth lost frame in a row, a line at the stop level for one, takes a link DOWN: its queues are flushed, the LOST
marker stands in the receive queue, its presented octets are silence, LINK is raised; a panel's door is LOCKED, a riser's
turn ends and its handsets are ABSENT with no misses, the trunk's positions are logged off.
What does not follow the link's state is kept. A frame whose first octet is no marker is lost (log 6): one that starts with
the frame period, or the silence of a line wherever the held alignment puts the frame. The held alignment is dropped. -/
def Obligations.EighthLostFrameTakesLinkDown : Prop :=
  ∀ (s : State) (l : LinkId) (octets : List Octet) (idle : Nat), (s.link l).receiver = .rest →
    (s.link l).state ≠ .down → 7 ≤ (s.link l).lostRun → (s.link l).acquiring = false → (s.link l).gathered = [] →
    ((s.link l).alignment = some 0 ∧ octets.head? ≠ some 0x5A#8) ∨ octets = [] →
    ∃ t, exec (.upstreamFrame l (lineBits octets ++ List.replicate idle true)) s = .next t ∧
      (t.link l).state = .down ∧ (t.link l).alignment = none ∧ (t.link l).gathered = [] ∧ (t.link l).candidate = none ∧
      (t.link l).markerRun = 0 ∧ (t.link l).rx = [.lost] ∧
      (t.link l).holding = none ∧ (t.link l).tx = [] ∧ (t.link l).sending = none ∧
      (t.link l).assembly = { stage := .hunting, body := [], escape := false } ∧ (t.link l).partnerHoldOff = false ∧
      (t.link l).checkErrors = (s.link l).checkErrors ∧ (∀ o ∈ (t.link l).presented, o = 0x00#8) ∧
      t.attention.getLsbD 0 = true ∧
      (∀ p, l = .panel p → t.door p = { state := .locked, releaseTimer := none, heldOpenTimer := none }) ∧
      (∀ r, l = .riser r → t.turn r = none ∧
        ∀ a, (t.handset r a).present = false ∧ (t.handset r a).misses = 0 ∧
          (t.handset r a).quiet = (s.handset r a).quiet) ∧
      (l = .trunk → t.idleOrder = [] ∧ ∀ q, (t.position q).loggedOn = false) ∧ KeepsToLinkLoss s t l

/-- VOICE_FRAME_PERIOD: each call in TALKING takes its voice state one period on, which is also the state of its latest
period: its meters by R114 from the samples presented, and in SWITCHED mode the direction and the hang counter decided by
R115 and R116 from the new levels, else NEUTRAL and 0. No other record changes. A downstream channel that no party of a
TALKING call has is given silence. Where no other TALKING call has the channels of its parties, each party of a call is
sent the other's sample through its own link's gain and, in SWITCHED mode, the loss share of the direction decided (R118,
R119), or in MIXED mode the clamped sum of the two others (R121); other conversations may run at once. -/
def Obligations.VoiceFramePeriodIsTaken : Prop :=
  ∀ s : State, ∃ t, exec .voiceFramePeriod s = .next t ∧ t = { s with links := t.links, calls := t.calls } ∧
    (∀ n, ((s.call n).state ≠ .talking ∨ (s.call n).voice = none) → t.call n = s.call n) ∧
    (∀ l, (t.link l) = { s.link l with handed := (t.link l).handed } ∧
      (t.link l).handed.length = (s.link l).handed.length) ∧
    (∀ l i, (∀ n x, (s.call n).state = .talking → x ∈ (s.call n).parties → (s.call n).channelOf x ≠ some (l, i)) →
      (t.link l).handed.getD i 0#8 = 0x00#8) ∧
    ∀ n v, (s.call n).state = .talking → (s.call n).voice = some v →
      let heard : Option Party → Int := fun x =>
        match x.bind (s.call n).channelOf with
        | some (l, i) => decodeSample ((s.link l).presented.getD i 0#8)
        | none => 0
      let so := heard (s.call n).origin
      let sa := heard (s.call n).answerer
      let sj := heard ((s.call n).joined.map Party.position)
      let lent := meterAfter v.originMeter so.natAbs
      let lin := meterAfter v.answererMeter sa.natAbs
      let limit := s.params.speechThreshold
      let load := s.params.hangTime * 16
      let loss := s.params.switchLoss
      let falls : Direction → Direction × Nat := fun d => if 1 < v.hang then (d, v.hang - 1) else (.neutral, 0)
      let decided : Direction × Nat :=
        match v.mode, v.direction with
        | .switched, .neutral =>
          if limit ≤ lent ∧ lin < lent then (.entrance, load) else if limit ≤ lin then (.inside, load) else (.neutral, 0)
        | .switched, .entrance =>
          if limit ≤ lin ∧ 2 * lent < lin then (.inside, load)
          else if limit ≤ lent then (.entrance, load) else falls .entrance
        | .switched, .inside =>
          if limit ≤ lent ∧ 2 * lin < lent then (.entrance, load)
          else if limit ≤ lin then (.inside, load) else falls .inside
        | _, _ => (.neutral, 0)
      let after : Voice :=
        { v with
          originMeter := lent
          answererMeter := lin
          joinedMeter := v.joinedMeter.map fun j => meterAfter j sj.natAbs
          direction := decided.1
          hang := decided.2 }
      let inward := match v.mode, decided.1 with
        | .switched, .neutral => loss / 2
        | .switched, .inside => loss
        | _, _ => 0
      let outward := match v.mode, decided.1 with
        | .switched, .neutral => loss / 2
        | .switched, .entrance => loss
        | _, _ => 0
      let path : LinkId → Nat → Int → Int := fun l share z => attenuate (min (s.params.gain l + share) 7) z
      let mix : LinkId → Int → Int → Int := fun l y z => max (-4095) (min 4095 (path l (loss / 2) y + path l (loss / 2) z))
      let own : LinkId → Nat → Prop := fun l i => i < (s.link l).handed.length ∧
        ∀ m, m ≠ n → (s.call m).state = .talking → ∀ z ∈ (s.call m).parties, (s.call m).channelOf z ≠ some (l, i)
      t.call n = { s.call n with voice := some after, lastPeriod := some after } ∧
      ∀ x y lx ix ly iy, (s.call n).origin = some x → (s.call n).answerer = some y →
        (s.call n).channelOf x = some (lx, ix) → (s.call n).channelOf y = some (ly, iy) → (lx, ix) ≠ (ly, iy) →
        own lx ix → own ly iy →
        (v.mode ≠ .mixed →
          (t.link ly).handed.getD iy 0#8 = encodeSample (path ly inward so) ∧
          (t.link lx).handed.getD ix 0#8 = encodeSample (path lx outward sa)) ∧
        ∀ q : Fin 6, v.mode = .mixed → (s.call n).joined = some q → own .trunk q.val → (lx, ix) ≠ (.trunk, q.val) →
          (ly, iy) ≠ (.trunk, q.val) →
          (t.link lx).handed.getD ix 0#8 = encodeSample (mix lx sa sj) ∧
          (t.link ly).handed.getD iy 0#8 = encodeSample (mix ly so sj) ∧
          (t.link .trunk).handed.getD q.val 0#8 = encodeSample (mix .trunk so sa)

/-- The level meters (R114): a louder sample closes half the gap, any other lets the level fall by a thirty-second, at least
by one, and not below 0; a meter exceeds neither its level before nor the sample. HANG_COUNTER_EXPIRY: the direction of a
SWITCHED call whose hang counter has run out returns to NEUTRAL when the level of the side that holds it is below the speech
threshold and the other side does not break in, and nothing else changes; otherwise nothing changes (R116, log 4).
That it also stands as a command of its own is log 26. -/
def Obligations.MetersAndHangCounter : Prop :=
  (∀ level x : Nat,
     (level < x → meterAfter level x = level + (x - level) / 2) ∧
     (x ≤ level → 32 ≤ level → meterAfter level x = level - level / 32) ∧
     (x ≤ level → 0 < level → level < 32 → meterAfter level x + 1 = level) ∧
     (level = 0 → x = 0 → meterAfter level x = 0) ∧ meterAfter level x ≤ max level x) ∧
  (∀ (s : State) (n : CallNo) (v : Voice), (s.call n).state = .talking → (s.call n).voice = some v →
     let holds := if v.direction = .entrance then v.originMeter else v.answererMeter
     let other := if v.direction = .entrance then v.answererMeter else v.originMeter
     let limit := s.params.speechThreshold
     exec (.hangCounterExpiry n) s =
       .next
         (if v.mode = .switched ∧ v.direction ≠ .neutral ∧ v.hang = 0 ∧ holds < limit ∧
             ¬ (limit ≤ other ∧ 2 * holds < other) then
           { s with calls := s.calls.set n { s.call n with voice := some { v with direction := .neutral } } }
          else s)) ∧
  ∀ (s : State) (n : CallNo), (s.call n).state ≠ .talking ∨ (s.call n).voice = none →
    exec (.hangCounterExpiry n) s = .next s

/-- TURN_BEGIN on a riser with no turn, a link that is not DOWN and a receive queue that is not full: a ROLL turn goes to
the address after the last rolled one; an ENGAGED turn goes to the first engaged handset after the last served one, or,
with none engaged, is served as a ROLL turn; the next kind is the other kind from the one meant. Nothing else changes. -/
def Obligations.TurnBeginGrantsAnAddress : Prop :=
  ∀ (s : State) (r : Fin 8), s.turn r = none → (s.link (.riser r)).state ≠ .down → (s.link (.riser r)).rx.length < 4 →
    ∃ t, exec (.turnBegin r) s = .next t ∧ t = { s with schedulers := t.schedulers } ∧
      (∀ k, k ≠ r → t.scheduler k = s.scheduler k) ∧
      ((s.scheduler r).nextKind = .roll →
        t.scheduler r =
          { s.scheduler r with
            lastRolled := (s.scheduler r).lastRolled + 1
            nextKind := .engaged
            turn := some { addr := (s.scheduler r).lastRolled + 1, kind := .roll, answered := false, frames := 0 } }) ∧
      (∀ d : Nat, (s.scheduler r).nextKind = .engaged → 1 ≤ d → d ≤ 63 →
        (s.handset r ((s.scheduler r).lastServed + Fin.ofNat 63 d)).engaged ≠ none →
        (∀ e : Nat, 1 ≤ e → e < d → (s.handset r ((s.scheduler r).lastServed + Fin.ofNat 63 e)).engaged = none) →
        t.scheduler r =
          { s.scheduler r with
            lastServed := (s.scheduler r).lastServed + Fin.ofNat 63 d
            nextKind := .roll
            turn := some
              { addr := (s.scheduler r).lastServed + Fin.ofNat 63 d, kind := .engaged, answered := false,
                frames := 0 } }) ∧
      ((s.scheduler r).nextKind = .engaged → (∀ a, (s.handset r a).engaged = none) →
        t.scheduler r =
          { s.scheduler r with
            lastRolled := (s.scheduler r).lastRolled + 1
            nextKind := .roll
            turn := some { addr := (s.scheduler r).lastRolled + 1, kind := .roll, answered := false, frames := 0 } })

/-- TURN_TIMEOUT of an unanswered turn that 16 frames have granted ends it with one miss more, at most 3; TURN_LIMIT of an
answered one that 80 frames have granted ends it, abandons its message and counts a check error; before that, and where no
such turn is, neither changes anything (log 4). A third miss of a PRESENT handset makes it ABSENT and raises PARTY. If a
call engages it (R59): the origin's call clears with CALLER_HUNGUP; the answerer's clears with TARGET_HUNGUP, or passes to
its joined position; an alerted handset leaves its call without a RING_STOP while another of its riser rings on, and the last one without a
fallback ends it with ABSENT.
Beside the calls and what serves them a clearing changes nothing but queues and transmit drops. -/
def Obligations.TurnsEnd : Prop :=
  (∀ (s : State) (r : Fin 8),
    ((∀ x, s.turn r = some x → x.answered = true ∨ x.frames < 16) → exec (.turnTimeout r) s = .next s) ∧
    ((∀ x, s.turn r = some x → x.answered = false ∨ x.frames < 80) → exec (.turnLimit r) s = .next s)) ∧
  (∀ (s : State) (r : Fin 8) (x : Turn), s.turn r = some x →
    (x.answered = true → 80 ≤ x.frames →
      exec (.turnLimit r) s =
        .next { s with
                schedulers := s.schedulers.set r { s.scheduler r with turn := none }
                links := s.links.set (LinkId.riser r).index
                  { s.link (.riser r) with
                    assembly := { stage := .hunting, body := [], escape := false }
                    checkErrors := min ((s.link (.riser r)).checkErrors + 1) 65535 } }) ∧
    (x.answered = false → 16 ≤ x.frames →
      ((s.handset r x.addr).misses < 2 ∨ (s.handset r x.addr).present = false) →
      exec (.turnTimeout r) s =
        .next { (s.setHandset r x.addr
                  { s.handset r x.addr with misses := min ((s.handset r x.addr).misses + 1) 3 }) with
                schedulers := s.schedulers.set r { s.scheduler r with turn := none } }) ∧
    (x.answered = false → 16 ≤ x.frames → (s.handset r x.addr).misses = 2 → (s.handset r x.addr).present = true →
      let missed : State :=
        { (s.setHandset r x.addr { s.handset r x.addr with misses := 3, present := false }) with
          schedulers := s.schedulers.set r { s.scheduler r with turn := none }
          attention := s.attention ||| 0x02#8 }
      let me := Party.handset r x.addr
      ((s.handset r x.addr).engaged = none → (s.handset r x.addr).watch = [] → s.Room (s.notice 0x02#8) →
        ∃ t, exec (.turnTimeout r) s = .next t ∧ Sends s t (s.notice 0x02#8) ∧ t = { missed with links := t.links }) ∧
      (∀ n, s.roleOf me = some (n, .origin) → (s.call n).state ≠ .idle →
        ∃ t, exec (.turnTimeout r) s = .next t ∧ ClearedWith s t n .callerHungup ∧ KeepsToCalls missed t none ∧
          (t.handset r x.addr).present = false ∧ t.attention.getLsbD 1 = true) ∧
      (∀ n, s.roleOf me = some (n, .answerer) → (s.call n).joined = none → (s.call n).state ≠ .idle →
        ∃ t, exec (.turnTimeout r) s = .next t ∧ ClearedWith s t n .targetHungup ∧ KeepsToCalls missed t none ∧
          (t.handset r x.addr).present = false ∧ t.attention.getLsbD 1 = true) ∧
      (∀ n p st c q, s.roleOf me = some (n, .answerer) → (s.call n).joined = some q →
        (s.call n).origin = some (.station p st) → (s.call n).reservations = [(r, c)] → s.seekQueue r = [] →
        (s.handset r x.addr).watch = [] →
        s.Room ((.riser r, clearMsg (BitVec.ofNat 8 x.addr.val) .normal) :: s.notice 0x02#8) →
        ∃ t, exec (.turnTimeout r) s = .next t ∧
          Sends s t ((.riser r, clearMsg (BitVec.ofNat 8 x.addr.val) .normal) :: s.notice 0x02#8) ∧
          HandedOver missed t n r x.addr c q) ∧
      (∀ n b, s.roleOf me = some (n, .alerted) → (s.call n).state = .alerting → b ≠ x.addr →
        .handset r b ∈ (s.call n).alerted → (s.handset r x.addr).watch = [] → s.Room (s.notice 0x02#8) →
        ∃ t, exec (.turnTimeout r) s = .next t ∧ Sends s t (s.notice 0x02#8) ∧
          t = { (missed.setHandset r x.addr { missed.handset r x.addr with engaged := none }) with
                links := t.links
                calls := s.calls.set n { s.call n with alerted := (s.call n).alerted.filter (· ≠ me) } }) ∧
      (∀ n, s.roleOf me = some (n, .alerted) → (s.call n).state = .alerting → (s.call n).alerted = [me] →
        s.StandsNowhere n → ¬ (s.call n).MayForward →
        ∃ t, exec (.turnTimeout r) s = .next t ∧ ClearedWith s t n .absent ∧ KeepsToCalls missed t none ∧
          (t.handset r x.addr).present = false ∧ t.attention.getLsbD 1 = true)))

/-! ### Keys and the door contact -/

/-- KEY_DIGIT whose digits some longer code begins with: a station without a call, in RUN, creates an ENTRANCE call in the
lowest IDLE record, and a DIALLING call takes the digit; either waits in DIALLING with its digit timer loaded, nothing is
sent, and nothing else changes. A digit that makes the digits of a DIALLING call begin no code and equal none clears the
call with UNKNOWN and frees its station. A station without a call that can have none is told CLOSED in STANDBY and
DRAINING, and BUSY in RUN, with CONGESTION raised (R3).
A delivery is taken as log 1 and log 23 say. Beside the calls and what serves them a clearing changes nothing but queues
and transmit drops. -/
def Obligations.KeyDigitIsTaken : Prop :=
  (∀ (s : State) (p : Fin 4) (st : Fin 2) (d : Fin 10) (n : CallNo) (ds : Code) (e : Entry),
     s.deliverable (.panel p) (keyMsg (BitVec.ofNat 8 st.val) (BitVec.ofNat 8 d.val)) = true →
     s.stationExists p (BitVec.ofNat 8 st.val) = true → ds.length < 6 → e ∈ s.directory → ds <+: e.code →
     ds ≠ e.code →
     (s.station p st = none → s.mode = .run → s.FirstIdle n → ds = [d.val] →
       ∃ t, exec (.keyDigit p (BitVec.ofNat 8 st.val) d) s = .next t ∧
         DeliversAndSends s t (.panel p) (keyMsg (BitVec.ofNat 8 st.val) (BitVec.ofNat 8 d.val)) [] ∧
         t = { (s.setStation p st (some n)) with
               links := t.links
               calls := s.calls.set n
                 { CallRecord.blank with
                   state := .dialling
                   kind := some .entrance
                   origin := some (.station p st)
                   digits := ds
                   stateCount := some ⟨.digit, s.params.digitTime * 800⟩ } }) ∧
     (s.station p st = some n → (s.call n).state = .dialling → ds = (s.call n).digits ++ [d.val] →
       ∃ t, exec (.keyDigit p (BitVec.ofNat 8 st.val) d) s = .next t ∧
         DeliversAndSends s t (.panel p) (keyMsg (BitVec.ofNat 8 st.val) (BitVec.ofNat 8 d.val)) [] ∧
         t = { s with
               links := t.links
               calls := s.calls.set n
                 { s.call n with digits := ds, stateCount := some ⟨.digit, s.params.digitTime * 800⟩ } })) ∧
  (∀ (s : State) (p : Fin 4) (st : Fin 2) (d : Fin 10) (n : CallNo),
     s.deliverable (.panel p) (keyMsg (BitVec.ofNat 8 st.val) (BitVec.ofNat 8 d.val)) = true →
     s.stationExists p (BitVec.ofNat 8 st.val) = true → s.station p st = some n → (s.call n).state = .dialling →
     (s.call n).origin = some (.station p st) → (∀ e ∈ s.directory, ¬ ((s.call n).digits ++ [d.val]) <+: e.code) →
     ∃ t, exec (.keyDigit p (BitVec.ofNat 8 st.val) d) s = .next t ∧ ClearedWith s t n .unknown ∧
       t.station p st = none ∧ KeepsToCalls s t none ∧
       ClearsAlone s t n .unknown
         (s.taking (.panel p) (keyMsg (BitVec.ofNat 8 st.val) (BitVec.ofNat 8 d.val))) []) ∧
  (∀ (s : State) (p : Fin 4) (st : Fin 2) (d : Fin 10),
     s.deliverable (.panel p) (keyMsg (BitVec.ofNat 8 st.val) (BitVec.ofNat 8 d.val)) = true →
     s.stationExists p (BitVec.ofNat 8 st.val) = true → s.station p st = none →
     CreatesNoCall (.keyDigit p (BitVec.ofNat 8 st.val) d) s (.panel p)
       (keyMsg (BitVec.ofNat 8 st.val) (BitVec.ofNat 8 d.val)) (.panel p, progressMsg (BitVec.ofNat 8 st.val) .closed)
       (.panel p, progressMsg (BitVec.ofNat 8 st.val) .busy))

/-- KEY_CALL and DIGIT_TIMER_EXPIRY on a DIALLING call, and KEY_DIGIT whose digit no longer code goes on from, of a DIALLING
call or of a station without a call, which creates one: the digits are put to the directory. Of a FLAT entry open to the panel
the copy is taken and the target check runs (R8, R10 to R14, R74): the call rings every eligible handset of the risers where
it finds a FREE channel and tells its station RINGBACK, or seeks, or camps, its station told WAIT, or takes its outcome. Of a
DESK entry open to the panel the copy is taken and the call hunts. An entry not open to the panel, or of kind BARRED: the call
clears with BARRED (R8). An ACCESS entry (R9): with no uses left the station is told DENIED and the call clears with
ACCESS_DENIED; else a LOCKED door is released by code, the uses count falls by one unless it is 255, the journal takes the
record, the station is told OPENED and the call clears with ACCESS_DONE; a door RELEASED or OPEN already brings OPENED and
ACCESS_DONE alone; that the release starts on a link UP again while its LOST marker waits is log 30. Digits that are no
entry's code: the call clears with UNKNOWN. The expiry comes when its count has run out, and changes nothing before (log 4).
A delivery is taken as log 1 and log 23 say. -/
def Obligations.ExactCodeRingsTheFlat : Prop :=
  ∀ (s : State) (p : Fin 4) (st : Fin 2) (n : CallNo),
    let addr := BitVec.ofNat 8 st.val
    let keyed : Instr → Message → Prop := fun i m =>
      s.stationExists p addr = true ∧ s.deliverable (.panel p) m = true ∧ i.delivery = some (.panel p, m)
    let last : Code → Prop := fun ds => ∀ e ∈ s.directory, ds <+: e.code → e.code = ds
    ((s.call n).state = .dialling → (s.call n).origin = some (.station p st) →
      (∀ (i : Instr) (m : Message), keyed i m → s.station p st = some n →
        (i = .keyCall p addr → ResolvesCode i s s n p st (s.taking (.panel p) m) (s.call n).digits) ∧
        ∀ d : Fin 10,
          let ds := (s.call n).digits ++ [d.val]
          i = .keyDigit p addr d → last ds →
          ResolvesCode i s (s.setCall n { s.call n with digits := ds }) n p st (s.taking (.panel p) m) ds) ∧
      ((s.call n).stateCount = some ⟨.digit, 0⟩ →
        ResolvesCode (.digitTimerExpiry n) s s n p st s.link (s.call n).digits) ∧
      (∀ f, (s.call n).stateCount = some ⟨.digit, f⟩ → f ≠ 0 → exec (.digitTimerExpiry n) s = .next s)) ∧
    (∀ (m : Message) (d : Fin 10), keyed (.keyDigit p addr d) m → s.station p st = none → s.mode = .run →
      s.FirstIdle n → last [d.val] →
      ResolvesCode (.keyDigit p addr d) s
        ((s.setStation p st (some n)).setCall n
          { CallRecord.blank with
            state := .dialling, kind := some .entrance, origin := some (.station p st), digits := [d.val] })
        n p st (s.taking (.panel p) m) [d.val])

/-- KEY_DESK from a station without a call and CALL_DESK from a free PRESENT handset, in RUN, create a call in the lowest IDLE
record; KEY_DESK of a DIALLING call empties its digits and takes the same copy. The call hunts (R15): it engages and rings
the position at the head of the desk idle order, with its desk ring and desk wait timers loaded and its station told
RINGBACK; with no position idle it is QUEUED at the tail of the desk queue, its station told WAIT; with none logged on it
clears with NO_DESK. The RESIDENT call holds the lowest FREE channel of its riser and its handset is sent REPLY ACCEPTED
first; with no FREE channel it seeks at the tail of its riser's queue, and nothing is sent (R21, R76). Where no call can be
created (R3), the station is told CLOSED, or BUSY with CONGESTION raised, and the handset is sent REPLY REFUSED, in RUN
with CONGESTION raised; a handset that a call engages is sent REPLY REFUSED.
A delivery is taken as log 1 and log 23 say. -/
def Obligations.DeskCallsRingTheHead : Prop :=
  (∀ (s : State) (n : CallNo), s.mode = .run → s.FirstIdle n →
    (∀ (p : Fin 4) (st : Fin 2), s.station p st = none → s.stationExists p (BitVec.ofNat 8 st.val) = true →
      s.deliverable (.panel p) (keyMsg (BitVec.ofNat 8 st.val) 0x0C#8) = true →
      HuntsDesk (.keyDesk p (BitVec.ofNat 8 st.val)) s
        ((s.setStation p st (some n)).setCall n
          { CallRecord.blank with
            state := .queued
            kind := some .entrance
            origin := some (.station p st)
            resolved := some ⟨.desk, false, false, false, 0, []⟩ })
        n (s.taking (.panel p) (keyMsg (BitVec.ofNat 8 st.val) 0x0C#8)) [] []) ∧
    (∀ (r : Fin 8) (a : Fin 63), (s.handset r a).present = true → (s.handset r a).engaged = none →
      s.deliverable (.riser r) (bareMsg (BitVec.ofNat 8 a.val) 0x15#8) = true →
      let created : CallRecord :=
        { CallRecord.blank with
          state := .seeking
          kind := some .resident
          origin := some (.handset r a)
          resolved := some ⟨.desk, false, false, true, 0, []⟩ }
      let engaged := s.setHandset r a { s.handset r a with misses := 0, engaged := some n }
      let base := s.taking (.riser r) (bareMsg (BitVec.ofNat 8 a.val) 0x15#8)
      (∀ c, s.FirstFree r c →
        HuntsDesk (.callDesk r a) s
          ((engaged.setChannel r c (some n)).setCall n { created with reservations := [(r, c)] })
          n base [(.riser r, replyMsg (BitVec.ofNat 8 a.val) .accepted)] []) ∧
      ((∀ c, s.channel r c ≠ none) →
        Answers (.callDesk r a) s
          { (engaged.setSeekQueue r (s.seekQueue r ++ [n])) with
            calls := s.calls.set n { created with waitCount := some ⟨.seek, s.params.seekTime * 8000, false⟩ } }
          base []))) ∧
  (∀ (s : State) (n : CallNo) (p : Fin 4) (st : Fin 2), (s.call n).state = .dialling → s.station p st = some n →
    (s.call n).origin = some (.station p st) → (s.call n).waitCount = none →
    s.stationExists p (BitVec.ofNat 8 st.val) = true →
    s.deliverable (.panel p) (keyMsg (BitVec.ofNat 8 st.val) 0x0C#8) = true →
    HuntsDesk (.keyDesk p (BitVec.ofNat 8 st.val)) s
      (s.setCall n
        { s.call n with
          digits := [], resolved := some ⟨.desk, false, false, false, 0, []⟩, stateCount := none })
      n (s.taking (.panel p) (keyMsg (BitVec.ofNat 8 st.val) 0x0C#8)) [] []) ∧
  (∀ (s : State) (p : Fin 4) (st : Fin 2), s.station p st = none → s.stationExists p (BitVec.ofNat 8 st.val) = true →
    s.deliverable (.panel p) (keyMsg (BitVec.ofNat 8 st.val) 0x0C#8) = true →
    CreatesNoCall (.keyDesk p (BitVec.ofNat 8 st.val)) s (.panel p) (keyMsg (BitVec.ofNat 8 st.val) 0x0C#8)
      (.panel p, progressMsg (BitVec.ofNat 8 st.val) .closed) (.panel p, progressMsg (BitVec.ofNat 8 st.val) .busy)) ∧
  (∀ (s : State) (r : Fin 8) (a : Fin 63), s.Heard (.handset r a) →
    s.deliverable (.riser r) (bareMsg (BitVec.ofNat 8 a.val) 0x15#8) = true →
    let refused := (LinkId.riser r, replyMsg (BitVec.ofNat 8 a.val) .refused)
    ((s.handset r a).engaged = none →
      CreatesNoCall (.callDesk r a) s (.riser r) (bareMsg (BitVec.ofNat 8 a.val) 0x15#8) refused refused) ∧
    ((s.handset r a).engaged ≠ none → s.Room [refused] →
      ∃ t, exec (.callDesk r a) s = .next t ∧
        DeliversAndSends s t (.riser r) (bareMsg (BitVec.ofNat 8 a.val) 0x15#8) [refused] ∧
        t = { s with links := t.links }))

/-- DOOR_OPEN from a station that exists: a RELEASED door opens without a class, a LOCKED one opens and raises DOOR, each
with the held-open timer loaded from HELD_LIMIT unless that is 0; an OPEN one stays as it is. HELD_OPEN_EXPIRY with the
door OPEN and its timer run out raises DOOR, stops the timer and leaves the door OPEN; before that it changes nothing
(log 4).
A delivery is taken as log 1 and log 23 say. -/
def Obligations.DoorOpenAndHeldOpenExpiry : Prop :=
  (∀ (s : State) (p : Fin 4) (st : Fin 2), s.stationExists p (BitVec.ofNat 8 st.val) = true →
     s.deliverable (.panel p) (doorMsg (BitVec.ofNat 8 st.val) true) = true →
     let opened : Door := { state := .opened, releaseTimer := none,
                            heldOpenTimer := if s.params.heldLimit = 0 then none else some (s.params.heldLimit * 8000) }
     ((s.door p).state = .released →
       ∃ t, exec (.doorOpen p (BitVec.ofNat 8 st.val)) s = .next t ∧
         DeliversAndSends s t (.panel p) (doorMsg (BitVec.ofNat 8 st.val) true) [] ∧
         t = { s with links := t.links, doors := s.doors.set p opened }) ∧
     ((s.door p).state = .locked → s.Room (s.notice 0x08#8) →
       ∃ t, exec (.doorOpen p (BitVec.ofNat 8 st.val)) s = .next t ∧
         DeliversAndSends s t (.panel p) (doorMsg (BitVec.ofNat 8 st.val) true) (s.notice 0x08#8) ∧
         t = { s with links := t.links, doors := s.doors.set p opened, attention := s.attention ||| 0x08#8 }) ∧
     ((s.door p).state = .opened →
       ∃ t, exec (.doorOpen p (BitVec.ofNat 8 st.val)) s = .next t ∧
         DeliversAndSends s t (.panel p) (doorMsg (BitVec.ofNat 8 st.val) true) [] ∧ t = { s with links := t.links })) ∧
  (∀ (s : State) (p : Fin 4),
     ((s.door p).state = .opened → (s.door p).heldOpenTimer = some 0 → s.Room (s.notice 0x08#8) →
       ∃ t, exec (.heldOpenExpiry p) s = .next t ∧ Sends s t (s.notice 0x08#8) ∧
         t = { s with links := t.links, attention := s.attention ||| 0x08#8
                      doors := s.doors.set p { s.door p with heldOpenTimer := none } }) ∧
     ((s.door p).state ≠ .opened ∨ (s.door p).heldOpenTimer ≠ some 0 → exec (.heldOpenExpiry p) s = .next s))

/-- DOOR_SHUT from a station that exists (R130): an OPEN or a RELEASED door becomes LOCKED with its timers stopped, a
LOCKED one stays as it is, and no class is raised. -/
def Obligations.DoorShutLocksTheDoor : Prop :=
  ∀ (s : State) (p : Fin 4) (st : Fin 2), s.stationExists p (BitVec.ofNat 8 st.val) = true →
    (s.link (.panel p)).rx.head? = some (.message (doorMsg (BitVec.ofNat 8 st.val) false)) →
    ∃ t, exec (.doorShut p (BitVec.ofNat 8 st.val)) s = .next t ∧
      DeliversAndSends s t (.panel p) (doorMsg (BitVec.ofNat 8 st.val) false) [] ∧
      ((s.door p).state = .opened ∨ (s.door p).state = .released →
        t = { s with links := t.links
                     doors := s.doors.set p { state := .locked, releaseTimer := none, heldOpenTimer := none } }) ∧
      ((s.door p).state = .locked → t = { s with links := t.links })

/-- The release timer and the reports of the door contact (R131): the expiry locks a RELEASED door whose timer has run out,
sends nothing, raises nothing and leaves the journal, and changes nothing before that (log 4); with a DOOR OPEN in the
queue, either order ends OPEN, with DOOR raised only when the expiry came first; with a DOOR SHUT, either order ends LOCKED.
A delivery is taken as log 1 and log 23 say. -/
def Obligations.ReleaseTimerExpiryLocksTheDoor : Prop :=
  ∀ (s : State) (p : Fin 4) (st : Fin 2),
    ((s.door p).state ≠ .released ∨ (s.door p).releaseTimer ≠ some 0 → exec (.releaseTimerExpiry p) s = .next s) ∧
    ((s.door p).state = .released → (s.door p).releaseTimer = some 0 →
      exec (.releaseTimerExpiry p) s =
        .next { s with doors := s.doors.set p { state := .locked, releaseTimer := none, heldOpenTimer := none } } ∧
      (s.stationExists p (BitVec.ofNat 8 st.val) = true →
        (s.deliverable (.panel p) (doorMsg (BitVec.ofNat 8 st.val) true) = true →
          ∃ t u v w, exec (.doorOpen p (BitVec.ofNat 8 st.val)) s = .next t ∧ exec (.releaseTimerExpiry p) t = .next u ∧
            exec (.releaseTimerExpiry p) s = .next v ∧ exec (.doorOpen p (BitVec.ofNat 8 st.val)) v = .next w ∧
            u = t ∧ (u.door p).state = .opened ∧ u.attention = s.attention ∧ (w.door p).state = .opened ∧
            w.attention.getLsbD 3 = true) ∧
        (s.deliverable (.panel p) (doorMsg (BitVec.ofNat 8 st.val) false) = true →
          ∃ t u v w, exec (.doorShut p (BitVec.ofNat 8 st.val)) s = .next t ∧ exec (.releaseTimerExpiry p) t = .next u ∧
            exec (.releaseTimerExpiry p) s = .next v ∧ exec (.doorShut p (BitVec.ofNat 8 st.val)) v = .next w ∧
            (u.door p).state = .locked ∧ (w.door p).state = .locked)))

/-! ### Handsets and positions -/

/-- HELLO writes the handset's quiet flag, returns its misses to 0, makes an ABSENT handset PRESENT with PARTY raised, and
sends what Table 3-2 asks: CLEAR(NORMAL) to a handset that reports RINGING or TALKING and is in no call, RING again to an
alerted one that reports IDLE, CONNECT again to one in TALKING that reports RINGING, and otherwise nothing. An IDLE report
of an origin clears its call with CALLER_HUNGUP and one of the answerer of a call nobody has joined with TARGET_HUNGUP; one
of the answerer of a joined call hands the call to the joined position (R24).
A delivery is taken as log 1 and log 23 say. Beside the calls and what serves them a clearing changes nothing but queues
and transmit drops. -/
def Obligations.HelloReconciles : Prop :=
  ∀ (s : State) (r : Fin 8) (a : Fin 63) (report : HandsetReport) (quiet : Bool),
    let m : Message := ⟨BitVec.ofNat 8 a.val, 0x11#8, [report.code, flagOctet quiet]⟩
    s.deliverable (.riser r) m = true →
    let news := if (s.handset r a).present then [] else s.notice 0x02#8
    let noted : State :=
      { (s.setHandset r a { s.handset r a with quiet := quiet, misses := 0, present := true }) with
        attention := if (s.handset r a).present then s.attention else s.attention ||| 0x02#8 }
    (∀ out : List (LinkId × Message),
      (match report, s.roleOf (.handset r a) with
      | .idle, none => out = []
      | .idle, some (n, .alerted) =>
        out = [(.riser r, ringHandsetMsg (BitVec.ofNat 8 a.val) (s.call n).ringEntrance
                  (BitVec.ofNat 8 ((s.call n).cadence s.params).val))]
      | .idle, some (_, _) => False
      | _, none => out = [(.riser r, clearMsg (BitVec.ofNat 8 a.val) .normal)]
      | _, some (_, .alerted) => out = []
      | .ringing, some (n, .answerer) =>
        ∃ c, (s.call n).channelOn r = some c ∧ out = [(.riser r, connectMsg (BitVec.ofNat 8 a.val) c.val)]
      | .ringing, some (n, .origin) =>
        ((s.call n).state = .talking ∧
          ∃ c, (s.call n).channelOn r = some c ∧ out = [(.riser r, connectMsg (BitVec.ofNat 8 a.val) c.val)]) ∨
        ((s.call n).state ≠ .talking ∧ out = [])
      | .ringing, some (_, .joined) => False
      | .talking, some (_, _) => out = []) →
      s.Room (out ++ news) →
      ∃ t, exec (.hello r a report quiet) s = .next t ∧ DeliversAndSends s t (.riser r) m (out ++ news) ∧
        t = { noted with links := t.links }) ∧
    (∀ n cause, report = .idle → (s.call n).state ≠ .idle →
      ((s.roleOf (.handset r a) = some (n, .origin) ∧ cause = .callerHungup) ∨
        (s.roleOf (.handset r a) = some (n, .answerer) ∧ (s.call n).joined = none ∧ cause = .targetHungup)) →
      ∃ t, exec (.hello r a report quiet) s = .next t ∧ ClearedWith s t n cause ∧
        KeepsToCalls s t (some (.handset r a)) ∧ (t.handset r a).quiet = quiet ∧ (t.handset r a).misses = 0 ∧
        (t.handset r a).present = true ∧ ((s.handset r a).present = false → t.attention.getLsbD 1 = true) ∧
        ClearsAlone noted t n cause (s.taking (.riser r) m) news) ∧
    (∀ n p st c q, report = .idle → s.roleOf (.handset r a) = some (n, .answerer) → (s.call n).joined = some q →
      (s.call n).origin = some (.station p st) → (s.call n).reservations = [(r, c)] → s.seekQueue r = [] →
      (s.handset r a).watch = [] → s.Room ((.riser r, clearMsg (BitVec.ofNat 8 a.val) .normal) :: news) →
      ∃ t, exec (.hello r a report quiet) s = .next t ∧
        DeliversAndSends s t (.riser r) m ((.riser r, clearMsg (BitVec.ofNat 8 a.val) .normal) :: news) ∧
        HandedOver noted t n r a c q)

/-- ANSWER of an alerted member connects the call: it is sent CONNECT with its channel, the counts stop, the talk count
starts at TALK_LIMIT minutes, and the crosspoint starts a fresh voice state with the last good octets of the two channels
at 0x00. The station of an ENTRANCE call is told TALK (by its one handset, its position, or the first of several members);
the handset of a RESIDENT call and the position of a DESK-kind call are sent CONNECT with their own channel. Of several
members every other is sent RING_STOP(ANSWERED_ELSEWHERE) and disengaged, and every channel but the answerer's is FREE,
where no call waits; that each is stopped and disengaged in turn is the model's choice (log 28). Where one other member rang
on a riser of its own, that riser's channel goes at once to the head of its seek queue, which rings its flat, and the member
disengaged wakes the head of its watch list, which takes the lowest FREE channel (R68, R77).
A delivery is taken as log 1 and log 23 say. -/
def Obligations.AnswerConnectsTheCall : Prop :=
  ∀ (s : State) (n : CallNo), (s.call n).state = .alerting → (s.call n).joined = none →
    let talking : Party → VoiceMode → CallRecord := fun x mode =>
      { s.call n with
        state := .talking
        answerer := some x
        alerted := []
        stateCount := none
        waitCount := none
        talk := some ⟨(s.params.talkLimit * 60 : Nat), 8000⟩
        graceBound := none
        voice := some { mode := mode, originMeter := 0, answererMeter := 0, joinedMeter := none,
                        direction := .neutral, hang := 0 }
        lastPeriod := none }
    let flatMode : VoiceMode := if (s.call n).resolved.map (·.duplex) = some true then .duplex else .switched
    let silent : LinkId → Nat → LinkId → LinkUnit → LinkUnit := fun l i k u =>
      if k = l then { u with lastGood := u.lastGood.set i 0x00#8 } else u
    let linked : State → LinkId → Message → LinkId × Nat → LinkId × Nat → List (LinkId × Message) → Prop :=
      fun t l m x y out => ∀ k, t.link k =
        (silent x.1 x.2 k (silent y.1 y.2 k (s.taking l m k))).withTx (outFor k out)
    (∀ (p : Fin 4) (st : Fin 2) (r : Fin 8) (a : Fin 63) (c : Fin 4), (s.call n).origin = some (.station p st) →
      (s.call n).lastProgress ≠ some .talk → (s.handset r a).engaged = some n → s.Heard (.handset r a) →
      s.deliverable (.riser r) (bareMsg (BitVec.ofNat 8 a.val) 0x12#8) = true →
      let m := bareMsg (BitVec.ofNat 8 a.val) 0x12#8
      let connect := (LinkId.riser r, connectMsg (BitVec.ofNat 8 a.val) c.val)
      let talk := (LinkId.panel p, progressMsg (BitVec.ofNat 8 st.val) .talk)
      let told : CallRecord := { talking (.handset r a) flatMode with lastProgress := some .talk }
      ((s.call n).alerted = [.handset r a] → (s.call n).reservations = [(r, c)] → s.Room [connect, talk] →
        ∃ t, exec (.answer (.handset r a)) s = .next t ∧ t = { s with links := t.links, calls := s.calls.set n told } ∧
          linked t (.riser r) m (.panel p, st.val) (.riser r, c.val) [connect, talk]) ∧
      (let others := (s.call n).alerted.filter (· ≠ .handset r a)
       let spare := (s.call n).reservations.filter (fun y => y.1 ≠ r)
       let out := [connect] ++ others.map (fun x => (x.link, ringStopMsg x.addr .answeredElsewhere)) ++ [talk]
       .handset r a ∈ (s.call n).alerted → (∀ x ∈ others, ∃ r' a', x = .handset r' a') →
       (s.call n).reservations.Nodup → (s.call n).channelOn r = some c → s.WaitsAlone n → s.StandsNowhere n →
       s.Room out →
        ∃ t, exec (.answer (.handset r a)) s = .next t ∧
          t = { s with
                links := t.links
                handsets := t.handsets
                channels := t.channels
                calls := s.calls.set n
                  { told with reservations := (s.call n).reservations.filter (fun y => y.1 = r) } } ∧
          (∀ r' c', t.channel r' c' = if (r', c') ∈ spare then none else s.channel r' c') ∧
          (∀ r' a', t.handset r' a' =
            { s.handset r' a' with
              engaged := if .handset r' a' ∈ others ∧ (s.handset r' a').engaged = some n then none
                         else (s.handset r' a').engaged }) ∧
          linked t (.riser r) m (.panel p, st.val) (.riser r, c.val) out) ∧
      (∀ (r' : Fin 8) (b d : Fin 63) (c' : Fin 4) (w : CallNo) (rest : List CallNo) (x : Resolved), r' ≠ r → w ≠ n →
        ((s.call n).alerted = [.handset r a, .handset r' b] ∨ (s.call n).alerted = [.handset r' b, .handset r a]) →
        (s.call n).reservations = [(r, c), (r', c')] → (s.handset r' b).engaged = some n → s.StandsNowhere n →
        (s.call w).resolved = some x → x.targets = .flat [(r', d)] → (s.call w).alerted = [] →
        (s.call w).reservations = [] → (s.handset r' d).present = true → (s.handset r' d).quiet = false →
        let stop := (LinkId.riser r', ringStopMsg (BitVec.ofNat 8 b.val) .answeredElsewhere)
        let rings := (s.call w).ringingOut s.params [(r', d)]
        let rung : Fin 4 → CallRecord := fun ch => (s.call w).ringing s.params x.alertTime [(r', d)] [(r', ch)]
        let calls := s.calls.set n { told with reservations := [(r, c)] }
        let is : State → List (LinkId × Message) → Prop := fun u out =>
          s.Room out →
          ∃ t, exec (.answer (.handset r a)) s = .next t ∧ t = { u with links := t.links } ∧
            linked t (.riser r) m (.panel p, st.val) (.riser r, c.val) out
        ((s.call w).state = .seeking → (s.call w).kind ≠ some .resident → s.seekQueue r' = w :: rest →
          (s.handset r' d).engaged = none → (s.handset r' b).watch = [] →
          is { (((s.setHandset r' b { s.handset r' b with engaged := none }).setHandset r' d
                  { s.handset r' d with engaged := some w }).setChannel r' c' (some w)) with
               seekQueues := s.seekQueues.set r' rest, calls := calls.set w (rung c') }
             ([connect] ++ rings ++ [stop, talk])) ∧
        (∀ ch, (s.call w).state = .camped → d = b → (s.handset r' b).watch = w :: rest → s.seekQueue r' = [] →
          (s.setChannel r' c' none).FirstFree r' ch →
          is { (((s.setHandset r' b { s.handset r' b with engaged := some w, watch := rest }).setChannel r' c'
                  none).setChannel r' ch (some w)) with
               calls := calls.set w (rung ch) }
             ([connect, stop] ++ rings ++ [talk])))) ∧
    (∀ (q : Fin 6), (s.position q).engaged = some n → (s.call n).alerted = [.position q] →
      s.deliverable .trunk (bareMsg (BitVec.ofNat 8 q.val) 0x12#8) = true →
      let m := bareMsg (BitVec.ofNat 8 q.val) 0x12#8
      let connect := (LinkId.trunk, connectMsg (BitVec.ofNat 8 q.val) q.val)
      (∀ (p : Fin 4) (st : Fin 2), (s.call n).origin = some (.station p st) → (s.call n).lastProgress ≠ some .talk →
        let out := [connect, (LinkId.panel p, progressMsg (BitVec.ofNat 8 st.val) .talk)]
        s.Room out →
        ∃ t, exec (.answer (.position (BitVec.ofNat 8 q.val))) s = .next t ∧
          t = { s with
                links := t.links
                calls := s.calls.set n { talking (.position q) .switched with lastProgress := some .talk } } ∧
          linked t .trunk m (.panel p, st.val) (.trunk, q.val) out) ∧
      (∀ (r : Fin 8) (a : Fin 63) (c : Fin 4), (s.call n).origin = some (.handset r a) →
        (s.call n).channelOn r = some c →
        let out := [connect, (LinkId.riser r, connectMsg (BitVec.ofNat 8 a.val) c.val)]
        s.Room out →
        ∃ t, exec (.answer (.position (BitVec.ofNat 8 q.val))) s = .next t ∧
          t = { s with links := t.links, calls := s.calls.set n (talking (.position q) .duplex) } ∧
          linked t .trunk m (.riser r, c.val) (.trunk, q.val) out)) ∧
    (∀ (r : Fin 8) (a : Fin 63) (c : Fin 4) (q : Fin 6), (s.call n).origin = some (.position q) →
      (s.handset r a).engaged = some n → s.Heard (.handset r a) → (s.call n).alerted = [.handset r a] →
      (s.call n).reservations = [(r, c)] →
      s.deliverable (.riser r) (bareMsg (BitVec.ofNat 8 a.val) 0x12#8) = true →
      let out := [(LinkId.riser r, connectMsg (BitVec.ofNat 8 a.val) c.val),
                  (LinkId.trunk, connectMsg (BitVec.ofNat 8 q.val) q.val)]
      s.Room out →
      ∃ t, exec (.answer (.handset r a)) s = .next t ∧
        t = { s with links := t.links, calls := s.calls.set n (talking (.handset r a) .duplex) } ∧
        linked t (.riser r) (bareMsg (BitVec.ofNat 8 a.val) 0x12#8) (.trunk, q.val) (.riser r, c.val) out)

/-- ANSWER of a party that is no alerted member of a call in ALERTING is answered with CLEAR(NORMAL), and no call changes.
QUIET writes the quiet flag of a handset, PRESENT with no misses, and is answered with REPLY ACCEPTED whatever its
engagement. EXTEND of the answerer of a call in TALKING loads the talk count afresh once and clears the grace bound,
answered with REPLY ACCEPTED; every other EXTEND is answered with REPLY REFUSED and changes nothing. HANGUP of an alerted
handset declines (R20): it is sent RING_STOP(DECLINED), is disengaged and leaves the alerted list; its riser's channel is
FREE again when no other member of the call rings there; the last one without a fallback ends the call with DECLINED.
The handset so disengaged wakes the head of its watch list, which takes the lowest FREE channel and rings it, and the channel
handed back goes to the head of its riser's seek queue, which rings its flat (R68, R77).
A delivery is taken as log 1 and log 23 say. Beside the calls and what serves them a clearing changes nothing but queues
and transmit drops. -/
def Obligations.TalkerRequestsAreAnswered : Prop :=
  (∀ (s : State) (y : Talker) (x : Party), y.party = some x → s.Heard y → wellFormed (.answer y) = true →
     (∀ n, s.roleOf x = some (n, .alerted) → (s.call n).state ≠ .alerting) →
     s.deliverable y.link (bareMsg y.addr 0x12#8) = true → s.Room [(x.link, clearMsg x.addr .normal)] →
     ∃ t, exec (.answer y) s = .next t ∧
       DeliversAndSends s t y.link (bareMsg y.addr 0x12#8) [(x.link, clearMsg x.addr .normal)] ∧
       t = { s with links := t.links }) ∧
  (∀ (s : State) (r : Fin 8) (a : Fin 63) (on : Bool), s.Heard (.handset r a) →
     s.deliverable (.riser r) ⟨BitVec.ofNat 8 a.val, 0x16#8, [flagOctet on]⟩ = true →
     s.Room [(.riser r, replyMsg (BitVec.ofNat 8 a.val) .accepted)] →
     ∃ t, exec (.quiet r a on) s = .next t ∧
       DeliversAndSends s t (.riser r) ⟨BitVec.ofNat 8 a.val, 0x16#8, [flagOctet on]⟩
         [(.riser r, replyMsg (BitVec.ofNat 8 a.val) .accepted)] ∧
       t = { (s.setHandset r a { s.handset r a with quiet := on }) with links := t.links }) ∧
  (∀ (s : State) (y : Talker) (x : Party), y.party = some x → s.Heard y → wellFormed (.extend y) = true →
     s.deliverable y.link (bareMsg y.addr 0x17#8) = true →
     (∀ n, s.roleOf x = some (n, .answerer) → (s.call n).state = .talking → (s.call n).extended = false →
       s.Room [(x.link, replyMsg x.addr .accepted)] →
       ∃ t, exec (.extend y) s = .next t ∧
         DeliversAndSends s t y.link (bareMsg y.addr 0x17#8) [(x.link, replyMsg x.addr .accepted)] ∧
         t = { s with
               links := t.links
               calls := s.calls.set n
                 { s.call n with
                   talk := some ⟨(s.params.talkLimit * 60 : Nat), 8000⟩
                   extended := true
                   graceBound := none } }) ∧
     ((∀ n, s.roleOf x = some (n, .answerer) → (s.call n).state ≠ .talking ∨ (s.call n).extended = true) →
       s.Room [(x.link, replyMsg x.addr .refused)] →
       ∃ t, exec (.extend y) s = .next t ∧
         DeliversAndSends s t y.link (bareMsg y.addr 0x17#8) [(x.link, replyMsg x.addr .refused)] ∧
         t = { s with links := t.links })) ∧
  (∀ (s : State) (r : Fin 8) (a : Fin 63) (n : CallNo), s.Heard (.handset r a) →
     s.roleOf (.handset r a) = some (n, .alerted) → (s.call n).state = .alerting →
     s.deliverable (.riser r) (bareMsg (BitVec.ofNat 8 a.val) 0x13#8) = true →
     let stop := (LinkId.riser r, ringStopMsg (BitVec.ofNat 8 a.val) .declined)
     let left := (s.call n).alerted.filter (· ≠ .handset r a)
     let freed := s.setHandset r a { s.handset r a with engaged := none }
     ((s.handset r a).watch = [] → s.Room [stop] →
       ((∃ b, .handset r b ∈ left) →
         ∃ t, exec (.hangup (.handset r a)) s = .next t ∧
           DeliversAndSends s t (.riser r) (bareMsg (BitVec.ofNat 8 a.val) 0x13#8) [stop] ∧
           t = { freed with links := t.links, calls := s.calls.set n { s.call n with alerted := left } }) ∧
       (∀ c, left ≠ [] → (∀ b, .handset r b ∉ left) → (s.call n).channelOn r = some c → s.seekQueue r = [] →
         ∃ t, exec (.hangup (.handset r a)) s = .next t ∧
           DeliversAndSends s t (.riser r) (bareMsg (BitVec.ofNat 8 a.val) 0x13#8) [stop] ∧
           t = { (freed.setChannel r c none) with
                 links := t.links
                 calls := s.calls.set n
                   { s.call n with alerted := left, reservations := (s.call n).reservations.erase (r, c) } })) ∧
     (∀ (b : Fin 63) (c : Fin 4) (w : CallNo) (rest : List CallNo) (x : Resolved), w ≠ n →
       (s.call w).resolved = some x → x.targets = .flat [(r, b)] → (s.call w).alerted = [] →
       (s.call w).reservations = [] → (s.handset r b).present = true → (s.handset r b).quiet = false →
       let base := s.taking (.riser r) (bareMsg (BitVec.ofNat 8 a.val) 0x13#8)
       let out := stop :: (s.call w).ringingOut s.params [(r, b)]
       let rung := (s.call w).ringing s.params x.alertTime [(r, b)] [(r, c)]
       ((∃ d, .handset r d ∈ left) → b = a → (s.handset r a).watch = w :: rest → (s.call w).state = .camped →
         s.FirstFree r c →
         Answers (.hangup (.handset r a)) s
           { ((s.setHandset r a { s.handset r a with engaged := some w, watch := rest }).setChannel r c (some w)) with
             calls := (s.calls.set n { s.call n with alerted := left }).set w rung }
           base out) ∧
       (left ≠ [] → (∀ d, .handset r d ∉ left) → (s.call n).channelOn r = some c → (s.handset r a).watch = [] →
         s.seekQueue r = w :: rest → (s.call w).state = .seeking → (s.call w).kind ≠ some .resident →
         (s.handset r b).engaged = none →
         Answers (.hangup (.handset r a)) s
           { ((freed.setHandset r b { s.handset r b with engaged := some w }).setChannel r c (some w)) with
             seekQueues := s.seekQueues.set r rest
             calls :=
               (s.calls.set n
                 { s.call n with alerted := left, reservations := (s.call n).reservations.erase (r, c) }).set w rung }
           base out)) ∧
     (left = [] → s.StandsNowhere n → ¬ (s.call n).MayForward →
       let out := s.reached (stop :: CallRecord.clearingOut { s.call n with alerted := [] } .declined)
       ∃ t, exec (.hangup (.handset r a)) s = .next t ∧ ClearedWith s t n .declined ∧ KeepsToCalls s t none ∧
         (s.WaitsAlone n → s.Room out →
           GivenUp s t n .declined ∧ t.attention = s.attention ∧
             DeliversAndSends s t (.riser r) (bareMsg (BitVec.ofNat 8 a.val) 0x13#8) out)))

/-- The commands that clear a call: KEY_CANCEL of its station, HANGUP of its origin or of the answerer of a call nobody
has joined, TIME_LIMIT with the grace bound fixed once the count has reached its negative (before that it changes nothing,
log 4), CALL_CLEAR, and the LOST_MARKER of a link that carries one of its parties (for the lowest-numbered such call). Each
leaves the record IDLE with its cause and the call on no queue and no watch list; the canceling station is freed; the
marker has left its queue. In the states the invariants allow, the marker leaves no call with a party on its link: each that
had one is IDLE, with LINK_LOST where it did not wait (log 29). Where no other call waits and there is room, the messages of
R27 are put in their order, by Table 1-10, its channels are FREE, its parties are disengaged, and nothing else has changed;
CALL_CLEAR answers OK. Where a call waits for what is given up, the channel, the handset or the position goes to it at once (R68, R77, R88).
CALL_CLEAR of an IDLE record is answered with NOT_FOUND, one of a number above 15 with BAD_ARGUMENT, and nothing changes.
A delivery is taken as log 1 and log 23 say; the order of the disengagements is log 10. Beside the calls and what serves
them nothing changes but queues and transmit drops. -/
def Obligations.ClearingCommandsClear : Prop :=
  (∀ (s : State) (l : LinkId) (number : Octet) (more : List Octet), s.inOrigin l = true →
    s.deliverable l (managementMsg 0x8D#8 (number :: more)) = true →
    let answers : Status → Prop := fun st =>
      Answers (.callClear l (number :: more)) s s (s.taking l (managementMsg 0x8D#8 (number :: more)))
        [(l, resultMsg 0x8D#8 st [])]
    (15 < number.toNat → answers .badArgument) ∧
    ∀ n : CallNo, number = BitVec.ofNat 8 n.val → (s.call n).state = .idle → answers .notFound) ∧
  ∀ (s : State) (n : CallNo), (s.call n).state ≠ .idle →
    (∀ (p : Fin 4) (st : Fin 2), s.stationExists p (BitVec.ofNat 8 st.val) = true → s.station p st = some n →
      (s.call n).origin = some (.station p st) →
      s.deliverable (.panel p) (keyMsg (BitVec.ofNat 8 st.val) 0x0B#8) = true →
      ∃ t, exec (.keyCancel p (BitVec.ofNat 8 st.val)) s = .next t ∧ ClearedWith s t n .callerCancel ∧
        t.station p st = none ∧ KeepsToCalls s t none ∧
        ClearsAlone s t n .callerCancel (s.taking (.panel p) (keyMsg (BitVec.ofNat 8 st.val) 0x0B#8)) [] ∧
        WakesTheNext s t n .callerCancel (s.taking (.panel p) (keyMsg (BitVec.ofNat 8 st.val) 0x0B#8)) []) ∧
    (∀ (y : Talker) (x : Party), y.party = some x → wellFormed (.hangup y) = true →
      s.deliverable y.link (bareMsg y.addr 0x13#8) = true →
      (s.roleOf x = some (n, .origin) →
        ∃ t, exec (.hangup y) s = .next t ∧ ClearedWith s t n .callerHungup ∧ KeepsToCalls s t none ∧
          (s.Heard y → ClearsAlone s t n .callerHungup (s.taking y.link (bareMsg y.addr 0x13#8)) [])) ∧
      (s.roleOf x = some (n, .answerer) → (s.call n).joined = none →
        ∃ t, exec (.hangup y) s = .next t ∧ ClearedWith s t n .targetHungup ∧ KeepsToCalls s t none ∧
          (s.Heard y → ClearsAlone s t n .targetHungup (s.taking y.link (bareMsg y.addr 0x13#8)) [] ∧
            WakesTheNext s t n .targetHungup (s.taking y.link (bareMsg y.addr 0x13#8)) []))) ∧
    (∀ (x : TalkCount) (g : Nat), (s.call n).state = .talking → (s.call n).talk = some x →
      (s.call n).graceBound = some g →
      (x.seconds ≤ -(g : Int) →
        ∃ t, exec (.timeLimit n) s = .next t ∧ ClearedWith s t n .timeLimit ∧ KeepsToCalls s t none ∧
          ClearsAlone s t n .timeLimit s.link [] ∧ WakesTheNext s t n .timeLimit s.link []) ∧
      (-(g : Int) < x.seconds → exec (.timeLimit n) s = .next s)) ∧
    (∀ (l : LinkId) (more : List Octet), s.inOrigin l = true →
      s.deliverable l (managementMsg 0x8D#8 (BitVec.ofNat 8 n.val :: more)) = true →
      ∃ t, exec (.callClear l (BitVec.ofNat 8 n.val :: more)) s = .next t ∧ ClearedWith s t n .forced ∧
        KeepsToCalls s t none ∧
        ClearsAlone s t n .forced (s.taking l (managementMsg 0x8D#8 (BitVec.ofNat 8 n.val :: more)))
          [(l, resultMsg 0x8D#8 .ok [])] ∧
        WakesTheNext s t n .forced (s.taking l (managementMsg 0x8D#8 (BitVec.ofNat 8 n.val :: more)))
          [(l, resultMsg 0x8D#8 .ok [])]) ∧
    (∀ l : LinkId, (s.link l).rx.head? = some .lost → (∃ x ∈ (s.call n).parties, x.link = l) →
      (∀ m, m < n → ∀ x ∈ (s.call m).parties, x.link ≠ l) →
      ∃ t, exec (.lostMarker l) s = .next t ∧ ClearedWith s t n .linkLost ∧ (t.link l).rx = (s.link l).dropHead.rx ∧
        KeepsToCalls s t none ∧
        ((∀ m, n < m → ∀ x ∈ (s.call m).parties, x.link ≠ l) →
          ClearsAlone s t n .linkLost (fun k => if k = l then (s.link l).dropHead else s.link k) [] ∧
          ∀ p, l = .panel p →
            WakesTheNext s t n .linkLost (fun k => if k = l then (s.link l).dropHead else s.link k) []) ∧
        (IdleRecordsBlank s → PlacesMatch s → EngagementsMatch s → MarkersFirst s →
          (∀ m, ∀ x ∈ (t.call m).parties, x.link ≠ l) ∧
          ∀ m, (∃ x ∈ (s.call m).parties, x.link = l) →
            (t.call m).state = .idle ∧
            ((s.call m).state = .dialling ∨ (s.call m).state = .alerting ∨ (s.call m).state = .talking →
              ClearedWith s t m .linkLost)))

/-- OPEN_DOOR of the answerer or the joined position of an ENTRANCE call in TALKING, with the door LOCKED and the panel
link not DOWN: UNLOCK and OPENED go to the station, REPLY ACCEPTED to the sender, the door is RELEASED with its timer, the
journal takes one record, JOURNAL is raised at the threshold or on an overwrite, and the call counts the release. With the
door RELEASED or OPEN the sender is sent REPLY ALREADY, with it LOCKED and the panel link DOWN REPLY REFUSED (R128), and a
sender that is no such party of such a call REPLY REFUSED (R126); nothing else changes. That a link UP again counts as not
DOWN while its LOST marker still waits is the model's choice (log 30).
A delivery is taken as log 1 and log 23 say. -/
def Obligations.OpenDoorStartsARelease : Prop :=
  (∀ (s : State) (y : Talker) (x : Party), y.party = some x → s.Heard y → wellFormed (.openDoor y) = true →
    s.deliverable y.link (bareMsg y.addr 0x14#8) = true →
    let mayOpen : CallNo → Role → Fin 4 → Fin 2 → Prop := fun n role p st =>
      s.roleOf x = some (n, role) ∧ (role = .answerer ∨ role = .joined) ∧ (s.call n).kind = some .entrance ∧
        (s.call n).state = .talking ∧ (s.call n).origin = some (.station p st)
    let answers : Reply → Prop := fun v =>
      Answers (.openDoor y) s s (s.taking y.link (bareMsg y.addr 0x14#8)) [(x.link, replyMsg x.addr v)]
    ((∀ n role p st, ¬ mayOpen n role p st) → answers .refused) ∧
    ∀ n role p st, mayOpen n role p st →
      ((s.door p).state ≠ .locked → answers .already) ∧
      ((s.door p).state = .locked → (s.link (.panel p)).state = .down → answers .refused)) ∧
  ∀ (s : State) (y : Talker) (x : Party) (n : CallNo) (role : Role) (p : Fin 4) (st : Fin 2), y.party = some x →
    s.Heard y → wellFormed (.openDoor y) = true → s.roleOf x = some (n, role) → (role = .answerer ∨ role = .joined) →
    (s.call n).kind = some .entrance → (s.call n).state = .talking → (s.call n).origin = some (.station p st) →
    (s.door p).state = .locked → s.deliverable y.link (bareMsg y.addr 0x14#8) = true →
    let record : JournalRecord :=
      { sequence := s.journalSeq, stamp := s.seconds, panel := p, station := st
        kind := match x with
          | .position _ => .byDesk
          | _ => .byResident
        granting := some x
        code := match (s.call n).resolved with
          | some c => c.code
          | none => [] }
    let full := decide (64 ≤ s.journal.length)
    let journal := (if full then s.journal.drop 1 else s.journal) ++ [record]
    let raised : Octet := if full = true ∨ s.params.journalThreshold ≤ journal.length then 0x10#8 else 0x00#8
    let out := [(LinkId.panel p, unlockMsg (BitVec.ofNat 8 st.val) s.params.releaseTime),
                (LinkId.panel p, progressMsg (BitVec.ofNat 8 st.val) .opened),
                (x.link, replyMsg x.addr .accepted)] ++ s.notice raised
    s.Room out → (s.link (.panel p)).state ≠ .down →
    ∃ t, exec (.openDoor y) s = .next t ∧ DeliversAndSends s t y.link (bareMsg y.addr 0x14#8) out ∧
      t = { s with
            links := t.links
            doors := s.doors.set p
              { state := .released, releaseTimer := some (s.params.releaseTime * 800), heldOpenTimer := none }
            journal := journal
            journalSeq := (s.journalSeq + 1) % 65536
            overwrites := if full then min (s.overwrites + 1) 65535 else s.overwrites
            attention := s.attention ||| raised
            calls := s.calls.set n { s.call n with releases := min ((s.call n).releases + 1) 255 } }

/-- DIAL from a free logged-on position, in RUN: a DESK-kind call is created. Of a FLAT entry the copy is taken and the target
check runs: the call rings the eligible handsets as DESK with cadence class 3, seeks or camps, and the position is sent REPLY
ACCEPTED last; or it takes its outcome and clears, the position sent CLEAR. A code of no FLAT entry clears it with UNKNOWN
(R22). Where no call can be created (R3) the position is sent REPLY REFUSED, in RUN with CONGESTION raised. A position that
is engaged or logged off, and a code that fails its checks, bring REPLY REFUSED and nothing else.
A delivery is taken as log 1 and log 23 say. -/
def Obligations.DialRingsTheFlat : Prop :=
  (∀ (s : State) (q : Fin 6) (f : CodeField) (n : CallNo), 1 ≤ f.length.toNat → f.length.toNat ≤ 6 →
    (∀ d ∈ f.digits, d ≤ 9) → (s.position q).loggedOn = true → (s.position q).engaged = none → s.mode = .run →
    s.FirstIdle n → s.deliverable .trunk ⟨BitVec.ofNat 8 q.val, 0x23#8, f.octets⟩ = true →
    let i := Instr.dial (BitVec.ofNat 8 q.val) f
    let base := s.taking .trunk ⟨BitVec.ofNat 8 q.val, 0x23#8, f.octets⟩
    let created : CallRecord :=
      { CallRecord.blank with
        state := .dialling, kind := some .desk, origin := some (.position q), digits := f.digits }
    let with' : CallRecord → State := fun c =>
      State.setCall
        { (s.setPosition q { s.position q with engaged := some n }) with idleOrder := s.idleOrder.filter (· ≠ q) } n c
    (∀ (e : Entry) (ts : List (Fin 8 × Fin 63)) (fb cmp dup : Bool) (at' : Nat),
      entryOf f.digits s.directory = some e → e.body = .flat ts fb cmp dup at' →
      ChecksTargets i s (with' { created with resolved := some ⟨.flat ts, fb, cmp, dup, at', e.code⟩ }) n base
        [(.trunk, replyMsg (BitVec.ofNat 8 q.val) .accepted)]) ∧
    ((∀ e, entryOf f.digits s.directory = some e → ∀ ts fb cmp dup at', e.body ≠ .flat ts fb cmp dup at') →
      ∃ t, exec i s = .next t ∧ ClearedWith (with' created) t n .unknown ∧ KeepsToCalls (with' created) t none ∧
        ClearsAlone (with' created) t n .unknown base [])) ∧
  (∀ (s : State) (q : Fin 6) (f : CodeField),
    let m : Message := ⟨BitVec.ofNat 8 q.val, 0x23#8, f.octets⟩
    s.deliverable .trunk m = true →
    let refused := (LinkId.trunk, replyMsg (BitVec.ofNat 8 q.val) .refused)
    let good := 1 ≤ f.length.toNat ∧ f.length.toNat ≤ 6 ∧ ∀ d ∈ f.digits, d ≤ 9
    let free := (s.position q).loggedOn = true ∧ (s.position q).engaged = none
    (good ∧ free → CreatesNoCall (.dial (BitVec.ofNat 8 q.val) f) s .trunk m refused refused) ∧
    (¬ (good ∧ free) → s.Room [refused] →
      ∃ t, exec (.dial (BitVec.ofNat 8 q.val) f) s = .next t ∧ DeliversAndSends s t .trunk m [refused] ∧
        t = { s with links := t.links }))

/-- LOGON of a LOGGED_OFF position with the desk queue empty appends it to the idle order, and LOGOFF of a free LOGGED_ON
position takes it off; each raises PARTY and is answered with REPLY ACCEPTED. LOGON with calls on the desk queue wakes the one
at its head, which rings the position, after the REPLY (log 24). LOGOFF of the last one logged on clears every call on the
desk queue with NO_DESK, where the calls stand where their states say (R75). LOGON of a position LOGGED_ON already and LOGOFF
of a free one LOGGED_OFF are answered with REPLY ACCEPTED and change nothing, LOGOFF of an engaged one with REPLY REFUSED.
A delivery is taken as log 1 and log 23 say. -/
def Obligations.LogonAndLogoff : Prop :=
  ∀ (s : State) (q : Fin 6),
    let accepted := (LinkId.trunk, replyMsg (BitVec.ofNat 8 q.val) .accepted)
    let logon := Instr.logon (BitVec.ofNat 8 q.val)
    let logoff := Instr.logoff (BitVec.ofNat 8 q.val)
    let taken : Octet → LinkId → LinkUnit := fun type => s.taking .trunk (bareMsg (BitVec.ofNat 8 q.val) type)
    let on := s.setPosition q { s.position q with loggedOn := true }
    let off : State :=
      { (s.setPosition q { s.position q with loggedOn := false }) with
        idleOrder := s.idleOrder.filter (· ≠ q), attention := s.attention ||| 0x02#8 }
    (s.deliverable .trunk (bareMsg (BitVec.ofNat 8 q.val) 0x21#8) = true →
      ((s.position q).loggedOn = true → Answers logon s s (taken 0x21#8) [accepted]) ∧
      ((s.position q).loggedOn = false → q ∉ s.idleOrder →
        (s.deskQueue = [] →
          Answers logon s { on with idleOrder := s.idleOrder ++ [q], attention := s.attention ||| 0x02#8 } (taken 0x21#8)
            (accepted :: s.notice 0x02#8)) ∧
        (∀ n rest f h, s.deskQueue = n :: rest → s.idleOrder = [] → (s.call n).state = .queued →
          (s.call n).waitCount = some ⟨.deskWait, f, h⟩ →
          Answers logon s
            { (s.setPosition q { s.position q with loggedOn := true, engaged := some n }) with
              deskQueue := rest
              attention := s.attention ||| 0x02#8
              calls := s.calls.set n ((s.call n).ringingDesk s.params q) }
            (taken 0x21#8) (accepted :: (s.call n).deskOut n q ++ s.notice 0x02#8)))) ∧
    (s.deliverable .trunk (bareMsg (BitVec.ofNat 8 q.val) 0x22#8) = true →
      ((s.position q).engaged ≠ none →
        Answers logoff s s (taken 0x22#8) [(.trunk, replyMsg (BitVec.ofNat 8 q.val) .refused)]) ∧
      ((s.position q).engaged = none → (s.position q).loggedOn = false →
        Answers logoff s s (taken 0x22#8) [accepted]) ∧
      ((s.position q).engaged = none → (s.position q).loggedOn = true →
        (s.deskQueue = [] ∨ (∃ k, k ≠ q ∧ (s.position k).loggedOn = true) →
          Answers logoff s off (taken 0x22#8) (accepted :: s.notice 0x02#8)) ∧
        ((∀ k, k ≠ q → (s.position k).loggedOn = false) →
          ∃ t, exec logoff s = .next t ∧ t.deskQueue = [] ∧ KeepsToCalls off t none ∧ t.attention.getLsbD 1 = true ∧
            (PlacesMatch s → ∀ n ∈ s.deskQueue, ClearedWith s t n .noDesk) ∧
            ∀ n, s.deskQueue = [n] → (s.call n).state ≠ .idle → off.WaitsAlone n →
              let out := accepted :: s.reached ((s.call n).clearingOut .noDesk) ++ s.notice 0x02#8
              s.Room out →
              GivenUp off t n .noDesk ∧ t.attention = s.attention ||| 0x02#8 ∧
                ∀ k, t.link k = (taken 0x22#8 k).withTx (outFor k out))))

/-- JOIN(n) of a free logged-on position to an ENTRANCE call in TALKING that a handset answered and nobody has joined: the
position is engaged, leaves the idle order, is sent CONNECT with its own channel, and the call's voice becomes MIXED with
a joined meter at 0 and the two meters kept; the talk count is not changed. Any other JOIN is answered with REPLY REFUSED
and changes nothing: a number above 15, a call that is not such a one, a position logged off or engaged. HANGUP of the joined position (R24): it is sent
CLEAR(NORMAL), is disengaged and takes the tail of the idle order, where nobody queues for the desk, and the voice is that
of two parties with fresh meters. HANGUP of the answering handset of a joined call: it is sent CLEAR(NORMAL) and the call
passes to the position, where nobody waits for the handset or its riser.
A delivery is taken as log 1 and log 23 say. -/
def Obligations.JoinMixesTheCall : Prop :=
  (∀ (s : State) (q : Fin 6) (number : Octet),
    s.deliverable .trunk ⟨BitVec.ofNat 8 q.val, 0x24#8, [number]⟩ = true →
    (s.position q).loggedOn = false ∨ (s.position q).engaged ≠ none ∨ 15 < number.toNat ∨
      (∀ n : CallNo, number = BitVec.ofNat 8 n.val →
        (s.call n).kind ≠ some .entrance ∨ (s.call n).state ≠ .talking ∨ (s.call n).joined ≠ none ∨
          ∀ r a, (s.call n).answerer ≠ some (.handset r a)) →
    Answers (.join (BitVec.ofNat 8 q.val) number) s s (s.taking .trunk ⟨BitVec.ofNat 8 q.val, 0x24#8, [number]⟩)
      [(.trunk, replyMsg (BitVec.ofNat 8 q.val) .refused)]) ∧
  (∀ (s : State) (q : Fin 6) (n : CallNo) (r : Fin 8) (a : Fin 63) (v : Voice), (s.position q).loggedOn = true →
    (s.position q).engaged = none → (s.call n).kind = some .entrance → (s.call n).state = .talking →
    (s.call n).answerer = some (.handset r a) → (s.call n).joined = none → (s.call n).voice = some v →
    let m : Message := ⟨BitVec.ofNat 8 q.val, 0x24#8, [BitVec.ofNat 8 n.val]⟩
    s.deliverable .trunk m = true → s.Room [(.trunk, connectMsg (BitVec.ofNat 8 q.val) q.val)] →
    ∃ t, exec (.join (BitVec.ofNat 8 q.val) (BitVec.ofNat 8 n.val)) s = .next t ∧
      (∀ k, t.link k =
        (if k = .trunk then { s.delivered .trunk m with lastGood := (s.link .trunk).lastGood.set q.val 0x00#8 }
          else s.link k).withTx (outFor k [(.trunk, connectMsg (BitVec.ofNat 8 q.val) q.val)])) ∧
      t = { (s.setPosition q { s.position q with engaged := some n }) with
            links := t.links
            idleOrder := s.idleOrder.filter (· ≠ q)
            calls := s.calls.set n
              { s.call n with
                joined := some q
                voice := some { v with mode := .mixed, joinedMeter := some 0, direction := .neutral, hang := 0 } } }) ∧
  (∀ (s : State) (n : CallNo) (q : Fin 6) (p : Fin 4) (st : Fin 2) (r : Fin 8) (a : Fin 63),
    (s.call n).origin = some (.station p st) → (s.call n).answerer = some (.handset r a) → (s.call n).joined = some q →
    ((s.position q).loggedOn = true → (s.position q).engaged = some n → .position q ∉ (s.call n).alerted →
      q ∉ s.idleOrder → s.deskQueue = [] → s.deliverable .trunk (bareMsg (BitVec.ofNat 8 q.val) 0x13#8) = true →
      s.Room [(.trunk, clearMsg (BitVec.ofNat 8 q.val) .normal)] →
      ∃ t, exec (.hangup (.position (BitVec.ofNat 8 q.val))) s = .next t ∧
        DeliversAndSends s t .trunk (bareMsg (BitVec.ofNat 8 q.val) 0x13#8)
          [(.trunk, clearMsg (BitVec.ofNat 8 q.val) .normal)] ∧
        t = { (s.setPosition q { s.position q with engaged := none }) with
              links := t.links
              idleOrder := s.idleOrder ++ [q]
              calls := s.calls.set n
                { s.call n with
                  joined := none
                  voice := (s.call n).voice.map fun _ =>
                    { mode := if (s.call n).resolved.map (·.duplex) = some true then .duplex else .switched
                      originMeter := 0, answererMeter := 0, joinedMeter := none, direction := .neutral, hang := 0 } } }) ∧
    (∀ c, (s.handset r a).engaged = some n → s.Heard (.handset r a) → .handset r a ∉ (s.call n).alerted →
      (s.call n).reservations = [(r, c)] → s.seekQueue r = [] → (s.handset r a).watch = [] →
      s.deliverable (.riser r) (bareMsg (BitVec.ofNat 8 a.val) 0x13#8) = true →
      s.Room [(.riser r, clearMsg (BitVec.ofNat 8 a.val) .normal)] →
      ∃ t, exec (.hangup (.handset r a)) s = .next t ∧
        DeliversAndSends s t (.riser r) (bareMsg (BitVec.ofNat 8 a.val) 0x13#8)
          [(.riser r, clearMsg (BitVec.ofNat 8 a.val) .normal)] ∧
        HandedOver s t n r a c q))

/-- What no block serves: a party's message that does not fit the catalogue is discarded and counted as a check error; a
message at the management address from a link outside the origin set is answered with RESULT REFUSED, counted, and raises
FAULT; one whose type is no request type is answered with RESULT UNKNOWN_REQUEST and changes nothing; a request whose
payload is shorter than Table 9-12 requires is answered with RESULT BAD_ARGUMENT and changes nothing (R181).
That addresses 64 to 255 of a panel or the trunk are checked against the catalogue like any other party's is the model's
choice (log 7). A delivery is taken as log 1 and log 23 say. -/
def Obligations.UnservedMessagesAreCountedOrAnswered : Prop :=
  ∀ (s : State) (l : LinkId),
    (∀ m : Message, m.addr ≠ 63#8 → fitsCatalogue l m = false → s.deliverable l m = true →
      ∃ t, exec (.catalogueDiscard l m) s = .next t ∧ t = { s with links := t.links } ∧
        ∀ k, t.link k = if k = l then
          { s.delivered l m with checkErrors := min ((s.link l).checkErrors + 1) 65535 } else s.link k) ∧
    (∀ (type : Octet) (args : List Octet), s.inOrigin l = false → s.deliverable l (managementMsg type args) = true →
      s.Room ((l, resultMsg type .refused []) :: s.notice 0x04#8) →
      ∃ t, exec (.managementRefused l type args) s = .next t ∧
        DeliversAndSends s t l (managementMsg type args) ((l, resultMsg type .refused []) :: s.notice 0x04#8) ∧
        t = { s with links := t.links, refusals := min (s.refusals + 1) 65535, attention := s.attention ||| 0x04#8 }) ∧
    (∀ (type : Octet) (args : List Octet), s.inOrigin l = true → (type.toNat < 0x80 ∨ 0x93 < type.toNat) →
      s.deliverable l (managementMsg type args) = true → s.Room [(l, resultMsg type .unknownRequest [])] →
      ∃ t, exec (.unknownRequest l type args) s = .next t ∧
        DeliversAndSends s t l (managementMsg type args) [(l, resultMsg type .unknownRequest [])] ∧
        t = { s with links := t.links }) ∧
    (∀ (i : Instr) (k : Request) (args : List Octet), i.request = some (l, k, args) → s.inOrigin l = true →
      args.length <
        (match k with
         | .set | .dirDel | .dirGet | .dirNext | .setTime => 4
         | .get | .partyGet | .callGet => 2
         | .dirPut => 12
         | .partySet => 3
         | .callClear | .linkGet | .linkReset | .clearCounts | .ackAttention => 1
         | .start | .stop | .restart | .status | .journalRead => 0) →
      s.deliverable l (managementMsg k.code args) = true → s.Room [(l, resultMsg k.code .badArgument [])] →
      ∃ t, exec i s = .next t ∧
        DeliversAndSends s t l (managementMsg k.code args) [(l, resultMsg k.code .badArgument [])] ∧
        t = { s with links := t.links })

/-! ### Management -/

/-- START sets RUN in every mode and returns OK, whatever the directory, the links and the positions. STOP in RUN sets
STANDBY when every record is IDLE and DRAINING otherwise, and returns OK; in STANDBY and DRAINING it returns NOT_NOW and
changes nothing. DRAIN_END in DRAINING with every record IDLE sets STANDBY and raises MODE.
A delivery is taken as log 1 and log 23 say. That it also stands as a command of its own is log 26. -/
def Obligations.ModeCommandsMoveTheMode : Prop :=
  (∀ (s : State) (l : LinkId) (args : List Octet), s.inOrigin l = true → s.deliverable l (managementMsg 0x80#8 args) = true →
     s.Room [(l, resultMsg 0x80#8 .ok [])] →
     ∃ t, exec (.start l args) s = .next t ∧
       DeliversAndSends s t l (managementMsg 0x80#8 args) [(l, resultMsg 0x80#8 .ok [])] ∧
       t = { s with links := t.links, mode := .run }) ∧
  (∀ (s : State) (l : LinkId) (args : List Octet), s.inOrigin l = true → s.deliverable l (managementMsg 0x81#8 args) = true →
     (s.mode = .run → s.Room [(l, resultMsg 0x81#8 .ok [])] →
       ∃ t, exec (.stop l args) s = .next t ∧
         DeliversAndSends s t l (managementMsg 0x81#8 args) [(l, resultMsg 0x81#8 .ok [])] ∧
         t = { s with links := t.links, mode := t.mode } ∧
         ((∀ n, (s.call n).state = .idle) → t.mode = .standby) ∧
         ((∃ n, (s.call n).state ≠ .idle) → t.mode = .draining)) ∧
     (s.mode ≠ .run → s.Room [(l, resultMsg 0x81#8 .notNow [])] →
       ∃ t, exec (.stop l args) s = .next t ∧
         DeliversAndSends s t l (managementMsg 0x81#8 args) [(l, resultMsg 0x81#8 .notNow [])] ∧
         t = { s with links := t.links })) ∧
  (∀ s : State, s.mode = .draining → (∀ n, (s.call n).state = .idle) → s.Room (s.notice 0x40#8) →
     ∃ t, exec .drainEnd s = .next t ∧ Sends s t (s.notice 0x40#8) ∧
       t = { s with links := t.links, mode := .standby, attention := s.attention ||| 0x40#8 })

/-- RESTART: every record is IDLE with cause RESTART and its releases, the maps are FREE, every queue and engagement is
gone, the idle order is the logged-on positions in number order, the doors are LOCKED, the mode is STANDBY and the pending
set empty; every link keeps its state and counters with its queues flushed and then holds CLEAR(RESTART), the stations'
PROGRESS CLEARED and the RESULT; the rest is kept.
A delivery is taken as log 1 and log 23 say. -/
def Obligations.RestartReturnsEverything : Prop :=
  ∀ (s : State) (l : LinkId) (args : List Octet), s.inOrigin l = true → s.deliverable l (managementMsg 0x82#8 args) = true →
    ∃ t, exec (.restart l args) s = .next t ∧
      t = { s with
            links := t.links
            calls := t.calls
            handsets := t.handsets
            stations := t.stations
            positions := t.positions
            schedulers := t.schedulers
            channels := t.channels
            seekQueues := t.seekQueues
            doors := t.doors
            deskQueue := []
            idleOrder := allPositions.filter fun q => (s.position q).loggedOn
            mode := .standby
            attention := 0#8 } ∧
      (∀ n, t.call n = { CallRecord.blank with lastCause := some .restart, releases := (s.call n).releases }) ∧
      (∀ r a, t.handset r a = { s.handset r a with engaged := none, watch := [] }) ∧
      (∀ p st, t.station p st = none) ∧ (∀ q, t.position q = { s.position q with engaged := none }) ∧
      (∀ r, t.scheduler r =
        { s.scheduler r with turn := (s.turn r).filter fun x => !x.answered }) ∧
      (∀ r c, t.channel r c = none) ∧ (∀ r, t.seekQueue r = []) ∧
      (∀ p, t.door p = { state := .locked, releaseTimer := none, heldOpenTimer := none }) ∧
      ∀ k, t.link k =
        { s.link k with
          rx := []
          holding := none
          assembly := { stage := .hunting, body := [], escape := false }
          sending := none
          holdOffWait := none
          tx :=
            if (s.link k).state = .down then []
            else
              (match k with
               | .panel p =>
                 (if 0 < s.params.stations[p] then [progressMsg 0x00#8 .cleared] else []) ++
                   (if 1 < s.params.stations[p] then [progressMsg 0x01#8 .cleared] else [])
               | _ => [clearMsg 63#8 .restart]) ++ (if k = l then [resultMsg 0x82#8 .ok []] else []) }

/-- SET writes the parameter that its number and index name, clamped to its range, ORIGIN_SET with bits 13-15 cleared and
bit 12 set, NOTICE_MASK with bits 7-15 cleared, leaves every other parameter, and returns the applied value, after the
ATTENTION that a wider mask brings; GET returns the value in force; either with a number or index of no parameter returns
BAD_ARGUMENT and changes nothing.
A delivery is taken as log 1 and log 23 say. -/
def Obligations.SetAndGetParameters : Prop :=
  ∀ (s : State) (l : LinkId) (number index hi lo : Octet) (more : List Octet), s.inOrigin l = true →
    (∀ x, ParamId.ofOctets number index = some x →
      s.deliverable l (managementMsg 0x84#8 (number :: index :: hi :: lo :: more)) = true →
      let asked := hi.toNat * 256 + lo.toNat
      let v : Nat :=
        match x, x.range with
        | .originSet, _ => asked % 4096 + 4096
        | .noticeMask, _ => asked % 128
        | _, some (low, high) => max low (min asked high)
        | _, none => asked
      let gained := s.attention &&& BitVec.ofNat 8 v &&& ~~~(s.params.noticeMask.setWidth 8)
      let out := (if x = .noticeMask ∧ gained ≠ 0#8 then
                    [(LinkId.trunk, attentionMsg (s.attention &&& BitVec.ofNat 8 v))] else []) ++
                 [(l, resultMsg 0x84#8 .ok [BitVec.ofNat 8 (v / 256), BitVec.ofNat 8 v])]
      s.Room out →
      ∃ t, exec (.set l (number :: index :: hi :: lo :: more)) s = .next t ∧
        DeliversAndSends s t l (managementMsg 0x84#8 (number :: index :: hi :: lo :: more)) out ∧
        t = { s with links := t.links, params := t.params } ∧ t.params.value x = v ∧
        ∀ y, y ≠ x → t.params.value y = s.params.value y) ∧
    (∀ x, ParamId.ofOctets number index = some x → s.deliverable l (managementMsg 0x85#8 (number :: index :: more)) = true →
      s.Room [(l, resultMsg 0x85#8 .ok (be16 (s.params.value x)))] →
      ∃ t, exec (.get l (number :: index :: more)) s = .next t ∧
        DeliversAndSends s t l (managementMsg 0x85#8 (number :: index :: more))
          [(l, resultMsg 0x85#8 .ok (be16 (s.params.value x)))] ∧ t = { s with links := t.links }) ∧
    (ParamId.ofOctets number index = none →
      s.deliverable l (managementMsg 0x84#8 (number :: index :: hi :: lo :: more)) = true →
      s.Room [(l, resultMsg 0x84#8 .badArgument [])] →
      ∃ t, exec (.set l (number :: index :: hi :: lo :: more)) s = .next t ∧
        DeliversAndSends s t l (managementMsg 0x84#8 (number :: index :: hi :: lo :: more))
          [(l, resultMsg 0x84#8 .badArgument [])] ∧ t = { s with links := t.links }) ∧
    (ParamId.ofOctets number index = none →
      s.deliverable l (managementMsg 0x85#8 (number :: index :: more)) = true →
      s.Room [(l, resultMsg 0x85#8 .badArgument [])] →
      ∃ t, exec (.get l (number :: index :: more)) s = .next t ∧
        DeliversAndSends s t l (managementMsg 0x85#8 (number :: index :: more))
          [(l, resultMsg 0x85#8 .badArgument [])] ∧ t = { s with links := t.links })

/-- DIR_PUT of an entry that keeps to Table 2-1: with its code present the entry is replaced in place; absent, with room,
it is inserted at its place in dial order; absent in a full directory the answer is FULL and nothing changes. A DIR_PUT
whose entry fails a check of Table 2-3, or whose payload lacks targets it counts, is answered with BAD_ARGUMENT and
changes nothing, in a full directory too (R36).
A delivery is taken as log 1 and log 23 say. -/
def Obligations.DirPutReplacesOrInserts : Prop :=
  (∀ (s : State) (l : LinkId) (e : Entry) (more : List Octet), DirectoryOrdered s → e.wellKept → s.inOrigin l = true →
    s.deliverable l (managementMsg 0x86#8 (entryOctets e ++ more)) = true →
    ((∃ x ∈ s.directory, x.code = e.code) →
      s.Room [(l, resultMsg 0x86#8 .ok (0x02#8 :: be16 s.directory.length))] →
      ∃ t, exec (.dirPut l (entryOctets e ++ more)) s = .next t ∧
        DeliversAndSends s t l (managementMsg 0x86#8 (entryOctets e ++ more))
          [(l, resultMsg 0x86#8 .ok (0x02#8 :: be16 s.directory.length))] ∧
        t = { s with links := t.links, directory := t.directory } ∧
        t.directory.map (·.code) = s.directory.map (·.code) ∧ e ∈ t.directory ∧
        ∀ x, x.code ≠ e.code → (x ∈ t.directory ↔ x ∈ s.directory)) ∧
    ((∀ x ∈ s.directory, x.code ≠ e.code) → s.directory.length < 1024 →
      s.Room [(l, resultMsg 0x86#8 .ok (0x01#8 :: be16 (s.directory.length + 1)))] →
      ∃ t, exec (.dirPut l (entryOctets e ++ more)) s = .next t ∧
        DeliversAndSends s t l (managementMsg 0x86#8 (entryOctets e ++ more))
          [(l, resultMsg 0x86#8 .ok (0x01#8 :: be16 (s.directory.length + 1)))] ∧
        t = { s with links := t.links, directory := t.directory } ∧ t.directory.Perm (e :: s.directory) ∧
        DirectoryOrdered t) ∧
    ((∀ x ∈ s.directory, x.code ≠ e.code) → s.directory.length = 1024 → s.Room [(l, resultMsg 0x86#8 .full [])] →
      ∃ t, exec (.dirPut l (entryOctets e ++ more)) s = .next t ∧
        DeliversAndSends s t l (managementMsg 0x86#8 (entryOctets e ++ more)) [(l, resultMsg 0x86#8 .full [])] ∧
        t = { s with links := t.links })) ∧
  (∀ (s : State) (l : LinkId) (f : CodeField) (kind entrances fallback camp duplex alert uses count : Octet)
    (targets : List Octet), s.inOrigin l = true →
    let args := f.octets ++ [kind, entrances, fallback, camp, duplex, alert, uses, count] ++ targets
    s.deliverable l (managementMsg 0x86#8 args) = true → s.Room [(l, resultMsg 0x86#8 .badArgument [])] →
    let riser : Nat → Nat := fun i => (targets.getD (2 * i) 0#8).toNat
    let address : Nat → Nat := fun i => (targets.getD (2 * i + 1) 0#8).toNat
    let isFlag : Octet → Prop := fun o => o = 0x00#8 ∨ o = 0x01#8
    (f.length.toNat < 1 ∨ 6 < f.length.toNat ∨ (∃ d ∈ f.digits, 9 < d) ∨ kind.toNat < 1 ∨ 4 < kind.toNat ∨
      entrances.toNat < 1 ∨ 15 < entrances.toNat ∨
      (kind = 0x01#8 ∧
        (count.toNat < 1 ∨ 4 < count.toNat ∨ targets.length < 2 * count.toNat ∨
          (∃ i, i < count.toNat ∧ (7 < riser i ∨ 62 < address i)) ∨
          (∃ i j, i < j ∧ j < count.toNat ∧ riser i = riser j ∧ address i = address j) ∨
          ¬ isFlag fallback ∨ ¬ isFlag camp ∨ ¬ isFlag duplex ∨ (0 < alert.toNat ∧ alert.toNat < 5) ∨
          120 < alert.toNat))) →
    ∃ t, exec (.dirPut l args) s = .next t ∧
      DeliversAndSends s t l (managementMsg 0x86#8 args) [(l, resultMsg 0x86#8 .badArgument [])] ∧
      t = { s with links := t.links })

/-- DIR_DEL (R38): a code that fails its checks gives BAD_ARGUMENT; an entry with exactly that code is removed, the others
keep their order, and the new count is returned; with no such entry the answer is NOT_FOUND and nothing changes. -/
def Obligations.DirDelRemovesOneCode : Prop :=
  ∀ (s : State) (l : LinkId) (f : CodeField) (more : List Octet), DirectoryOrdered s → s.inOrigin l = true →
    (s.link l).rx.head? = some (.message (managementMsg 0x87#8 (f.octets ++ more))) →
    (∀ st, s.Room [(l, resultMsg 0x87#8 st [])]) →
    let good := 1 ≤ f.length.toNat ∧ f.length.toNat ≤ 6 ∧ ∀ d ∈ f.digits, d ≤ 9
    (¬ good →
      ∃ t, exec (.dirDel l (f.octets ++ more)) s = .next t ∧
        DeliversAndSends s t l (managementMsg 0x87#8 (f.octets ++ more)) [(l, resultMsg 0x87#8 .badArgument [])] ∧
        t = { s with links := t.links }) ∧
    (good → ∀ (before after : List Entry) (e : Entry), s.directory = before ++ e :: after → e.code = f.digits →
      ∃ t, exec (.dirDel l (f.octets ++ more)) s = .next t ∧
        DeliversAndSends s t l (managementMsg 0x87#8 (f.octets ++ more))
          [(l, resultMsg 0x87#8 .ok (be16 (before ++ after).length))] ∧
        t = { s with links := t.links, directory := before ++ after }) ∧
    (good → (∀ e ∈ s.directory, e.code ≠ f.digits) →
      ∃ t, exec (.dirDel l (f.octets ++ more)) s = .next t ∧
        DeliversAndSends s t l (managementMsg 0x87#8 (f.octets ++ more)) [(l, resultMsg 0x87#8 .notFound [])] ∧
        t = { s with links := t.links })

/-- DIR_GET returns the entry with exactly the code given, DIR_NEXT the first entry whose code comes after it in dial order,
the first of all for the empty code; NOT_FOUND where there is none, BAD_ARGUMENT for a code that fails its checks. Neither
changes the directory.
A delivery is taken as log 1 and log 23 say. -/
def Obligations.DirReadsReturnEntries : Prop :=
  ∀ (s : State) (l : LinkId) (f : CodeField) (more : List Octet), DirectoryOrdered s → s.inOrigin l = true →
    let answers : Instr → Octet → Status → List Octet → Prop := fun i type st data =>
      s.deliverable l (managementMsg type (f.octets ++ more)) = true → s.Room [(l, resultMsg type st data)] →
      ∃ t, exec i s = .next t ∧
        DeliversAndSends s t l (managementMsg type (f.octets ++ more)) [(l, resultMsg type st data)] ∧
        t = { s with links := t.links }
    let get := Instr.dirGet l (f.octets ++ more)
    let next := Instr.dirNext l (f.octets ++ more)
    let fits := f.length.toNat ≤ 6 ∧ ∀ d ∈ f.digits, d ≤ 9
    (¬ (fits ∧ 1 ≤ f.length.toNat) → answers get 0x88#8 .badArgument []) ∧
    (¬ fits → answers next 0x89#8 .badArgument []) ∧
    (fits → 1 ≤ f.length.toNat →
      (∀ e ∈ s.directory, e.code = f.digits → answers get 0x88#8 .ok (entryOctets e)) ∧
      ((∀ e ∈ s.directory, e.code ≠ f.digits) → answers get 0x88#8 .notFound [])) ∧
    (fits →
      (∀ e ∈ s.directory, dialBefore f.digits e.code = true →
        (∀ x ∈ s.directory, dialBefore f.digits x.code = true → x = e ∨ dialBefore e.code x.code = true) →
        answers next 0x89#8 .ok (entryOctets e)) ∧
      ((∀ e ∈ s.directory, dialBefore f.digits e.code = false) → answers next 0x89#8 .notFound []))

/-- The requests that read the switch and change nothing but the queues, with the data of Table 9-12: STATUS; PARTY_GET of
a station, a handset and a position; CALL_GET in the layouts of Table 9-10; LINK_GET. A part 1 of a record with no resolved
copy says so and takes nine free octets (log 14). The octets of presence and logon are free (log 15); a step of 100 ms
begun is reported whole (log 5); part 3 is the voice state of the latest frame period completed, and reports none before
the first (log 22). A call number above 15, a part above 3, and link codes and addresses that name no party or no link are
answered with BAD_ARGUMENT (R70, R156, R178, R181).
A delivery is taken as log 1 and log 23 say. -/
def Obligations.ReadRequestsReturnTheirData : Prop :=
  ∀ (s : State) (l : LinkId) (more : List Octet), s.inOrigin l = true →
    let answers : Instr → Octet → List Octet → List Octet → Prop := fun i type args data =>
      s.deliverable l (managementMsg type args) = true → s.Room [(l, resultMsg type .ok data)] →
      ∃ t, exec i s = .next t ∧ DeliversAndSends s t l (managementMsg type args) [(l, resultMsg type .ok data)] ∧
        t = { s with links := t.links }
    let turnsDown : Instr → Octet → List Octet → Prop := fun i type args =>
      s.deliverable l (managementMsg type args) = true →
        Answers i s s (s.taking l (managementMsg type args)) [(l, resultMsg type .badArgument [])]
    let two : Nat → List Octet := fun v => [BitVec.ofNat 8 (v / 256), BitVec.ofNat 8 v]
    let flag : Bool → Octet := fun b => if b then 0x01#8 else 0x00#8
    let party : Option Party → List Octet := fun x =>
      match x with
      | some y => [y.link.code, y.addr]
      | none => [0xFF#8, 0xFF#8]
    let number : Option Nat → Octet := fun x =>
      match x with
      | some v => BitVec.ofNat 8 v
      | none => 0xFF#8
    let timer : Option Nat → List Octet := fun x =>
      match x with
      | some frames => two ((frames + 799) / 800)
      | none => [0xFF#8, 0xFF#8]
    let filled : Nat → List Octet → List Octet := fun k os => os ++ List.replicate (k - os.length) 0xFF#8
    let code : Code → List Octet := fun c =>
      BitVec.ofNat 8 c.length :: [0, 2, 4].map fun i => BitVec.ofNat 8 (c.getD i 15 * 16 + c.getD (i + 1) 15)
    (∀ a b : Octet,
      (15 < a.toNat ∨ 3 < b.toNat → turnsDown (.callGet l (a :: b :: more)) 0x8C#8 (a :: b :: more)) ∧
      ((∀ x : Party, a ≠ x.link.code ∨ b ≠ x.addr) → turnsDown (.partyGet l (a :: b :: more)) 0x8A#8 (a :: b :: more)) ∧
      ((∀ k : LinkId, a ≠ k.code) → turnsDown (.linkGet l (a :: more)) 0x8E#8 (a :: more))) ∧
    answers (.status l more) 0x83#8 more
      ([match s.mode with
        | .standby => 0#8
        | .run => 1#8
        | .draining => 2#8,
        s.attention, s.params.noticeMask.setWidth 8] ++ be16 s.directory.length ++
        [BitVec.ofNat 8 (allCalls.countP fun n => decide ((s.call n).state ≠ .idle)), BitVec.ofNat 8 s.journal.length] ++
        be16 s.overwrites ++ be32 s.seconds ++ be16 s.refusals) ∧
    (∀ (x : Party) (data : List Octet),
      (match x with
       | .station p st =>
         data = [flag (decide ((s.link (.panel p)).state ≠ .down ∧ st.val < s.params.stations[p])),
                 number ((s.station p st).map (·.val))]
       | .handset r a =>
         data = [Config.presenceOctet (s.handset r a).present, BitVec.ofNat 8 (s.handset r a).misses,
                 flag (s.handset r a).quiet, number ((s.handset r a).engaged.map (·.val))] ++
                filled 2 ((s.handset r a).watch.map fun n => BitVec.ofNat 8 n.val)
       | .position q =>
         ∃ place : Option Nat,
           ((q ∉ s.idleOrder ∧ place = none) ∨
             ∃ before after, s.idleOrder = before ++ q :: after ∧ q ∉ before ∧ place = some (before.length + 1)) ∧
           data = [Config.logonOctet (s.position q).loggedOn, number ((s.position q).engaged.map (·.val)),
                   number place]) →
      answers (.partyGet l (x.link.code :: x.addr :: more)) 0x8A#8 (x.link.code :: x.addr :: more) data) ∧
    (∀ n : CallNo,
      let c := s.call n
      let args : Octet → List Octet := fun part => BitVec.ofNat 8 n.val :: part :: more
      let part : Octet → List Octet → Prop := fun k data => answers (.callGet l (args k)) 0x8C#8 (args k) data
      let causes : List Cause :=
        [.callerCancel, .callerHungup, .targetHungup, .unknown, .barred, .busy, .quiet, .absent, .noAnswer, .declined,
         .congestion, .noDesk, .timeLimit, .linkLost, .forced, .restart, .accessDone, .accessDenied]
      let shown : List Progress :=
        [.ringback, .wait, .busy, .unknown, .barred, .unavailable, .noReply, .talk, .warn, .cleared, .closed, .opened,
         .denied]
      let stateTimers : List StateTimer := [.digit, .camp, .alert, .deskRing]
      let waitTimers : List WaitTimer := [.seek, .deskWait]
      part 0#8
        ([BitVec.ofNat 8 n.val,
          BitVec.ofNat 8 ([CallState.idle, .dialling, .seeking, .camped, .queued, .alerting, .talking].idxOf c.state),
          number (c.kind.map fun k => [CallKind.entrance, .resident, .desk].idxOf k + 1)] ++ party c.origin ++
          code c.digits ++ [flag c.forwarded, flag c.extended] ++ party c.answerer ++
          party (c.joined.map Party.position) ++
          [BitVec.ofNat 8 c.releases,
           match c.lastCause with
           | some k => BitVec.ofNat 8 (causes.idxOf k + 1)
           | none => 0x00#8,
           number (c.lastProgress.map fun v => shown.idxOf v + 1)]) ∧
      (∀ x, c.resolved = some x →
        part 1#8
          ([0x01#8] ++
            (match x.targets with
             | .flat ts => BitVec.ofNat 8 ts.length :: filled 8 (ts.flatMap fun t => party (some (.handset t.1 t.2)))
             | .desk => 0x0F#8 :: List.replicate 8 0xFF#8) ++
            [flag x.fallback, flag x.camp, flag x.duplex, BitVec.ofNat 8 x.alertTime] ++ code x.code)) ∧
      (c.resolved = none → ∃ targets rest, rest.length = 8 ∧
        let data := [0x00#8, targets] ++ List.replicate 8 0xFF#8 ++ rest
        (s.deliverable l (managementMsg 0x8C#8 (args 1#8)) = true → s.Room [(l, resultMsg 0x8C#8 .ok data)] →
          ∃ t, exec (.callGet l (args 1#8)) s = .next t ∧
            DeliversAndSends s t l (managementMsg 0x8C#8 (args 1#8)) [(l, resultMsg 0x8C#8 .ok data)] ∧
            t = { s with links := t.links, freeIndex := t.freeIndex })) ∧
      part 2#8
        (BitVec.ofNat 8 c.alerted.length :: filled 8 (c.alerted.flatMap fun x => party (some x)) ++
          BitVec.ofNat 8 c.reservations.length ::
            filled 4 (c.reservations.map fun x => BitVec.ofNat 8 (x.1.val * 16 + x.2.val)) ++
          [BitVec.ofNat 8
            ((match c.stateCount with
              | some x => stateTimers.idxOf x.timer + 1
              | none => 0) * 16 +
             match c.waitCount with
              | some x => waitTimers.idxOf x.timer + 5
              | none => 0)] ++
          timer (c.stateCount.map (·.frames)) ++ timer (c.waitCount.map (·.frames)) ++
          (match c.talk with
           | some x => two (x.seconds % 65536).toNat
           | none => [0x80#8, 0x00#8]) ++ [number c.graceBound]) ∧
      part 3#8
        (match c.state, c.lastPeriod with
         | .talking, some v =>
           [match v.mode with
            | .switched => 1#8
            | .duplex => 2#8
            | .mixed => 3#8] ++ two v.originMeter ++ two v.answererMeter ++
             (match v.joinedMeter with
              | some j => two j
              | none => [0xFF#8, 0xFF#8]) ++
             [match v.direction with
              | .neutral => 0#8
              | .entrance => 1#8
              | .inside => 2#8] ++ two v.hang
         | _, _ => [0xFF#8, 0#8, 0#8, 0#8, 0#8, 0#8, 0#8, 0#8, 0#8, 0#8])) ∧
    (∀ k : LinkId,
      let u := s.link k
      let entries := if k = l ∧ u.rx = [] then 1 else u.rx.length
      answers (.linkGet l (k.code :: more)) 0x8E#8 (k.code :: more)
        ([match u.state with
          | .down => 0#8
          | .up => 1#8
          | .impaired => 2#8] ++ two u.badFrames ++ two u.checkErrors ++ two u.overruns ++ two u.txDrops ++
          [BitVec.ofNat 8 entries, flag u.holding.isSome, BitVec.ofNat 8 u.tx.length, flag (decide (4 ≤ entries))] ++
          (match k with
           | .panel p =>
             [flag u.partnerHoldOff, 0xFF#8,
              match (s.door p).state with
              | .locked => 0#8
              | .released => 1#8
              | .opened => 2#8] ++ timer (s.door p).releaseTimer ++ timer (s.door p).heldOpenTimer
           | .riser r => [0xFF#8, number ((s.turn r).map (·.addr.val)), 0xFF#8, 0xFF#8, 0xFF#8, 0xFF#8, 0xFF#8]
           | .trunk => [flag u.partnerHoldOff, 0xFF#8, 0xFF#8, 0xFF#8, 0xFF#8, 0xFF#8, 0xFF#8])))

/-- PARTY_SET writes the quiet flag of a handset and returns it; CLEAR_COUNTS sets the counters of one link to 0, or with
0xFF those of every link and the refusal counter; SET_TIME loads the seconds counter and restarts the measure of the
second. Each returns OK and changes nothing else. PARTY_SET of what is no handset or with a quiet value that has no meaning,
and CLEAR_COUNTS of what is no link, are answered with BAD_ARGUMENT and change nothing (R71, R156).
A delivery is taken as log 1 and log 23 say. -/
def Obligations.WriteRequestsWrite : Prop :=
  ∀ (s : State) (l : LinkId) (more : List Octet), s.inOrigin l = true →
    let turnsDown : Instr → Octet → List Octet → Prop := fun i type args =>
      s.deliverable l (managementMsg type args) = true →
        Answers i s s (s.taking l (managementMsg type args)) [(l, resultMsg type .badArgument [])]
    (∀ a b c : Octet,
      ((∀ (r : Fin 8) (h : Fin 63), a ≠ (LinkId.riser r).code ∨ b ≠ BitVec.ofNat 8 h.val) ∨ 1 < c.toNat →
        turnsDown (.partySet l (a :: b :: c :: more)) 0x8B#8 (a :: b :: c :: more)) ∧
      (a ≠ 0xFF#8 → (∀ k : LinkId, a ≠ k.code) → turnsDown (.clearCounts l (a :: more)) 0x90#8 (a :: more))) ∧
    (∀ (r : Fin 8) (a : Fin 63) (on : Bool),
      let args := (LinkId.riser r).code :: BitVec.ofNat 8 a.val :: flagOctet on :: more
      s.deliverable l (managementMsg 0x8B#8 args) = true → s.Room [(l, resultMsg 0x8B#8 .ok [flagOctet on])] →
      ∃ t, exec (.partySet l args) s = .next t ∧
        DeliversAndSends s t l (managementMsg 0x8B#8 args) [(l, resultMsg 0x8B#8 .ok [flagOctet on])] ∧
        t = { (s.setHandset r a { s.handset r a with quiet := on }) with links := t.links }) ∧
    (∀ (code : Octet) (all : Bool) (k : LinkId), (if all then code = 0xFF#8 else code = k.code) →
      s.deliverable l (managementMsg 0x90#8 (code :: more)) = true → s.Room [(l, resultMsg 0x90#8 .ok [])] →
      ∃ t, exec (.clearCounts l (code :: more)) s = .next t ∧
        t = { s with links := t.links, refusals := if all then 0 else s.refusals } ∧
        ∀ j, t.link j =
          let u := (if j = l then s.delivered l (managementMsg 0x90#8 (code :: more)) else s.link j).withTx
            (outFor j [(l, resultMsg 0x90#8 .ok [])])
          if all = true ∨ j = k then { u with badFrames := 0, checkErrors := 0, overruns := 0, txDrops := 0 } else u) ∧
    (∀ a b c d : Octet,
      s.deliverable l (managementMsg 0x93#8 (a :: b :: c :: d :: more)) = true → s.Room [(l, resultMsg 0x93#8 .ok [])] →
      ∃ t, exec (.setTime l (a :: b :: c :: d :: more)) s = .next t ∧
        DeliversAndSends s t l (managementMsg 0x93#8 (a :: b :: c :: d :: more)) [(l, resultMsg 0x93#8 .ok [])] ∧
        t = { s with links := t.links, secondLeft := 8000
                     seconds := a.toNat * 16777216 + b.toNat * 65536 + c.toNat * 256 + d.toNat })

/-- ACK_ATTENTION takes the classes it names out of the pending set and returns the set after; naming a class that is not
pending is no error; bit 7 gives BAD_ARGUMENT and changes nothing; no ATTENTION is put.
A delivery is taken as log 1 and log 23 say. -/
def Obligations.AckAttentionTakesClassesOut : Prop :=
  ∀ (s : State) (l : LinkId) (set : Octet) (more : List Octet), s.inOrigin l = true →
    s.deliverable l (managementMsg 0x92#8 (set :: more)) = true →
    (set.getLsbD 7 = false → s.Room [(l, resultMsg 0x92#8 .ok [s.attention &&& ~~~set])] →
      ∃ t, exec (.ackAttention l (set :: more)) s = .next t ∧
        DeliversAndSends s t l (managementMsg 0x92#8 (set :: more))
          [(l, resultMsg 0x92#8 .ok [s.attention &&& ~~~set])] ∧
        t = { s with links := t.links, attention := s.attention &&& ~~~set }) ∧
    (set.getLsbD 7 = true → s.Room [(l, resultMsg 0x92#8 .badArgument [])] →
      ∃ t, exec (.ackAttention l (set :: more)) s = .next t ∧
        DeliversAndSends s t l (managementMsg 0x92#8 (set :: more)) [(l, resultMsg 0x92#8 .badArgument [])] ∧
        t = { s with links := t.links })

/-- LINK_RESET of a link that is not DOWN sets its counters to 0 and takes it DOWN with a new LOST marker, raising LINK;
of a DOWN link it sets the counters to 0 and restarts the hunt, and leaves its receive queue and the pending set. It answers
OK, but not on the link that it has reset, where the request and those behind it are lost; a name that is no link's is
answered with BAD_ARGUMENT and changes nothing. Where no call waits on what the link carried, all that is sent is the
ATTENTION of the event and, after it, the OK (R189).
A delivery is taken as log 1 and log 23 say. What does not follow the link's state is kept. -/
def Obligations.LinkResetTakesLinkDown : Prop :=
  (∀ (s : State) (l : LinkId) (code : Octet) (more : List Octet), s.inOrigin l = true → (∀ k : LinkId, code ≠ k.code) →
    s.deliverable l (managementMsg 0x8F#8 (code :: more)) = true →
    Answers (.linkReset l (code :: more)) s s (s.taking l (managementMsg 0x8F#8 (code :: more)))
      [(l, resultMsg 0x8F#8 .badArgument [])]) ∧
  ∀ (s : State) (l k : LinkId) (more : List Octet), s.inOrigin l = true →
    s.deliverable l (managementMsg 0x8F#8 (k.code :: more)) = true →
    ((s.link k).state ≠ .down →
      ∃ t, exec (.linkReset l (k.code :: more)) s = .next t ∧ (t.link k).state = .down ∧ (t.link k).rx = [.lost] ∧
        (t.link k).tx = [] ∧ (t.link k).badFrames = 0 ∧ (t.link k).checkErrors = 0 ∧ (t.link k).overruns = 0 ∧
        (t.link k).txDrops = 0 ∧ (t.link k).alignment = none ∧ t.attention.getLsbD 0 = true ∧
        (∀ p, k = .panel p → t.door p = { state := .locked, releaseTimer := none, heldOpenTimer := none }) ∧
        KeepsToLinkLoss s t k ∧
        ((∀ r a, k = .riser r → (s.handset r a).watch = []) → (k = .trunk → s.deskQueue = []) →
          let told : Prop := (∃ r a, k = .riser r ∧ (s.handset r a).present = true) ∨
            (k = .trunk ∧ ∃ q, (s.position q).loggedOn = true)
          ∀ raised : Octet, (told → raised = 0x03#8) → (¬ told → raised = 0x01#8) →
          let out := (if k = .trunk then [] else s.notice raised) ++
            (if l = k then [] else [(l, resultMsg 0x8F#8 .ok [])])
          s.Room out →
            t.attention = s.attention ||| raised ∧ t.calls = s.calls ∧
              ∀ j, j ≠ k →
                t.link j = (s.taking l (managementMsg 0x8F#8 (k.code :: more)) j).withTx (outFor j out))) ∧
    ((s.link k).state = .down → s.Room [(l, resultMsg 0x8F#8 .ok [])] →
      ∃ t, exec (.linkReset l (k.code :: more)) s = .next t ∧ t = { s with links := t.links } ∧
        ∀ j, t.link j =
          if j = k then
            { s.link k with badFrames := 0, checkErrors := 0, overruns := 0, txDrops := 0, candidate := none,
                            markerRun := 0 }
          else (if j = l then s.delivered l (managementMsg 0x8F#8 (k.code :: more)) else s.link j).withTx
            (outFor j [(l, resultMsg 0x8F#8 .ok [])]))

/-- JOURNAL_READ removes the oldest record and returns its fields with the unread count after the removal; an empty journal
gives NOT_FOUND and nothing changes. -/
def Obligations.JournalReadTakesTheOldest : Prop :=
  ∀ (s : State) (l : LinkId) (args : List Octet), s.inOrigin l = true →
    (s.link l).rx.head? = some (.message (managementMsg 0x91#8 args)) →
    (∀ j rest, s.journal = j :: rest →
      s.Room [(l, resultMsg 0x91#8 .ok (j.octets ++ [BitVec.ofNat 8 rest.length]))] →
      ∃ t, exec (.journalRead l args) s = .next t ∧
        DeliversAndSends s t l (managementMsg 0x91#8 args)
          [(l, resultMsg 0x91#8 .ok (j.octets ++ [BitVec.ofNat 8 rest.length]))] ∧
        t = { s with links := t.links, journal := rest }) ∧
    (s.journal = [] → s.Room [(l, resultMsg 0x91#8 .notFound [])] →
      ∃ t, exec (.journalRead l args) s = .next t ∧
        DeliversAndSends s t l (managementMsg 0x91#8 args) [(l, resultMsg 0x91#8 .notFound [])] ∧
        t = { s with links := t.links })

/-! ### Expiries -/

/-- SEEK_TIMER_EXPIRY in SEEKING gives CONGESTION and raises it; CAMP_TIMER_EXPIRY in CAMPED gives BUSY. A call with no
fallback left clears with that cause; an ENTRANCE call with fallback DESK not yet forwarded goes to the desk, or clears with
NO_DESK when no position is logged on. ALERT_TIMER_EXPIRY in ALERTING of a call that stands on no queue, and
DESK_WAIT_EXPIRY in QUEUED or while a position is rung, give NO_ANSWER: a call with no fallback left clears with it. Where
no other call waits and there is room, the rung members are sent RING_STOP(TIMEOUT), then come the messages of R27, and all
the call held is given up. The expiry of a count that is stopped, held, loaded for another timer, or not yet run out changes nothing (log 4).
Beside the calls and what serves them nothing changes but queues and transmit drops. -/
def Obligations.WaitingAndRingingTimersGiveTheirOutcome : Prop :=
  (∀ (s : State) (n : CallNo) (i : Instr) (cause : Cause),
     ((i = .seekTimerExpiry n ∧ cause = .congestion ∧ (s.call n).state = .seeking ∧
         (s.call n).waitCount = some ⟨.seek, 0, false⟩) ∨
       (i = .campTimerExpiry n ∧ cause = .busy ∧ (s.call n).state = .camped ∧
         (s.call n).stateCount = some ⟨.camp, 0⟩)) →
     let raised : Octet := if cause = .congestion then 0x20#8 else 0x00#8
     let out := s.reached ((s.call n).clearingOut cause) ++ s.notice raised
     ∃ t, exec i s = .next t ∧ KeepsToCalls s t none ∧ (cause = .congestion → t.attention.getLsbD 5 = true) ∧
       (¬ (s.call n).MayForward → ClearedWith s t n cause ∧
         (s.WaitsAlone n → s.Room out →
           GivenUp s t n cause ∧ t.attention = s.attention ||| raised ∧ Sends s t out)) ∧
       ((s.call n).MayForward → (∀ q, (s.position q).loggedOn = false) → ClearedWith s t n .noDesk) ∧
       ((s.call n).MayForward → (∃ q, (s.position q).loggedOn = true) →
         ((t.call n).state = .queued ∨ (t.call n).state = .alerting) ∧ (t.call n).forwarded = true ∧
           (t.call n).resolved.map (·.targets) = some .desk)) ∧
  (∀ (s : State) (n : CallNo) (i : Instr),
     ((i = .alertTimerExpiry n ∧ (s.call n).state = .alerting ∧ s.StandsNowhere n ∧
         (s.call n).stateCount = some ⟨.alert, 0⟩) ∨
       (i = .deskWaitExpiry n ∧ (s.call n).waitCount = some ⟨.deskWait, 0, false⟩ ∧
         ((s.call n).state = .queued ∨
           ((s.call n).state = .alerting ∧ ∃ q, (s.call n).alerted = [.position q])))) →
     ¬ (s.call n).MayForward →
     let out := s.reached ((s.call n).alerted.map (fun x => (x.link, ringStopMsg x.addr .timeout)) ++
       CallRecord.clearingOut { s.call n with alerted := [] } .noAnswer)
     ∃ t, exec i s = .next t ∧ ClearedWith s t n .noAnswer ∧ KeepsToCalls s t none ∧
       (s.WaitsAlone n → ((s.call n).state = .alerting → s.StandsNowhere n) →
         ((s.call n).state = .queued → (s.call n).alerted = []) → s.Room out →
         GivenUp s t n .noAnswer ∧ t.attention = s.attention ∧ Sends s t out)) ∧
  (∀ (s : State) (n : CallNo),
     ((s.call n).stateCount ≠ some ⟨.digit, 0⟩ → exec (.digitTimerExpiry n) s = .next s) ∧
     ((s.call n).stateCount ≠ some ⟨.camp, 0⟩ → exec (.campTimerExpiry n) s = .next s) ∧
     ((s.call n).stateCount ≠ some ⟨.alert, 0⟩ → exec (.alertTimerExpiry n) s = .next s) ∧
     ((s.call n).stateCount ≠ some ⟨.deskRing, 0⟩ → exec (.deskRingExpiry n) s = .next s) ∧
     ((s.call n).waitCount ≠ some ⟨.seek, 0, false⟩ → exec (.seekTimerExpiry n) s = .next s) ∧
     ((s.call n).waitCount ≠ some ⟨.deskWait, 0, false⟩ → exec (.deskWaitExpiry n) s = .next s))

/-- DESK_RING_EXPIRY of a call that rings a position, and HANGUP of that position (R16): it is sent RING_STOP(TIMEOUT), or
RING_STOP(DECLINED), is disengaged and takes the tail of the idle order, and the call hunts again, its desk wait timer running
on. The call rings the position at the head of the order; the same one again where it is the only free one; where calls queue
for the desk, the head of the queue rings the position and the call returns to the queue at its tail (R88); with no position
logged on it clears with NO_DESK. Each position rung has the desk ring timer loaded afresh. DESK_QUEUE_WAKE: the QUEUED call at
the head of the desk queue takes the position at the head of the idle order, which is engaged and rung, with the desk wait
timer running on. The expiry comes when its count has run out (log 4); that the wake also stands as a command of its own is
log 26. A delivery is taken as log 1 and log 23 say. -/
def Obligations.DeskExpiryAndWakeRingAPosition : Prop :=
  (∀ (s : State) (n : CallNo) (q : Fin 6) (w : Nat) (h : Bool) (i : Instr) (reason : StopReason)
     (base : LinkId → LinkUnit), (s.call n).state = .alerting → (s.call n).alerted = [.position q] →
     (s.call n).waitCount = some ⟨.deskWait, w, h⟩ → (s.position q).engaged = some n →
     (i = .deskRingExpiry n ∧ reason = .timeout ∧ base = s.link ∧ (s.call n).stateCount = some ⟨.deskRing, 0⟩) ∨
       (i = .hangup (.position (BitVec.ofNat 8 q.val)) ∧ reason = .declined ∧ (s.call n).origin ≠ some (.position q) ∧
         base = s.taking .trunk (bareMsg (BitVec.ofNat 8 q.val) 0x13#8) ∧
         s.deliverable .trunk (bareMsg (BitVec.ofNat 8 q.val) 0x13#8) = true) →
     let c := s.call n
     let stop := (LinkId.trunk, ringStopMsg (BitVec.ofNat 8 q.val) reason)
     ((s.position q).loggedOn = true →
       (s.deskQueue = [] →
         (s.idleOrder = [] →
           Answers i s { s with calls := s.calls.set n (c.ringingDesk s.params q) } base (stop :: c.deskOut n q)) ∧
         (∀ q' others, s.idleOrder = q' :: others → q ∉ s.idleOrder → q' ∉ others →
           Answers i s
             { ((s.setPosition q { s.position q with engaged := none }).setPosition q'
                 { s.position q' with engaged := some n }) with
               idleOrder := others ++ [q]
               calls := s.calls.set n (c.ringingDesk s.params q') }
             base (stop :: c.deskOut n q'))) ∧
       (∀ m rest f k, s.deskQueue = m :: rest → m ≠ n → s.idleOrder = [] → (s.call m).state = .queued →
         (s.call m).waitCount = some ⟨.deskWait, f, k⟩ →
         Answers i s
           { (s.setPosition q { s.position q with engaged := some m }) with
             deskQueue := rest ++ [n]
             calls :=
               (s.calls.set m ((s.call m).ringingDesk s.params q)).set n
                 { c.told .wait with state := .queued, alerted := [], stateCount := none } }
           base (stop :: (s.call m).deskOut m q ++ c.telling .wait))) ∧
     ((∀ k, (s.position k).loggedOn = false) →
       ∃ t, exec i s = .next t ∧ ClearedWith s t n .noDesk ∧ KeepsToCalls s t none)) ∧
  (∀ (s : State) (n : CallNo) (q : Fin 6) (rest : List CallNo) (others : List (Fin 6)) (p : Fin 4) (st : Fin 2)
     (f : Nat) (h : Bool),
     s.deskQueue = n :: rest → s.idleOrder = q :: others → q ∉ others → (s.call n).state = .queued →
     (s.call n).origin = some (.station p st) → (s.call n).lastProgress = some .wait →
     (s.call n).waitCount = some ⟨.deskWait, f, h⟩ →
     let out := [(LinkId.trunk, ringPositionMsg (BitVec.ofNat 8 q.val) n (some (.station p st))),
                 (LinkId.panel p, progressMsg (BitVec.ofNat 8 st.val) .ringback)]
     s.Room out →
     ∃ t, exec .deskQueueWake s = .next t ∧ Sends s t out ∧
       t = { (s.setPosition q { s.position q with engaged := some n }) with
             links := t.links
             deskQueue := rest
             idleOrder := others
             calls := s.calls.set n
               { s.call n with
                 state := .alerting
                 alerted := [.position q]
                 stateCount := some ⟨.deskRing, s.params.deskRing * 8000⟩
                 lastProgress := some .ringback } })

/-- TALK_COUNT_WARNING of a call in TALKING not yet warned whose count has reached 0: the grace bound is fixed at GRACE, the
origin station is sent PROGRESS WARN, and the answerer, a joined position and an origin that is no station are sent REPLY
WARN; the count goes on and the last progress stays. While the count stands above 0, after an EXTEND taken first for one,
no warning is given, nor where the bound is fixed already (R101 to R103, log 4). -/
def Obligations.TalkCountWarningWarnsTheParties : Prop :=
  (∀ (s : State) (n : CallNo) (x : TalkCount) (o y : Party), (s.call n).state = .talking → (s.call n).talk = some x →
    x.seconds ≤ 0 → (s.call n).graceBound = none → (s.call n).origin = some o → (s.call n).answerer = some y →
    let out :=
      (match o with
       | .station p st => [(LinkId.panel p, progressMsg (BitVec.ofNat 8 st.val) .warn)]
       | _ => []) ++ [(y.link, replyMsg y.addr .warn)] ++
      (match (s.call n).joined with
       | some q => [(LinkId.trunk, replyMsg (BitVec.ofNat 8 q.val) .warn)]
       | none => []) ++
      (match o with
       | .station _ _ => []
       | _ => [(o.link, replyMsg o.addr .warn)])
    s.Room out →
    ∃ t, exec (.talkCountWarning n) s = .next t ∧ Sends s t out ∧
      t = { s with
            links := t.links
            calls := s.calls.set n { s.call n with graceBound := some s.params.grace } }) ∧
  (∀ (s : State) (n : CallNo),
    ((∀ x, (s.call n).talk = some x → 0 < x.seconds) ∨ (s.call n).graceBound ≠ none ∨ (s.call n).state ≠ .talking) →
    exec (.talkCountWarning n) s = .next s)

/-- HOLD_OFF_WAIT_EXPIRY, its wait run out, discards the head, counts a transmit drop and raises FAULT, and loads the next
head's own wait when the partner still holds off; SECONDS_TICK, a whole second measured, raises the seconds counter by one,
from 2^32 - 1 to 0, and measures the next second from there. Before that neither changes anything (log 4). That the next
wait is loaded at once is the model's choice (log 25). -/
def Obligations.HoldOffWaitAndSecondsTick : Prop :=
  ∀ (s : State) (l : LinkId) (m : Message) (rest : List Message),
    ((s.link l).tx = m :: rest → (s.link l).holdOffWait = some 0 →
      (∀ x ∈ s.notice 0x04#8, (s.link x.1).state ≠ .down ∧ (s.link x.1).tx.length < 8) →
      ∃ t, exec (.holdOffWaitExpiry l) s = .next t ∧
        t = { s with links := t.links, attention := s.attention ||| 0x04#8 } ∧
        ∀ k, t.link k =
          (if k = l then
            { s.link l with
              tx := rest
              txDrops := min ((s.link l).txDrops + 1) 65535
              holdOffWait := if rest ≠ [] ∧ (s.link l).partnerHoldOff = true then some 8000 else none }
           else s.link k).withTx (outFor k (s.notice 0x04#8))) ∧
    ((s.link l).holdOffWait ≠ some 0 → exec (.holdOffWaitExpiry l) s = .next s) ∧
    (s.secondLeft = 0 →
      exec .secondsTick s =
        .next { s with seconds := if s.seconds + 1 = 4294967296 then 0 else (s.seconds + 1) % 4294967296
                       secondLeft := 8000 }) ∧
    (s.secondLeft ≠ 0 → exec .secondsTick s = .next s)

/-! ### Grants, wakes and the end of a drain -/

/-- CHANNEL_GRANT to the SEEKING call at the head of a riser's queue, CAMP_WAKE of the CAMPED call at the head of the watch
list of a handset that is free: with one target, that handset, eligible, each takes a channel (the granted one; the lowest
FREE one), rings the handset and enters ALERTING. A RESIDENT call takes the granted channel, its handset is sent REPLY ACCEPTED
and it hunts, or clears with NO_DESK where no position is logged on (R21, R76). A call whose one target stands on another
riser, or is busy, cannot use the channel: it seeks at the tail of that riser's queue, or camps on the busy handset with its
seek count held, told WAIT where it was not told last, and the channel passes to the next call of the queue, which rings its
flat, or is FREE again where none is left (R12, R79).
That it also stands as a command of its own is log 26. -/
def Obligations.GrantAndWakeRingTheFlat : Prop :=
  (∀ (s : State) (n : CallNo) (p : Fin 4) (st : Fin 2) (r : Fin 8) (a : Fin 63) (c : Fin 4) (x : Resolved),
    (s.call n).origin = some (.station p st) → (s.call n).kind = some .entrance → (s.call n).resolved = some x →
    x.targets = .flat [(r, a)] → (s.call n).reservations = [] → (s.call n).alerted = [] →
    (s.call n).ringCadence = none → (s.call n).lastProgress = some .wait → (s.handset r a).Eligible →
    let out := [(LinkId.riser r, ringHandsetMsg (BitVec.ofNat 8 a.val) (BitVec.ofNat 8 p.val)
                  (BitVec.ofNat 8 (s.params.cadence[p]).val)),
                (LinkId.panel p, progressMsg (BitVec.ofNat 8 st.val) .ringback)]
    let ringing : CallRecord :=
      { s.call n with
        state := .alerting
        alerted := [.handset r a]
        reservations := [(r, c)]
        ringCadence := some s.params.cadence[p]
        stateCount := some ⟨.alert, (if x.alertTime = 0 then s.params.alertTime else x.alertTime) * 8000⟩
        waitCount := none
        lastProgress := some .ringback }
    s.Room out →
    (∀ rest, s.channel r c = none → s.seekQueue r = n :: rest → (s.call n).state = .seeking →
      ∃ t, exec (.channelGrant r c) s = .next t ∧ Sends s t out ∧
        t = { ((s.setHandset r a { s.handset r a with engaged := some n }).setChannel r c (some n)) with
              links := t.links, seekQueues := s.seekQueues.set r rest, calls := s.calls.set n ringing }) ∧
    (∀ rest, s.FirstFree r c → (s.handset r a).watch = n :: rest → (s.call n).state = .camped →
      ∃ t, exec (.campWake r a) s = .next t ∧ Sends s t out ∧
        t = { ((s.setHandset r a { s.handset r a with engaged := some n, watch := rest }).setChannel r c (some n)) with
              links := t.links, calls := s.calls.set n ringing })) ∧
  (∀ (s : State) (n : CallNo) (r : Fin 8) (c : Fin 4) (rest : List CallNo), s.channel r c = none →
    s.seekQueue r = n :: rest → (s.call n).state = .seeking → (s.call n).reservations = [] →
    let took : List CallNo → State := fun queue => s.setSeekQueue r queue
    (∀ (a : Fin 63) (f : Nat) (h : Bool), (s.call n).kind = some .resident →
      (s.call n).origin = some (.handset r a) → (s.call n).ForDesk → (s.call n).waitCount = some ⟨.seek, f, h⟩ →
      (took rest).StandsNowhere n →
      HuntsDesk (.channelGrant r c) s
        (((took rest).setChannel r c (some n)).setCall n { s.call n with reservations := [(r, c)], waitCount := none })
        n s.link [(.riser r, replyMsg (BitVec.ofNat 8 a.val) .accepted)] []) ∧
    (∀ (x : Resolved) (f : Nat) (r' : Fin 8) (b : Fin 63) (z : State) (lost : List (LinkId × Message)),
      (s.call n).kind ≠ some .resident → (s.call n).resolved = some x → x.targets = .flat [(r', b)] →
      (s.call n).waitCount = some ⟨.seek, f, false⟩ → lost = (s.call n).telling .wait →
      let told := (s.call n).told .wait
      let h := s.handset r' b
      (r' ≠ r ∧ h.Eligible ∧ (∀ d, s.channel r' d ≠ none) ∧
          z = { ((took rest).setSeekQueue r' (s.seekQueue r' ++ [n])) with
                calls := s.calls.set n { told with state := .seeking, stateCount := none } }) ∨
        (h.present = true ∧ h.engaged ≠ none ∧ x.camp = true ∧ h.watch.length < 2 ∧
          z = { ((took rest).setHandset r' b { h with watch := h.watch ++ [n] }) with
                calls := s.calls.set n
                  { told with
                    state := .camped
                    stateCount := some ⟨.camp, s.params.campTime * 8000⟩
                    waitCount := some ⟨.seek, f, true⟩ } }) →
      (rest = [] → Answers (.channelGrant r c) s z s.link lost) ∧
      ∀ (m : CallNo) (more : List CallNo) (y : Resolved) (a : Fin 63), rest = m :: more → m ≠ n →
        (s.call m).kind ≠ some .resident → (s.call m).state = .seeking → (s.call m).resolved = some y →
        y.targets = .flat [(r, a)] → (s.call m).reservations = [] → (s.call m).alerted = [] → (s.handset r a).Eligible →
        Answers (.channelGrant r c) s
          { (((z.setSeekQueue r more).setHandset r a { z.handset r a with engaged := some m }).setChannel r c (some m)) with
            calls := z.calls.set m ((s.call m).ringing s.params y.alertTime [(r, a)] [(r, c)]) }
          s.link (lost ++ (s.call m).ringingOut s.params [(r, a)])))
end

