-- ==== Sys2Proof/Laws/State.lean ====
section
/-!
SUPPORT. One lemma for each field and each update of the state, so that no proof unfolds a record update: what a setter
leaves is left by definition, and what it writes is read back.
-/

namespace Sys2Proof.Machine

/-! ### The link table -/

theorem linkIndex_injective {k l : LinkId} (h : k.index = l.index) : k = l := by
  cases k <;> cases l <;> simp only [LinkId.index, Fin.mk.injEq] at h <;> first | rfl | (congr; omega)

@[simp] theorem linkIndex_inj {k l : LinkId} : k.index = l.index ↔ k = l := ⟨linkIndex_injective, fun h => h ▸ rfl⟩

/-! ### setLink -/

@[simp] theorem setLink_directory (s : State) (l : LinkId) (x : LinkUnit) :
    (s.setLink l x).directory = s.directory := rfl
@[simp] theorem setLink_deskQueue (s : State) (l : LinkId) (x : LinkUnit) :
    (s.setLink l x).deskQueue = s.deskQueue := rfl
@[simp] theorem setLink_idleOrder (s : State) (l : LinkId) (x : LinkUnit) :
    (s.setLink l x).idleOrder = s.idleOrder := rfl
@[simp] theorem setLink_journal (s : State) (l : LinkId) (x : LinkUnit) : (s.setLink l x).journal = s.journal := rfl
@[simp] theorem setLink_journalSeq (s : State) (l : LinkId) (x : LinkUnit) :
    (s.setLink l x).journalSeq = s.journalSeq := rfl
@[simp] theorem setLink_overwrites (s : State) (l : LinkId) (x : LinkUnit) :
    (s.setLink l x).overwrites = s.overwrites := rfl
@[simp] theorem setLink_mode (s : State) (l : LinkId) (x : LinkUnit) : (s.setLink l x).mode = s.mode := rfl
@[simp] theorem setLink_params (s : State) (l : LinkId) (x : LinkUnit) : (s.setLink l x).params = s.params := rfl
@[simp] theorem setLink_attention (s : State) (l : LinkId) (x : LinkUnit) :
    (s.setLink l x).attention = s.attention := rfl
@[simp] theorem setLink_seconds (s : State) (l : LinkId) (x : LinkUnit) : (s.setLink l x).seconds = s.seconds := rfl
@[simp] theorem setLink_secondLeft (s : State) (l : LinkId) (x : LinkUnit) :
    (s.setLink l x).secondLeft = s.secondLeft := rfl
@[simp] theorem setLink_refusals (s : State) (l : LinkId) (x : LinkUnit) : (s.setLink l x).refusals = s.refusals := rfl
@[simp] theorem setLink_resetLow (s : State) (l : LinkId) (x : LinkUnit) : (s.setLink l x).resetLow = s.resetLow := rfl
@[simp] theorem setLink_freeIndex (s : State) (l : LinkId) (x : LinkUnit) :
    (s.setLink l x).freeIndex = s.freeIndex := rfl
@[simp] theorem setLink_pending (s : State) (l : LinkId) (x : LinkUnit) : (s.setLink l x).pending = s.pending := rfl
@[simp] theorem setLink_call (s : State) (l : LinkId) (x : LinkUnit) (m : CallNo) :
    (s.setLink l x).call m = s.call m := rfl
@[simp] theorem setLink_handset (s : State) (l : LinkId) (x : LinkUnit) (i : Fin 8) (j : Fin 63) :
    (s.setLink l x).handset i j = s.handset i j := rfl
@[simp] theorem setLink_station (s : State) (l : LinkId) (x : LinkUnit) (i : Fin 4) (j : Fin 2) :
    (s.setLink l x).station i j = s.station i j := rfl
@[simp] theorem setLink_position (s : State) (l : LinkId) (x : LinkUnit) (i : Fin 6) :
    (s.setLink l x).position i = s.position i := rfl
@[simp] theorem setLink_scheduler (s : State) (l : LinkId) (x : LinkUnit) (i : Fin 8) :
    (s.setLink l x).scheduler i = s.scheduler i := rfl
@[simp] theorem setLink_channel (s : State) (l : LinkId) (x : LinkUnit) (i : Fin 8) (j : Fin 4) :
    (s.setLink l x).channel i j = s.channel i j := rfl
@[simp] theorem setLink_seekQueue (s : State) (l : LinkId) (x : LinkUnit) (i : Fin 8) :
    (s.setLink l x).seekQueue i = s.seekQueue i := rfl
@[simp] theorem setLink_door (s : State) (l : LinkId) (x : LinkUnit) (i : Fin 4) :
    (s.setLink l x).door i = s.door i := rfl
@[simp] theorem setLink_turn (s : State) (l : LinkId) (x : LinkUnit) (i : Fin 8) :
    (s.setLink l x).turn i = s.turn i := rfl

/-! ### setCall -/

@[simp] theorem setCall_directory (s : State) (n : CallNo) (x : CallRecord) :
    (s.setCall n x).directory = s.directory := rfl
@[simp] theorem setCall_deskQueue (s : State) (n : CallNo) (x : CallRecord) :
    (s.setCall n x).deskQueue = s.deskQueue := rfl
@[simp] theorem setCall_idleOrder (s : State) (n : CallNo) (x : CallRecord) :
    (s.setCall n x).idleOrder = s.idleOrder := rfl
@[simp] theorem setCall_journal (s : State) (n : CallNo) (x : CallRecord) : (s.setCall n x).journal = s.journal := rfl
@[simp] theorem setCall_journalSeq (s : State) (n : CallNo) (x : CallRecord) :
    (s.setCall n x).journalSeq = s.journalSeq := rfl
@[simp] theorem setCall_overwrites (s : State) (n : CallNo) (x : CallRecord) :
    (s.setCall n x).overwrites = s.overwrites := rfl
@[simp] theorem setCall_mode (s : State) (n : CallNo) (x : CallRecord) : (s.setCall n x).mode = s.mode := rfl
@[simp] theorem setCall_params (s : State) (n : CallNo) (x : CallRecord) : (s.setCall n x).params = s.params := rfl
@[simp] theorem setCall_attention (s : State) (n : CallNo) (x : CallRecord) :
    (s.setCall n x).attention = s.attention := rfl
@[simp] theorem setCall_seconds (s : State) (n : CallNo) (x : CallRecord) : (s.setCall n x).seconds = s.seconds := rfl
@[simp] theorem setCall_secondLeft (s : State) (n : CallNo) (x : CallRecord) :
    (s.setCall n x).secondLeft = s.secondLeft := rfl
@[simp] theorem setCall_refusals (s : State) (n : CallNo) (x : CallRecord) :
    (s.setCall n x).refusals = s.refusals := rfl
@[simp] theorem setCall_resetLow (s : State) (n : CallNo) (x : CallRecord) :
    (s.setCall n x).resetLow = s.resetLow := rfl
@[simp] theorem setCall_freeIndex (s : State) (n : CallNo) (x : CallRecord) :
    (s.setCall n x).freeIndex = s.freeIndex := rfl
@[simp] theorem setCall_pending (s : State) (n : CallNo) (x : CallRecord) : (s.setCall n x).pending = s.pending := rfl
@[simp] theorem setCall_link (s : State) (n : CallNo) (x : CallRecord) (k : LinkId) :
    (s.setCall n x).link k = s.link k := rfl
@[simp] theorem setCall_handset (s : State) (n : CallNo) (x : CallRecord) (i : Fin 8) (j : Fin 63) :
    (s.setCall n x).handset i j = s.handset i j := rfl
@[simp] theorem setCall_station (s : State) (n : CallNo) (x : CallRecord) (i : Fin 4) (j : Fin 2) :
    (s.setCall n x).station i j = s.station i j := rfl
@[simp] theorem setCall_position (s : State) (n : CallNo) (x : CallRecord) (i : Fin 6) :
    (s.setCall n x).position i = s.position i := rfl
@[simp] theorem setCall_scheduler (s : State) (n : CallNo) (x : CallRecord) (i : Fin 8) :
    (s.setCall n x).scheduler i = s.scheduler i := rfl
@[simp] theorem setCall_channel (s : State) (n : CallNo) (x : CallRecord) (i : Fin 8) (j : Fin 4) :
    (s.setCall n x).channel i j = s.channel i j := rfl
@[simp] theorem setCall_seekQueue (s : State) (n : CallNo) (x : CallRecord) (i : Fin 8) :
    (s.setCall n x).seekQueue i = s.seekQueue i := rfl
@[simp] theorem setCall_door (s : State) (n : CallNo) (x : CallRecord) (i : Fin 4) :
    (s.setCall n x).door i = s.door i := rfl
@[simp] theorem setCall_turn (s : State) (n : CallNo) (x : CallRecord) (i : Fin 8) :
    (s.setCall n x).turn i = s.turn i := rfl

/-! ### setHandset -/

@[simp] theorem setHandset_directory (s : State) (r : Fin 8) (a : Fin 63) (x : Handset) :
    (s.setHandset r a x).directory = s.directory := rfl
@[simp] theorem setHandset_deskQueue (s : State) (r : Fin 8) (a : Fin 63) (x : Handset) :
    (s.setHandset r a x).deskQueue = s.deskQueue := rfl
@[simp] theorem setHandset_idleOrder (s : State) (r : Fin 8) (a : Fin 63) (x : Handset) :
    (s.setHandset r a x).idleOrder = s.idleOrder := rfl
@[simp] theorem setHandset_journal (s : State) (r : Fin 8) (a : Fin 63) (x : Handset) :
    (s.setHandset r a x).journal = s.journal := rfl
@[simp] theorem setHandset_journalSeq (s : State) (r : Fin 8) (a : Fin 63) (x : Handset) :
    (s.setHandset r a x).journalSeq = s.journalSeq := rfl
@[simp] theorem setHandset_overwrites (s : State) (r : Fin 8) (a : Fin 63) (x : Handset) :
    (s.setHandset r a x).overwrites = s.overwrites := rfl
@[simp] theorem setHandset_mode (s : State) (r : Fin 8) (a : Fin 63) (x : Handset) :
    (s.setHandset r a x).mode = s.mode := rfl
@[simp] theorem setHandset_params (s : State) (r : Fin 8) (a : Fin 63) (x : Handset) :
    (s.setHandset r a x).params = s.params := rfl
@[simp] theorem setHandset_attention (s : State) (r : Fin 8) (a : Fin 63) (x : Handset) :
    (s.setHandset r a x).attention = s.attention := rfl
@[simp] theorem setHandset_seconds (s : State) (r : Fin 8) (a : Fin 63) (x : Handset) :
    (s.setHandset r a x).seconds = s.seconds := rfl
@[simp] theorem setHandset_secondLeft (s : State) (r : Fin 8) (a : Fin 63) (x : Handset) :
    (s.setHandset r a x).secondLeft = s.secondLeft := rfl
@[simp] theorem setHandset_refusals (s : State) (r : Fin 8) (a : Fin 63) (x : Handset) :
    (s.setHandset r a x).refusals = s.refusals := rfl
@[simp] theorem setHandset_resetLow (s : State) (r : Fin 8) (a : Fin 63) (x : Handset) :
    (s.setHandset r a x).resetLow = s.resetLow := rfl
@[simp] theorem setHandset_freeIndex (s : State) (r : Fin 8) (a : Fin 63) (x : Handset) :
    (s.setHandset r a x).freeIndex = s.freeIndex := rfl
@[simp] theorem setHandset_pending (s : State) (r : Fin 8) (a : Fin 63) (x : Handset) :
    (s.setHandset r a x).pending = s.pending := rfl
@[simp] theorem setHandset_link (s : State) (r : Fin 8) (a : Fin 63) (x : Handset) (k : LinkId) :
    (s.setHandset r a x).link k = s.link k := rfl
@[simp] theorem setHandset_call (s : State) (r : Fin 8) (a : Fin 63) (x : Handset) (m : CallNo) :
    (s.setHandset r a x).call m = s.call m := rfl
@[simp] theorem setHandset_station (s : State) (r : Fin 8) (a : Fin 63) (x : Handset) (i : Fin 4) (j : Fin 2) :
    (s.setHandset r a x).station i j = s.station i j := rfl
@[simp] theorem setHandset_position (s : State) (r : Fin 8) (a : Fin 63) (x : Handset) (i : Fin 6) :
    (s.setHandset r a x).position i = s.position i := rfl
@[simp] theorem setHandset_scheduler (s : State) (r : Fin 8) (a : Fin 63) (x : Handset) (i : Fin 8) :
    (s.setHandset r a x).scheduler i = s.scheduler i := rfl
@[simp] theorem setHandset_channel (s : State) (r : Fin 8) (a : Fin 63) (x : Handset) (i : Fin 8) (j : Fin 4) :
    (s.setHandset r a x).channel i j = s.channel i j := rfl
@[simp] theorem setHandset_seekQueue (s : State) (r : Fin 8) (a : Fin 63) (x : Handset) (i : Fin 8) :
    (s.setHandset r a x).seekQueue i = s.seekQueue i := rfl
@[simp] theorem setHandset_door (s : State) (r : Fin 8) (a : Fin 63) (x : Handset) (i : Fin 4) :
    (s.setHandset r a x).door i = s.door i := rfl
@[simp] theorem setHandset_turn (s : State) (r : Fin 8) (a : Fin 63) (x : Handset) (i : Fin 8) :
    (s.setHandset r a x).turn i = s.turn i := rfl

/-! ### setStation -/

@[simp] theorem setStation_directory (s : State) (p : Fin 4) (st : Fin 2) (x : Option CallNo) :
    (s.setStation p st x).directory = s.directory := rfl
@[simp] theorem setStation_deskQueue (s : State) (p : Fin 4) (st : Fin 2) (x : Option CallNo) :
    (s.setStation p st x).deskQueue = s.deskQueue := rfl
@[simp] theorem setStation_idleOrder (s : State) (p : Fin 4) (st : Fin 2) (x : Option CallNo) :
    (s.setStation p st x).idleOrder = s.idleOrder := rfl
@[simp] theorem setStation_journal (s : State) (p : Fin 4) (st : Fin 2) (x : Option CallNo) :
    (s.setStation p st x).journal = s.journal := rfl
@[simp] theorem setStation_journalSeq (s : State) (p : Fin 4) (st : Fin 2) (x : Option CallNo) :
    (s.setStation p st x).journalSeq = s.journalSeq := rfl
@[simp] theorem setStation_overwrites (s : State) (p : Fin 4) (st : Fin 2) (x : Option CallNo) :
    (s.setStation p st x).overwrites = s.overwrites := rfl
@[simp] theorem setStation_mode (s : State) (p : Fin 4) (st : Fin 2) (x : Option CallNo) :
    (s.setStation p st x).mode = s.mode := rfl
@[simp] theorem setStation_params (s : State) (p : Fin 4) (st : Fin 2) (x : Option CallNo) :
    (s.setStation p st x).params = s.params := rfl
@[simp] theorem setStation_attention (s : State) (p : Fin 4) (st : Fin 2) (x : Option CallNo) :
    (s.setStation p st x).attention = s.attention := rfl
@[simp] theorem setStation_seconds (s : State) (p : Fin 4) (st : Fin 2) (x : Option CallNo) :
    (s.setStation p st x).seconds = s.seconds := rfl
@[simp] theorem setStation_secondLeft (s : State) (p : Fin 4) (st : Fin 2) (x : Option CallNo) :
    (s.setStation p st x).secondLeft = s.secondLeft := rfl
@[simp] theorem setStation_refusals (s : State) (p : Fin 4) (st : Fin 2) (x : Option CallNo) :
    (s.setStation p st x).refusals = s.refusals := rfl
@[simp] theorem setStation_resetLow (s : State) (p : Fin 4) (st : Fin 2) (x : Option CallNo) :
    (s.setStation p st x).resetLow = s.resetLow := rfl
@[simp] theorem setStation_freeIndex (s : State) (p : Fin 4) (st : Fin 2) (x : Option CallNo) :
    (s.setStation p st x).freeIndex = s.freeIndex := rfl
@[simp] theorem setStation_pending (s : State) (p : Fin 4) (st : Fin 2) (x : Option CallNo) :
    (s.setStation p st x).pending = s.pending := rfl
@[simp] theorem setStation_link (s : State) (p : Fin 4) (st : Fin 2) (x : Option CallNo) (k : LinkId) :
    (s.setStation p st x).link k = s.link k := rfl
@[simp] theorem setStation_call (s : State) (p : Fin 4) (st : Fin 2) (x : Option CallNo) (m : CallNo) :
    (s.setStation p st x).call m = s.call m := rfl
@[simp] theorem setStation_handset (s : State) (p : Fin 4) (st : Fin 2) (x : Option CallNo) (i : Fin 8) (j : Fin 63) :
    (s.setStation p st x).handset i j = s.handset i j := rfl
@[simp] theorem setStation_position (s : State) (p : Fin 4) (st : Fin 2) (x : Option CallNo) (i : Fin 6) :
    (s.setStation p st x).position i = s.position i := rfl
@[simp] theorem setStation_scheduler (s : State) (p : Fin 4) (st : Fin 2) (x : Option CallNo) (i : Fin 8) :
    (s.setStation p st x).scheduler i = s.scheduler i := rfl
@[simp] theorem setStation_channel (s : State) (p : Fin 4) (st : Fin 2) (x : Option CallNo) (i : Fin 8) (j : Fin 4) :
    (s.setStation p st x).channel i j = s.channel i j := rfl
@[simp] theorem setStation_seekQueue (s : State) (p : Fin 4) (st : Fin 2) (x : Option CallNo) (i : Fin 8) :
    (s.setStation p st x).seekQueue i = s.seekQueue i := rfl
@[simp] theorem setStation_door (s : State) (p : Fin 4) (st : Fin 2) (x : Option CallNo) (i : Fin 4) :
    (s.setStation p st x).door i = s.door i := rfl
@[simp] theorem setStation_turn (s : State) (p : Fin 4) (st : Fin 2) (x : Option CallNo) (i : Fin 8) :
    (s.setStation p st x).turn i = s.turn i := rfl

/-! ### setPosition -/

@[simp] theorem setPosition_directory (s : State) (q : Fin 6) (x : Position) :
    (s.setPosition q x).directory = s.directory := rfl
@[simp] theorem setPosition_deskQueue (s : State) (q : Fin 6) (x : Position) :
    (s.setPosition q x).deskQueue = s.deskQueue := rfl
@[simp] theorem setPosition_idleOrder (s : State) (q : Fin 6) (x : Position) :
    (s.setPosition q x).idleOrder = s.idleOrder := rfl
@[simp] theorem setPosition_journal (s : State) (q : Fin 6) (x : Position) :
    (s.setPosition q x).journal = s.journal := rfl
@[simp] theorem setPosition_journalSeq (s : State) (q : Fin 6) (x : Position) :
    (s.setPosition q x).journalSeq = s.journalSeq := rfl
@[simp] theorem setPosition_overwrites (s : State) (q : Fin 6) (x : Position) :
    (s.setPosition q x).overwrites = s.overwrites := rfl
@[simp] theorem setPosition_mode (s : State) (q : Fin 6) (x : Position) : (s.setPosition q x).mode = s.mode := rfl
@[simp] theorem setPosition_params (s : State) (q : Fin 6) (x : Position) : (s.setPosition q x).params = s.params := rfl
@[simp] theorem setPosition_attention (s : State) (q : Fin 6) (x : Position) :
    (s.setPosition q x).attention = s.attention := rfl
@[simp] theorem setPosition_seconds (s : State) (q : Fin 6) (x : Position) :
    (s.setPosition q x).seconds = s.seconds := rfl
@[simp] theorem setPosition_secondLeft (s : State) (q : Fin 6) (x : Position) :
    (s.setPosition q x).secondLeft = s.secondLeft := rfl
@[simp] theorem setPosition_refusals (s : State) (q : Fin 6) (x : Position) :
    (s.setPosition q x).refusals = s.refusals := rfl
@[simp] theorem setPosition_resetLow (s : State) (q : Fin 6) (x : Position) :
    (s.setPosition q x).resetLow = s.resetLow := rfl
@[simp] theorem setPosition_freeIndex (s : State) (q : Fin 6) (x : Position) :
    (s.setPosition q x).freeIndex = s.freeIndex := rfl
@[simp] theorem setPosition_pending (s : State) (q : Fin 6) (x : Position) :
    (s.setPosition q x).pending = s.pending := rfl
@[simp] theorem setPosition_link (s : State) (q : Fin 6) (x : Position) (k : LinkId) :
    (s.setPosition q x).link k = s.link k := rfl
@[simp] theorem setPosition_call (s : State) (q : Fin 6) (x : Position) (m : CallNo) :
    (s.setPosition q x).call m = s.call m := rfl
@[simp] theorem setPosition_handset (s : State) (q : Fin 6) (x : Position) (i : Fin 8) (j : Fin 63) :
    (s.setPosition q x).handset i j = s.handset i j := rfl
@[simp] theorem setPosition_station (s : State) (q : Fin 6) (x : Position) (i : Fin 4) (j : Fin 2) :
    (s.setPosition q x).station i j = s.station i j := rfl
@[simp] theorem setPosition_scheduler (s : State) (q : Fin 6) (x : Position) (i : Fin 8) :
    (s.setPosition q x).scheduler i = s.scheduler i := rfl
@[simp] theorem setPosition_channel (s : State) (q : Fin 6) (x : Position) (i : Fin 8) (j : Fin 4) :
    (s.setPosition q x).channel i j = s.channel i j := rfl
@[simp] theorem setPosition_seekQueue (s : State) (q : Fin 6) (x : Position) (i : Fin 8) :
    (s.setPosition q x).seekQueue i = s.seekQueue i := rfl
@[simp] theorem setPosition_door (s : State) (q : Fin 6) (x : Position) (i : Fin 4) :
    (s.setPosition q x).door i = s.door i := rfl
@[simp] theorem setPosition_turn (s : State) (q : Fin 6) (x : Position) (i : Fin 8) :
    (s.setPosition q x).turn i = s.turn i := rfl

/-! ### setScheduler -/

@[simp] theorem setScheduler_directory (s : State) (r : Fin 8) (x : Scheduler) :
    (s.setScheduler r x).directory = s.directory := rfl
@[simp] theorem setScheduler_deskQueue (s : State) (r : Fin 8) (x : Scheduler) :
    (s.setScheduler r x).deskQueue = s.deskQueue := rfl
@[simp] theorem setScheduler_idleOrder (s : State) (r : Fin 8) (x : Scheduler) :
    (s.setScheduler r x).idleOrder = s.idleOrder := rfl
@[simp] theorem setScheduler_journal (s : State) (r : Fin 8) (x : Scheduler) :
    (s.setScheduler r x).journal = s.journal := rfl
@[simp] theorem setScheduler_journalSeq (s : State) (r : Fin 8) (x : Scheduler) :
    (s.setScheduler r x).journalSeq = s.journalSeq := rfl
@[simp] theorem setScheduler_overwrites (s : State) (r : Fin 8) (x : Scheduler) :
    (s.setScheduler r x).overwrites = s.overwrites := rfl
@[simp] theorem setScheduler_mode (s : State) (r : Fin 8) (x : Scheduler) : (s.setScheduler r x).mode = s.mode := rfl
@[simp] theorem setScheduler_params (s : State) (r : Fin 8) (x : Scheduler) :
    (s.setScheduler r x).params = s.params := rfl
@[simp] theorem setScheduler_attention (s : State) (r : Fin 8) (x : Scheduler) :
    (s.setScheduler r x).attention = s.attention := rfl
@[simp] theorem setScheduler_seconds (s : State) (r : Fin 8) (x : Scheduler) :
    (s.setScheduler r x).seconds = s.seconds := rfl
@[simp] theorem setScheduler_secondLeft (s : State) (r : Fin 8) (x : Scheduler) :
    (s.setScheduler r x).secondLeft = s.secondLeft := rfl
@[simp] theorem setScheduler_refusals (s : State) (r : Fin 8) (x : Scheduler) :
    (s.setScheduler r x).refusals = s.refusals := rfl
@[simp] theorem setScheduler_resetLow (s : State) (r : Fin 8) (x : Scheduler) :
    (s.setScheduler r x).resetLow = s.resetLow := rfl
@[simp] theorem setScheduler_freeIndex (s : State) (r : Fin 8) (x : Scheduler) :
    (s.setScheduler r x).freeIndex = s.freeIndex := rfl
@[simp] theorem setScheduler_pending (s : State) (r : Fin 8) (x : Scheduler) :
    (s.setScheduler r x).pending = s.pending := rfl
@[simp] theorem setScheduler_link (s : State) (r : Fin 8) (x : Scheduler) (k : LinkId) :
    (s.setScheduler r x).link k = s.link k := rfl
@[simp] theorem setScheduler_call (s : State) (r : Fin 8) (x : Scheduler) (m : CallNo) :
    (s.setScheduler r x).call m = s.call m := rfl
@[simp] theorem setScheduler_handset (s : State) (r : Fin 8) (x : Scheduler) (i : Fin 8) (j : Fin 63) :
    (s.setScheduler r x).handset i j = s.handset i j := rfl
@[simp] theorem setScheduler_station (s : State) (r : Fin 8) (x : Scheduler) (i : Fin 4) (j : Fin 2) :
    (s.setScheduler r x).station i j = s.station i j := rfl
@[simp] theorem setScheduler_position (s : State) (r : Fin 8) (x : Scheduler) (i : Fin 6) :
    (s.setScheduler r x).position i = s.position i := rfl
@[simp] theorem setScheduler_channel (s : State) (r : Fin 8) (x : Scheduler) (i : Fin 8) (j : Fin 4) :
    (s.setScheduler r x).channel i j = s.channel i j := rfl
@[simp] theorem setScheduler_seekQueue (s : State) (r : Fin 8) (x : Scheduler) (i : Fin 8) :
    (s.setScheduler r x).seekQueue i = s.seekQueue i := rfl
@[simp] theorem setScheduler_door (s : State) (r : Fin 8) (x : Scheduler) (i : Fin 4) :
    (s.setScheduler r x).door i = s.door i := rfl

/-! ### setChannel -/

@[simp] theorem setChannel_directory (s : State) (r : Fin 8) (c : Fin 4) (x : Option CallNo) :
    (s.setChannel r c x).directory = s.directory := rfl
@[simp] theorem setChannel_deskQueue (s : State) (r : Fin 8) (c : Fin 4) (x : Option CallNo) :
    (s.setChannel r c x).deskQueue = s.deskQueue := rfl
@[simp] theorem setChannel_idleOrder (s : State) (r : Fin 8) (c : Fin 4) (x : Option CallNo) :
    (s.setChannel r c x).idleOrder = s.idleOrder := rfl
@[simp] theorem setChannel_journal (s : State) (r : Fin 8) (c : Fin 4) (x : Option CallNo) :
    (s.setChannel r c x).journal = s.journal := rfl
@[simp] theorem setChannel_journalSeq (s : State) (r : Fin 8) (c : Fin 4) (x : Option CallNo) :
    (s.setChannel r c x).journalSeq = s.journalSeq := rfl
@[simp] theorem setChannel_overwrites (s : State) (r : Fin 8) (c : Fin 4) (x : Option CallNo) :
    (s.setChannel r c x).overwrites = s.overwrites := rfl
@[simp] theorem setChannel_mode (s : State) (r : Fin 8) (c : Fin 4) (x : Option CallNo) :
    (s.setChannel r c x).mode = s.mode := rfl
@[simp] theorem setChannel_params (s : State) (r : Fin 8) (c : Fin 4) (x : Option CallNo) :
    (s.setChannel r c x).params = s.params := rfl
@[simp] theorem setChannel_attention (s : State) (r : Fin 8) (c : Fin 4) (x : Option CallNo) :
    (s.setChannel r c x).attention = s.attention := rfl
@[simp] theorem setChannel_seconds (s : State) (r : Fin 8) (c : Fin 4) (x : Option CallNo) :
    (s.setChannel r c x).seconds = s.seconds := rfl
@[simp] theorem setChannel_secondLeft (s : State) (r : Fin 8) (c : Fin 4) (x : Option CallNo) :
    (s.setChannel r c x).secondLeft = s.secondLeft := rfl
@[simp] theorem setChannel_refusals (s : State) (r : Fin 8) (c : Fin 4) (x : Option CallNo) :
    (s.setChannel r c x).refusals = s.refusals := rfl
@[simp] theorem setChannel_resetLow (s : State) (r : Fin 8) (c : Fin 4) (x : Option CallNo) :
    (s.setChannel r c x).resetLow = s.resetLow := rfl
@[simp] theorem setChannel_freeIndex (s : State) (r : Fin 8) (c : Fin 4) (x : Option CallNo) :
    (s.setChannel r c x).freeIndex = s.freeIndex := rfl
@[simp] theorem setChannel_pending (s : State) (r : Fin 8) (c : Fin 4) (x : Option CallNo) :
    (s.setChannel r c x).pending = s.pending := rfl
@[simp] theorem setChannel_link (s : State) (r : Fin 8) (c : Fin 4) (x : Option CallNo) (k : LinkId) :
    (s.setChannel r c x).link k = s.link k := rfl
@[simp] theorem setChannel_call (s : State) (r : Fin 8) (c : Fin 4) (x : Option CallNo) (m : CallNo) :
    (s.setChannel r c x).call m = s.call m := rfl
@[simp] theorem setChannel_handset (s : State) (r : Fin 8) (c : Fin 4) (x : Option CallNo) (i : Fin 8) (j : Fin 63) :
    (s.setChannel r c x).handset i j = s.handset i j := rfl
@[simp] theorem setChannel_station (s : State) (r : Fin 8) (c : Fin 4) (x : Option CallNo) (i : Fin 4) (j : Fin 2) :
    (s.setChannel r c x).station i j = s.station i j := rfl
@[simp] theorem setChannel_position (s : State) (r : Fin 8) (c : Fin 4) (x : Option CallNo) (i : Fin 6) :
    (s.setChannel r c x).position i = s.position i := rfl
@[simp] theorem setChannel_scheduler (s : State) (r : Fin 8) (c : Fin 4) (x : Option CallNo) (i : Fin 8) :
    (s.setChannel r c x).scheduler i = s.scheduler i := rfl
@[simp] theorem setChannel_seekQueue (s : State) (r : Fin 8) (c : Fin 4) (x : Option CallNo) (i : Fin 8) :
    (s.setChannel r c x).seekQueue i = s.seekQueue i := rfl
@[simp] theorem setChannel_door (s : State) (r : Fin 8) (c : Fin 4) (x : Option CallNo) (i : Fin 4) :
    (s.setChannel r c x).door i = s.door i := rfl
@[simp] theorem setChannel_turn (s : State) (r : Fin 8) (c : Fin 4) (x : Option CallNo) (i : Fin 8) :
    (s.setChannel r c x).turn i = s.turn i := rfl

/-! ### setSeekQueue -/

@[simp] theorem setSeekQueue_directory (s : State) (r : Fin 8) (x : List CallNo) :
    (s.setSeekQueue r x).directory = s.directory := rfl
@[simp] theorem setSeekQueue_deskQueue (s : State) (r : Fin 8) (x : List CallNo) :
    (s.setSeekQueue r x).deskQueue = s.deskQueue := rfl
@[simp] theorem setSeekQueue_idleOrder (s : State) (r : Fin 8) (x : List CallNo) :
    (s.setSeekQueue r x).idleOrder = s.idleOrder := rfl
@[simp] theorem setSeekQueue_journal (s : State) (r : Fin 8) (x : List CallNo) :
    (s.setSeekQueue r x).journal = s.journal := rfl
@[simp] theorem setSeekQueue_journalSeq (s : State) (r : Fin 8) (x : List CallNo) :
    (s.setSeekQueue r x).journalSeq = s.journalSeq := rfl
@[simp] theorem setSeekQueue_overwrites (s : State) (r : Fin 8) (x : List CallNo) :
    (s.setSeekQueue r x).overwrites = s.overwrites := rfl
@[simp] theorem setSeekQueue_mode (s : State) (r : Fin 8) (x : List CallNo) : (s.setSeekQueue r x).mode = s.mode := rfl
@[simp] theorem setSeekQueue_params (s : State) (r : Fin 8) (x : List CallNo) :
    (s.setSeekQueue r x).params = s.params := rfl
@[simp] theorem setSeekQueue_attention (s : State) (r : Fin 8) (x : List CallNo) :
    (s.setSeekQueue r x).attention = s.attention := rfl
@[simp] theorem setSeekQueue_seconds (s : State) (r : Fin 8) (x : List CallNo) :
    (s.setSeekQueue r x).seconds = s.seconds := rfl
@[simp] theorem setSeekQueue_secondLeft (s : State) (r : Fin 8) (x : List CallNo) :
    (s.setSeekQueue r x).secondLeft = s.secondLeft := rfl
@[simp] theorem setSeekQueue_refusals (s : State) (r : Fin 8) (x : List CallNo) :
    (s.setSeekQueue r x).refusals = s.refusals := rfl
@[simp] theorem setSeekQueue_resetLow (s : State) (r : Fin 8) (x : List CallNo) :
    (s.setSeekQueue r x).resetLow = s.resetLow := rfl
@[simp] theorem setSeekQueue_freeIndex (s : State) (r : Fin 8) (x : List CallNo) :
    (s.setSeekQueue r x).freeIndex = s.freeIndex := rfl
@[simp] theorem setSeekQueue_pending (s : State) (r : Fin 8) (x : List CallNo) :
    (s.setSeekQueue r x).pending = s.pending := rfl
@[simp] theorem setSeekQueue_link (s : State) (r : Fin 8) (x : List CallNo) (k : LinkId) :
    (s.setSeekQueue r x).link k = s.link k := rfl
@[simp] theorem setSeekQueue_call (s : State) (r : Fin 8) (x : List CallNo) (m : CallNo) :
    (s.setSeekQueue r x).call m = s.call m := rfl
@[simp] theorem setSeekQueue_handset (s : State) (r : Fin 8) (x : List CallNo) (i : Fin 8) (j : Fin 63) :
    (s.setSeekQueue r x).handset i j = s.handset i j := rfl
@[simp] theorem setSeekQueue_station (s : State) (r : Fin 8) (x : List CallNo) (i : Fin 4) (j : Fin 2) :
    (s.setSeekQueue r x).station i j = s.station i j := rfl
@[simp] theorem setSeekQueue_position (s : State) (r : Fin 8) (x : List CallNo) (i : Fin 6) :
    (s.setSeekQueue r x).position i = s.position i := rfl
@[simp] theorem setSeekQueue_scheduler (s : State) (r : Fin 8) (x : List CallNo) (i : Fin 8) :
    (s.setSeekQueue r x).scheduler i = s.scheduler i := rfl
@[simp] theorem setSeekQueue_channel (s : State) (r : Fin 8) (x : List CallNo) (i : Fin 8) (j : Fin 4) :
    (s.setSeekQueue r x).channel i j = s.channel i j := rfl
@[simp] theorem setSeekQueue_door (s : State) (r : Fin 8) (x : List CallNo) (i : Fin 4) :
    (s.setSeekQueue r x).door i = s.door i := rfl
@[simp] theorem setSeekQueue_turn (s : State) (r : Fin 8) (x : List CallNo) (i : Fin 8) :
    (s.setSeekQueue r x).turn i = s.turn i := rfl

/-! ### setDoor -/

@[simp] theorem setDoor_directory (s : State) (p : Fin 4) (x : Door) : (s.setDoor p x).directory = s.directory := rfl
@[simp] theorem setDoor_deskQueue (s : State) (p : Fin 4) (x : Door) : (s.setDoor p x).deskQueue = s.deskQueue := rfl
@[simp] theorem setDoor_idleOrder (s : State) (p : Fin 4) (x : Door) : (s.setDoor p x).idleOrder = s.idleOrder := rfl
@[simp] theorem setDoor_journal (s : State) (p : Fin 4) (x : Door) : (s.setDoor p x).journal = s.journal := rfl
@[simp] theorem setDoor_journalSeq (s : State) (p : Fin 4) (x : Door) : (s.setDoor p x).journalSeq = s.journalSeq := rfl
@[simp] theorem setDoor_overwrites (s : State) (p : Fin 4) (x : Door) : (s.setDoor p x).overwrites = s.overwrites := rfl
@[simp] theorem setDoor_mode (s : State) (p : Fin 4) (x : Door) : (s.setDoor p x).mode = s.mode := rfl
@[simp] theorem setDoor_params (s : State) (p : Fin 4) (x : Door) : (s.setDoor p x).params = s.params := rfl
@[simp] theorem setDoor_attention (s : State) (p : Fin 4) (x : Door) : (s.setDoor p x).attention = s.attention := rfl
@[simp] theorem setDoor_seconds (s : State) (p : Fin 4) (x : Door) : (s.setDoor p x).seconds = s.seconds := rfl
@[simp] theorem setDoor_secondLeft (s : State) (p : Fin 4) (x : Door) : (s.setDoor p x).secondLeft = s.secondLeft := rfl
@[simp] theorem setDoor_refusals (s : State) (p : Fin 4) (x : Door) : (s.setDoor p x).refusals = s.refusals := rfl
@[simp] theorem setDoor_resetLow (s : State) (p : Fin 4) (x : Door) : (s.setDoor p x).resetLow = s.resetLow := rfl
@[simp] theorem setDoor_freeIndex (s : State) (p : Fin 4) (x : Door) : (s.setDoor p x).freeIndex = s.freeIndex := rfl
@[simp] theorem setDoor_pending (s : State) (p : Fin 4) (x : Door) : (s.setDoor p x).pending = s.pending := rfl
@[simp] theorem setDoor_link (s : State) (p : Fin 4) (x : Door) (k : LinkId) :
    (s.setDoor p x).link k = s.link k := rfl
@[simp] theorem setDoor_call (s : State) (p : Fin 4) (x : Door) (m : CallNo) :
    (s.setDoor p x).call m = s.call m := rfl
@[simp] theorem setDoor_handset (s : State) (p : Fin 4) (x : Door) (i : Fin 8) (j : Fin 63) :
    (s.setDoor p x).handset i j = s.handset i j := rfl
@[simp] theorem setDoor_station (s : State) (p : Fin 4) (x : Door) (i : Fin 4) (j : Fin 2) :
    (s.setDoor p x).station i j = s.station i j := rfl
@[simp] theorem setDoor_position (s : State) (p : Fin 4) (x : Door) (i : Fin 6) :
    (s.setDoor p x).position i = s.position i := rfl
@[simp] theorem setDoor_scheduler (s : State) (p : Fin 4) (x : Door) (i : Fin 8) :
    (s.setDoor p x).scheduler i = s.scheduler i := rfl
@[simp] theorem setDoor_channel (s : State) (p : Fin 4) (x : Door) (i : Fin 8) (j : Fin 4) :
    (s.setDoor p x).channel i j = s.channel i j := rfl
@[simp] theorem setDoor_seekQueue (s : State) (p : Fin 4) (x : Door) (i : Fin 8) :
    (s.setDoor p x).seekQueue i = s.seekQueue i := rfl
@[simp] theorem setDoor_turn (s : State) (p : Fin 4) (x : Door) (i : Fin 8) :
    (s.setDoor p x).turn i = s.turn i := rfl

/-! ### What a setter writes -/

theorem setLink_link (s : State) (l k : LinkId) (x : LinkUnit) :
    (s.setLink l x).link k = if k = l then x else s.link k := by
  by_cases h : k = l
  · subst h; simp [State.setLink, State.link]
  · have : (l.index : Nat) ≠ k.index := fun e => h (linkIndex_injective (Fin.ext e)).symm
    simp [State.setLink, State.link, h, Vector.getElem_set_ne, this]

@[simp] theorem setLink_link_self (s : State) (l : LinkId) (x : LinkUnit) : (s.setLink l x).link l = x := by
  simp [setLink_link]

@[simp] theorem setLink_link_ne (s : State) {l k : LinkId} (x : LinkUnit) (h : k ≠ l) :
    (s.setLink l x).link k = s.link k := by simp [setLink_link, h]

theorem setCall_call (s : State) (n i : CallNo) (x : CallRecord) :
    (s.setCall n x).call i = if i = n then x else s.call i := by
  by_cases h : i = n
  · subst h; simp [State.setCall, State.call]
  · have : (n : Nat) ≠ i := fun e => h (Fin.ext e).symm
    simp [State.setCall, State.call, h, Vector.getElem_set_ne, this]

@[simp] theorem setCall_call_self (s : State) (n : CallNo) (x : CallRecord) : (s.setCall n x).call n = x := by
  simp [setCall_call]

@[simp] theorem setCall_call_ne (s : State) {n i : CallNo} (x : CallRecord) (h : i ≠ n) :
    (s.setCall n x).call i = s.call i := by simp [setCall_call, h]

theorem setHandset_handset (s : State) (r i : Fin 8) (a j : Fin 63) (x : Handset) :
    (s.setHandset r a x).handset i j = if i = r ∧ j = a then x else s.handset i j := by
  by_cases h : i = r
  · subst h
    by_cases h' : j = a
    · subst h'; simp [State.setHandset, State.handset]
    · have : (a : Nat) ≠ j := fun e => h' (Fin.ext e).symm
      simp [State.setHandset, State.handset, h', Vector.getElem_set_ne, this]
  · have : (r : Nat) ≠ i := fun e => h (Fin.ext e).symm
    simp [State.setHandset, State.handset, h, Vector.getElem_set_ne, this]

@[simp] theorem setHandset_handset_self (s : State) (r : Fin 8) (a : Fin 63) (x : Handset) :
    (s.setHandset r a x).handset r a = x := by simp [setHandset_handset]

theorem setStation_station (s : State) (p i : Fin 4) (st j : Fin 2) (x : Option CallNo) :
    (s.setStation p st x).station i j = if i = p ∧ j = st then x else s.station i j := by
  by_cases h : i = p
  · subst h
    by_cases h' : j = st
    · subst h'; simp [State.setStation, State.station]
    · have : (st : Nat) ≠ j := fun e => h' (Fin.ext e).symm
      simp [State.setStation, State.station, h', Vector.getElem_set_ne, this]
  · have : (p : Nat) ≠ i := fun e => h (Fin.ext e).symm
    simp [State.setStation, State.station, h, Vector.getElem_set_ne, this]

@[simp] theorem setStation_station_self (s : State) (p : Fin 4) (st : Fin 2) (x : Option CallNo) :
    (s.setStation p st x).station p st = x := by simp [setStation_station]

theorem setPosition_position (s : State) (q i : Fin 6) (x : Position) :
    (s.setPosition q x).position i = if i = q then x else s.position i := by
  by_cases h : i = q
  · subst h; simp [State.setPosition, State.position]
  · have : (q : Nat) ≠ i := fun e => h (Fin.ext e).symm
    simp [State.setPosition, State.position, h, Vector.getElem_set_ne, this]

@[simp] theorem setPosition_position_self (s : State) (q : Fin 6) (x : Position) : (s.setPosition q x).position q = x := by
  simp [setPosition_position]

@[simp] theorem setPosition_position_ne (s : State) {q i : Fin 6} (x : Position) (h : i ≠ q) :
    (s.setPosition q x).position i = s.position i := by simp [setPosition_position, h]

theorem setScheduler_scheduler (s : State) (r i : Fin 8) (x : Scheduler) :
    (s.setScheduler r x).scheduler i = if i = r then x else s.scheduler i := by
  by_cases h : i = r
  · subst h; simp [State.setScheduler, State.scheduler]
  · have : (r : Nat) ≠ i := fun e => h (Fin.ext e).symm
    simp [State.setScheduler, State.scheduler, h, Vector.getElem_set_ne, this]

@[simp] theorem setScheduler_scheduler_self (s : State) (r : Fin 8) (x : Scheduler) : (s.setScheduler r x).scheduler r = x := by
  simp [setScheduler_scheduler]

@[simp] theorem setScheduler_scheduler_ne (s : State) {r i : Fin 8} (x : Scheduler) (h : i ≠ r) :
    (s.setScheduler r x).scheduler i = s.scheduler i := by simp [setScheduler_scheduler, h]

theorem setChannel_channel (s : State) (r i : Fin 8) (c j : Fin 4) (x : Option CallNo) :
    (s.setChannel r c x).channel i j = if i = r ∧ j = c then x else s.channel i j := by
  by_cases h : i = r
  · subst h
    by_cases h' : j = c
    · subst h'; simp [State.setChannel, State.channel]
    · have : (c : Nat) ≠ j := fun e => h' (Fin.ext e).symm
      simp [State.setChannel, State.channel, h', Vector.getElem_set_ne, this]
  · have : (r : Nat) ≠ i := fun e => h (Fin.ext e).symm
    simp [State.setChannel, State.channel, h, Vector.getElem_set_ne, this]

@[simp] theorem setChannel_channel_self (s : State) (r : Fin 8) (c : Fin 4) (x : Option CallNo) :
    (s.setChannel r c x).channel r c = x := by simp [setChannel_channel]

theorem setSeekQueue_seekQueue (s : State) (r i : Fin 8) (x : List CallNo) :
    (s.setSeekQueue r x).seekQueue i = if i = r then x else s.seekQueue i := by
  by_cases h : i = r
  · subst h; simp [State.setSeekQueue, State.seekQueue]
  · have : (r : Nat) ≠ i := fun e => h (Fin.ext e).symm
    simp [State.setSeekQueue, State.seekQueue, h, Vector.getElem_set_ne, this]

@[simp] theorem setSeekQueue_seekQueue_self (s : State) (r : Fin 8) (x : List CallNo) : (s.setSeekQueue r x).seekQueue r = x := by
  simp [setSeekQueue_seekQueue]

@[simp] theorem setSeekQueue_seekQueue_ne (s : State) {r i : Fin 8} (x : List CallNo) (h : i ≠ r) :
    (s.setSeekQueue r x).seekQueue i = s.seekQueue i := by simp [setSeekQueue_seekQueue, h]

theorem setDoor_door (s : State) (p i : Fin 4) (x : Door) :
    (s.setDoor p x).door i = if i = p then x else s.door i := by
  by_cases h : i = p
  · subst h; simp [State.setDoor, State.door]
  · have : (p : Nat) ≠ i := fun e => h (Fin.ext e).symm
    simp [State.setDoor, State.door, h, Vector.getElem_set_ne, this]

@[simp] theorem setDoor_door_self (s : State) (p : Fin 4) (x : Door) : (s.setDoor p x).door p = x := by
  simp [setDoor_door]

@[simp] theorem setDoor_door_ne (s : State) {p i : Fin 4} (x : Door) (h : i ≠ p) :
    (s.setDoor p x).door i = s.door i := by simp [setDoor_door, h]

/-! ### raise -/

@[simp] theorem raise_directory (s : State) (c : AttentionClass) : (s.raise c).directory = s.directory := rfl
@[simp] theorem raise_deskQueue (s : State) (c : AttentionClass) : (s.raise c).deskQueue = s.deskQueue := rfl
@[simp] theorem raise_idleOrder (s : State) (c : AttentionClass) : (s.raise c).idleOrder = s.idleOrder := rfl
@[simp] theorem raise_journal (s : State) (c : AttentionClass) : (s.raise c).journal = s.journal := rfl
@[simp] theorem raise_journalSeq (s : State) (c : AttentionClass) : (s.raise c).journalSeq = s.journalSeq := rfl
@[simp] theorem raise_overwrites (s : State) (c : AttentionClass) : (s.raise c).overwrites = s.overwrites := rfl
@[simp] theorem raise_mode (s : State) (c : AttentionClass) : (s.raise c).mode = s.mode := rfl
@[simp] theorem raise_params (s : State) (c : AttentionClass) : (s.raise c).params = s.params := rfl
@[simp] theorem raise_attention (s : State) (c : AttentionClass) :
    (s.raise c).attention = s.attention ||| c.bit := rfl
@[simp] theorem raise_seconds (s : State) (c : AttentionClass) : (s.raise c).seconds = s.seconds := rfl
@[simp] theorem raise_secondLeft (s : State) (c : AttentionClass) : (s.raise c).secondLeft = s.secondLeft := rfl
@[simp] theorem raise_refusals (s : State) (c : AttentionClass) : (s.raise c).refusals = s.refusals := rfl
@[simp] theorem raise_resetLow (s : State) (c : AttentionClass) : (s.raise c).resetLow = s.resetLow := rfl
@[simp] theorem raise_freeIndex (s : State) (c : AttentionClass) : (s.raise c).freeIndex = s.freeIndex := rfl
@[simp] theorem raise_pending (s : State) (c : AttentionClass) : (s.raise c).pending = s.pending := rfl
@[simp] theorem raise_link (s : State) (c : AttentionClass) (k : LinkId) : (s.raise c).link k = s.link k := rfl
@[simp] theorem raise_call (s : State) (c : AttentionClass) (m : CallNo) : (s.raise c).call m = s.call m := rfl
@[simp] theorem raise_handset (s : State) (c : AttentionClass) (i : Fin 8) (j : Fin 63) : (s.raise c).handset i j = s.handset i j := rfl
@[simp] theorem raise_station (s : State) (c : AttentionClass) (i : Fin 4) (j : Fin 2) : (s.raise c).station i j = s.station i j := rfl
@[simp] theorem raise_position (s : State) (c : AttentionClass) (i : Fin 6) : (s.raise c).position i = s.position i := rfl
@[simp] theorem raise_scheduler (s : State) (c : AttentionClass) (i : Fin 8) : (s.raise c).scheduler i = s.scheduler i := rfl
@[simp] theorem raise_channel (s : State) (c : AttentionClass) (i : Fin 8) (j : Fin 4) : (s.raise c).channel i j = s.channel i j := rfl
@[simp] theorem raise_seekQueue (s : State) (c : AttentionClass) (i : Fin 8) : (s.raise c).seekQueue i = s.seekQueue i := rfl
@[simp] theorem raise_door (s : State) (c : AttentionClass) (i : Fin 4) : (s.raise c).door i = s.door i := rfl
@[simp] theorem raise_turn (s : State) (c : AttentionClass) (i : Fin 8) : (s.raise c).turn i = s.turn i := rfl

/-! ### Equality of states -/

/-- Two states with the same link units have the same link table. -/
theorem links_ext {s t : State} (h : ∀ l, t.link l = s.link l) : t.links = s.links := by
  have key : ∀ i : Fin 13, ∃ l : LinkId, l.index = i := by
    intro i
    rcases i with ⟨i, hi⟩
    by_cases h4 : i < 4
    · exact ⟨.panel ⟨i, h4⟩, rfl⟩
    · by_cases h12 : i < 12
      · exact ⟨.riser ⟨i - 4, by omega⟩, Fin.ext (by simp [LinkId.index]; omega)⟩
      · exact ⟨.trunk, Fin.ext (by simp [LinkId.index]; omega)⟩
  apply Vector.ext
  intro i hi
  obtain ⟨l, hl⟩ := key ⟨i, hi⟩
  have h1 := h l
  simp only [State.link, hl] at h1
  exact h1

/-- Two states with the same call records have the same call table. -/
theorem calls_ext {s t : State} (h : ∀ n, t.call n = s.call n) : t.calls = s.calls :=
  Vector.ext fun i hi => h ⟨i, hi⟩

end Sys2Proof.Machine
end

