-- ==== Sys2Proof/Laws/Ops.lean ====
section
/-!
SUPPORT. What the shared operations can do, said once for each: sending, the end of an event, the receive queue, a
delivery, and the searches for a free record or channel. Later proofs cite these and do not unfold the operations.
-/

namespace Sys2Proof

/-! ### The lists of all -/

@[simp] theorem mem_allCalls (n : CallNo) : n ∈ allCalls := by revert n; decide
@[simp] theorem mem_allChannels (c : Fin 4) : c ∈ allChannels := by revert c; decide
@[simp] theorem mem_allPanels (p : Fin 4) : p ∈ allPanels := by revert p; decide
@[simp] theorem mem_allRisers (r : Fin 8) : r ∈ allRisers := by revert r; decide
@[simp] theorem mem_allPositions (q : Fin 6) : q ∈ allPositions := by revert q; decide
@[simp] theorem mem_allAddresses (a : Fin 63) : a ∈ allAddresses := List.mem_finRange a
@[simp] theorem mem_allLinks (l : LinkId) : l ∈ allLinks := by cases l <;> simp [allLinks]

end Sys2Proof

namespace Sys2Proof.Machine

/-! ### Sending (R166) -/

/-- Everything `put` can do: nothing on a DOWN link; a place at the tail; or a counted drop with FAULT. -/
theorem put_cases (s : State) (l : LinkId) (m : Message) :
    ((s.link l).state = .down ∧ s.put l m = s) ∨
      ((s.link l).state ≠ .down ∧ (s.link l).tx.length < 8 ∧
        s.put l m = s.setLink l { s.link l with tx := (s.link l).tx ++ [m] }) ∨
      ((s.link l).state ≠ .down ∧ 8 ≤ (s.link l).tx.length ∧
        s.put l m = (s.setLink l { s.link l with txDrops := countUp (s.link l).txDrops }).raise .fault) := by
  unfold State.put
  by_cases h : (s.link l).state = .down
  · simp [h]
  · by_cases h' : (s.link l).tx.length < 8
    · simp [h, h', Config.transmitPlaces]
    · simp [h, h', Config.transmitPlaces, Nat.not_lt.mp h']

theorem put_of_room {s : State} {l : LinkId} (m : Message) (hs : (s.link l).state ≠ .down)
    (hl : (s.link l).tx.length < 8) : s.put l m = s.setLink l { s.link l with tx := (s.link l).tx ++ [m] } := by
  simp [State.put, hs, hl, Config.transmitPlaces]

theorem put_of_down {s : State} {l : LinkId} (m : Message) (hs : (s.link l).state = .down) : s.put l m = s := by
  simp [State.put, hs]

@[simp] theorem put_link_ne (s : State) {l k : LinkId} (m : Message) (h : k ≠ l) : (s.put l m).link k = s.link k := by
  rcases put_cases s l m with ⟨-, e⟩ | ⟨-, -, e⟩ | ⟨-, -, e⟩ <;> rw [e] <;> simp [h]

/-- What a message sent leaves of its own link unit: all but its transmit queue and its transmit drops. -/
theorem put_link_self (s : State) (l : LinkId) (m : Message) :
    (s.put l m).link l =
      { s.link l with tx := ((s.put l m).link l).tx, txDrops := ((s.put l m).link l).txDrops } := by
  rcases put_cases s l m with ⟨-, e⟩ | ⟨-, -, e⟩ | ⟨-, -, e⟩ <;> rw [e] <;> first | rfl | simp

/-- A message sent changes the link units and the pending set, and nothing else. -/
theorem put_frame (s : State) (l : LinkId) (m : Message) :
    s.put l m = { s with links := (s.put l m).links, attention := (s.put l m).attention } := by
  rcases put_cases s l m with ⟨-, e⟩ | ⟨-, -, e⟩ | ⟨-, -, e⟩ <;> rw [e] <;> rfl

theorem put_tx_length (s : State) (l k : LinkId) (m : Message) (h : (s.link k).tx.length ≤ 8) :
    ((s.put l m).link k).tx.length ≤ 8 := by
  by_cases hk : k = l
  · subst hk
    rcases put_cases s k m with ⟨-, e⟩ | ⟨-, h', e⟩ | ⟨-, -, e⟩
    · rw [e]; exact h
    · rw [e]; simp; omega
    · rw [e]; simpa using h
  · rw [put_link_ne s m hk]; exact h

@[simp] theorem put_directory (s : State) (l : LinkId) (m : Message) :
    (s.put l m).directory = s.directory := by rw [put_frame]
@[simp] theorem put_deskQueue (s : State) (l : LinkId) (m : Message) :
    (s.put l m).deskQueue = s.deskQueue := by rw [put_frame]
@[simp] theorem put_idleOrder (s : State) (l : LinkId) (m : Message) :
    (s.put l m).idleOrder = s.idleOrder := by rw [put_frame]
@[simp] theorem put_journal (s : State) (l : LinkId) (m : Message) :
    (s.put l m).journal = s.journal := by rw [put_frame]
@[simp] theorem put_journalSeq (s : State) (l : LinkId) (m : Message) :
    (s.put l m).journalSeq = s.journalSeq := by rw [put_frame]
@[simp] theorem put_overwrites (s : State) (l : LinkId) (m : Message) :
    (s.put l m).overwrites = s.overwrites := by rw [put_frame]
@[simp] theorem put_mode (s : State) (l : LinkId) (m : Message) :
    (s.put l m).mode = s.mode := by rw [put_frame]
@[simp] theorem put_params (s : State) (l : LinkId) (m : Message) :
    (s.put l m).params = s.params := by rw [put_frame]
@[simp] theorem put_seconds (s : State) (l : LinkId) (m : Message) :
    (s.put l m).seconds = s.seconds := by rw [put_frame]
@[simp] theorem put_secondLeft (s : State) (l : LinkId) (m : Message) :
    (s.put l m).secondLeft = s.secondLeft := by rw [put_frame]
@[simp] theorem put_refusals (s : State) (l : LinkId) (m : Message) :
    (s.put l m).refusals = s.refusals := by rw [put_frame]
@[simp] theorem put_resetLow (s : State) (l : LinkId) (m : Message) :
    (s.put l m).resetLow = s.resetLow := by rw [put_frame]
@[simp] theorem put_freeIndex (s : State) (l : LinkId) (m : Message) :
    (s.put l m).freeIndex = s.freeIndex := by rw [put_frame]
@[simp] theorem put_pending (s : State) (l : LinkId) (m : Message) :
    (s.put l m).pending = s.pending := by rw [put_frame]
@[simp] theorem put_call (s : State) (l : LinkId) (m : Message) (n : CallNo) :
    (s.put l m).call n = s.call n := by rw [put_frame]; rfl
@[simp] theorem put_handset (s : State) (l : LinkId) (m : Message) (i : Fin 8) (j : Fin 63) :
    (s.put l m).handset i j = s.handset i j := by rw [put_frame]; rfl
@[simp] theorem put_station (s : State) (l : LinkId) (m : Message) (i : Fin 4) (j : Fin 2) :
    (s.put l m).station i j = s.station i j := by rw [put_frame]; rfl
@[simp] theorem put_position (s : State) (l : LinkId) (m : Message) (i : Fin 6) :
    (s.put l m).position i = s.position i := by rw [put_frame]; rfl
@[simp] theorem put_scheduler (s : State) (l : LinkId) (m : Message) (i : Fin 8) :
    (s.put l m).scheduler i = s.scheduler i := by rw [put_frame]; rfl
@[simp] theorem put_channel (s : State) (l : LinkId) (m : Message) (i : Fin 8) (j : Fin 4) :
    (s.put l m).channel i j = s.channel i j := by rw [put_frame]; rfl
@[simp] theorem put_seekQueue (s : State) (l : LinkId) (m : Message) (i : Fin 8) :
    (s.put l m).seekQueue i = s.seekQueue i := by rw [put_frame]; rfl
@[simp] theorem put_door (s : State) (l : LinkId) (m : Message) (i : Fin 4) :
    (s.put l m).door i = s.door i := by rw [put_frame]; rfl
@[simp] theorem put_turn (s : State) (l : LinkId) (m : Message) (i : Fin 8) :
    (s.put l m).turn i = s.turn i := by rw [put_frame]; rfl

/-! ### Line bits (R142) -/

/-- What the receiver does with one octet's line bits, whatever bit `stop` arrives in the place of its stop bit: it passes
the octet up as received, and is at rest only after a 1. -/
theorem receiver_octet (t : Nat) (o : Octet) (stop : Bool) (rest : List Bool) :
    Receiver.bits t .rest (false :: ((List.range 8).map o.getLsbD ++ stop :: rest)) =
      ((Receiver.bits (t + 10) (if stop then .rest else .broken) rest).1,
        ⟨t, o⟩ :: (Receiver.bits (t + 10) (if stop then .rest else .broken) rest).2) := by
  have h : octetOfBits ((List.range 8).map o.getLsbD) = o := by revert o; decide +kernel
  simp [List.range_succ] at h
  simp [List.range_succ, Receiver.bits, Receiver.bit, h]

/-- Octets sent without a pause are recovered whole, each at its own octet time. -/
theorem receiver_lineBits (t : Nat) (os : List Octet) (rest : List Bool) :
    Receiver.bits t .rest (lineBits os ++ rest) =
      ((Receiver.bits (t + 10 * os.length) .rest rest).1,
        (os.zipIdx.map fun x => ⟨(t + 10 * x.2 : Nat), x.1⟩) ++ (Receiver.bits (t + 10 * os.length) .rest rest).2) := by
  induction os generalizing t with
  | nil => simp [lineBits]
  | cons o os ih =>
    have e : lineBits (o :: os) ++ rest = false :: ((List.range 8).map o.getLsbD ++ true :: (lineBits os ++ rest)) := by
      simp [lineBits, octetBits]
    rw [e, receiver_octet, if_pos rfl, ih]
    have h : t + 10 + 10 * os.length = t + 10 * (o :: os).length := by simp; omega
    simp only [h, List.zipIdx_cons, List.map_cons, List.cons_append, Nat.mul_zero, Nat.add_zero, Prod.mk.injEq,
      List.cons.injEq, true_and, List.append_cancel_right_eq]
    rw [List.zipIdx_succ, List.map_map]
    refine List.map_congr_left fun x _ => ?_
    simp; omega

/-- A line at the stop level brings nothing to a receiver at rest. -/
theorem receiver_silent (t k : Nat) : Receiver.bits t .rest (List.replicate k true) = (.rest, []) := by
  induction k generalizing t with
  | zero => rfl
  | succ k ih => simp [List.replicate_succ, Receiver.bits, Receiver.bit, ih]

/-- The line bits of octets from the start of a frame period, then the stop level, at a receiver at rest. -/
theorem receiver_period (os : List Octet) (k : Nat) :
    Receiver.period .rest (lineBits os ++ List.replicate k true) =
      (.rest, os.zipIdx.map fun x => ⟨(10 * x.2 : Nat), x.1⟩) := by
  simp [Receiver.period, Receiver.later, receiver_lineBits, receiver_silent]

/-- The link unit after a frame period of such octets. -/
theorem received_lineBits {u : LinkUnit} (h : u.receiver = .rest) (os : List Octet) (k : Nat) :
    u.received (lineBits os ++ List.replicate k true) = { u with unclassed := u.unclassed - 1 } := by
  simp [LinkUnit.received, h, receiver_period]

/-- The octets that arrive in a frame period of silence: none. -/
theorem period_silentBits (l : LinkId) : Receiver.period .rest l.silentBits = (.rest, []) := by
  simpa [lineBits, LinkId.silentBits] using receiver_period [] l.frameBits

/-- Octets sent without a pause from the start of a frame that ends with its period of `n` line bits stand at its places. -/
theorem placedOctets_lineBits (os : List Octet) (n : Nat) (h : 10 * os.length ≤ n) :
    placedOctets n n (os.zipIdx.map fun x => ⟨(10 * x.2 : Nat), x.1⟩) = os := by
  have f : ((os.zipIdx.map fun x => (⟨(10 * x.2 : Nat), x.1⟩ : Arrival)).filter fun a =>
      decide ((n : Int) ≤ a.start + n ∧ a.start + Config.lineBitsPerOctet ≤ (n : Int))) =
      os.zipIdx.map fun x => ⟨(10 * x.2 : Nat), x.1⟩ := by
    rw [List.filter_eq_self]
    intro a ha
    obtain ⟨⟨o, i⟩, hi, rfl⟩ := List.mem_map.mp ha
    have := List.snd_lt_of_mem_zipIdx hi
    simp [Config.lineBitsPerOctet]
    omega
  have e : os.zipIdx.map (fun x : Octet × Nat => x.1) = os := by simp [← List.unzip_fst]
  unfold placedOctets
  rw [f]
  cases os with
  | nil => rfl
  | cons o os =>
    simp only [List.zipIdx_cons, List.map_cons, List.map_map, Function.comp_def] at e ⊢
    rw [if_pos (by simp [Config.lineBitsPerOctet])]
    exact e

/-! ### The end of an event (R189) -/

@[simp] theorem gains_self (x : Octet) : gains x x = false := by
  simp [gains]

/-- The end of an event sends at most two ATTENTIONs on the trunk. -/
theorem settle_cases (s before : State) :
    s.settle before = s ∨ s.settle before = s.put .trunk (attentionMsg s.maskedPending) ∨
      s.settle before =
        (s.put .trunk (attentionMsg s.maskedPending)).put .trunk
          (attentionMsg (s.put .trunk (attentionMsg s.maskedPending)).maskedPending) := by
  unfold State.settle
  split
  · dsimp only
    split
    · exact .inr (.inr rfl)
    · exact .inr (.inl rfl)
  · exact .inl rfl

/-- An event that raises nothing new in the mask ends as it stands. -/
theorem settle_of_not_gains {s before : State} (h : gains before.maskedPending s.maskedPending = false) :
    s.settle before = s := by simp [State.settle, h]

/-- The end of an event changes the link units and the pending set, and nothing else. -/
theorem settle_frame (s before : State) :
    s.settle before = { s with links := (s.settle before).links, attention := (s.settle before).attention } := by
  rcases settle_cases s before with e | e | e
  · rw [e]
  · rw [e, put_frame]
  · rw [e, put_frame, put_frame s]

@[simp] theorem settle_directory (s : State) (before : State) :
    (s.settle before).directory = s.directory := by rw [settle_frame]
@[simp] theorem settle_deskQueue (s : State) (before : State) :
    (s.settle before).deskQueue = s.deskQueue := by rw [settle_frame]
@[simp] theorem settle_idleOrder (s : State) (before : State) :
    (s.settle before).idleOrder = s.idleOrder := by rw [settle_frame]
@[simp] theorem settle_journal (s : State) (before : State) :
    (s.settle before).journal = s.journal := by rw [settle_frame]
@[simp] theorem settle_journalSeq (s : State) (before : State) :
    (s.settle before).journalSeq = s.journalSeq := by rw [settle_frame]
@[simp] theorem settle_overwrites (s : State) (before : State) :
    (s.settle before).overwrites = s.overwrites := by rw [settle_frame]
@[simp] theorem settle_mode (s : State) (before : State) :
    (s.settle before).mode = s.mode := by rw [settle_frame]
@[simp] theorem settle_params (s : State) (before : State) :
    (s.settle before).params = s.params := by rw [settle_frame]
@[simp] theorem settle_seconds (s : State) (before : State) :
    (s.settle before).seconds = s.seconds := by rw [settle_frame]
@[simp] theorem settle_secondLeft (s : State) (before : State) :
    (s.settle before).secondLeft = s.secondLeft := by rw [settle_frame]
@[simp] theorem settle_refusals (s : State) (before : State) :
    (s.settle before).refusals = s.refusals := by rw [settle_frame]
@[simp] theorem settle_resetLow (s : State) (before : State) :
    (s.settle before).resetLow = s.resetLow := by rw [settle_frame]
@[simp] theorem settle_freeIndex (s : State) (before : State) :
    (s.settle before).freeIndex = s.freeIndex := by rw [settle_frame]
@[simp] theorem settle_pending (s : State) (before : State) :
    (s.settle before).pending = s.pending := by rw [settle_frame]
@[simp] theorem settle_call (s : State) (before : State) (n : CallNo) :
    (s.settle before).call n = s.call n := by rw [settle_frame]; rfl
@[simp] theorem settle_handset (s : State) (before : State) (i : Fin 8) (j : Fin 63) :
    (s.settle before).handset i j = s.handset i j := by rw [settle_frame]; rfl
@[simp] theorem settle_station (s : State) (before : State) (i : Fin 4) (j : Fin 2) :
    (s.settle before).station i j = s.station i j := by rw [settle_frame]; rfl
@[simp] theorem settle_position (s : State) (before : State) (i : Fin 6) :
    (s.settle before).position i = s.position i := by rw [settle_frame]; rfl
@[simp] theorem settle_scheduler (s : State) (before : State) (i : Fin 8) :
    (s.settle before).scheduler i = s.scheduler i := by rw [settle_frame]; rfl
@[simp] theorem settle_channel (s : State) (before : State) (i : Fin 8) (j : Fin 4) :
    (s.settle before).channel i j = s.channel i j := by rw [settle_frame]; rfl
@[simp] theorem settle_seekQueue (s : State) (before : State) (i : Fin 8) :
    (s.settle before).seekQueue i = s.seekQueue i := by rw [settle_frame]; rfl
@[simp] theorem settle_door (s : State) (before : State) (i : Fin 4) :
    (s.settle before).door i = s.door i := by rw [settle_frame]; rfl
@[simp] theorem settle_turn (s : State) (before : State) (i : Fin 8) :
    (s.settle before).turn i = s.turn i := by rw [settle_frame]; rfl

@[simp] theorem settle_link_ne (s before : State) {k : LinkId} (h : k ≠ .trunk) :
    (s.settle before).link k = s.link k := by
  rcases settle_cases s before with e | e | e <;> rw [e] <;> simp [h]

/-! ### The receive queue (R162, R164) -/

/-- Everything a complete good message can do to its link unit. -/
theorem enqueue_cases (s : State) (l : LinkId) (m : Message) :
    ((s.link l).rx.length < 4 ∧ s.enqueue l m = s.setLink l { s.link l with rx := (s.link l).rx ++ [.message m] }) ∨
      (4 ≤ (s.link l).rx.length ∧ (s.link l).holding = none ∧
        s.enqueue l m = s.setLink l { s.link l with holding := some m }) ∨
      (4 ≤ (s.link l).rx.length ∧ (s.link l).holding ≠ none ∧
        s.enqueue l m =
          (s.setLink l { s.link l with holding := some m, overruns := countUp (s.link l).overruns }).raise .fault) := by
  unfold State.enqueue
  by_cases h : (s.link l).rx.length < 4
  · simp [h, Config.receivePlaces]
  · by_cases h' : (s.link l).holding = none
    · simp [h, h', Config.receivePlaces, Nat.not_lt.mp h]
    · simp [h, h', Config.receivePlaces, Nat.not_lt.mp h]

/-- A head that leaves makes no queue longer than its places. -/
theorem dropHead_rx_length (u : LinkUnit) (h : u.rx.length ≤ 4) : u.dropHead.rx.length ≤ 4 := by
  unfold LinkUnit.dropHead
  split
  · simp only [List.length_append, List.length_tail, List.length_cons, List.length_nil]; omega
  · simp only [List.length_tail]; omega

@[simp] theorem dropHead_tx (u : LinkUnit) : u.dropHead.tx = u.tx := by unfold LinkUnit.dropHead; split <;> rfl
@[simp] theorem dropHead_state (u : LinkUnit) : u.dropHead.state = u.state := by unfold LinkUnit.dropHead; split <;> rfl

theorem removeHead_of_head {s : State} {l : LinkId} {e : RxEntry} (h : (s.link l).rx.head? = some e) :
    s.removeHead l e = s.setLink l (s.link l).dropHead := by simp [State.removeHead, h]

theorem removeHead_of_ne {s : State} {l : LinkId} {e : RxEntry} (h : (s.link l).rx.head? ≠ some e) :
    s.removeHead l e = s := by simp [State.removeHead, h]

/-! ### A delivery (R164) -/

/-- What a delivery does when its message is the next one. -/
theorem deliver_of_deliverable {s : State} {l : LinkId} {m : Message} (f : State → State)
    (h : s.deliverable l m = true) :
    s.deliver l m f = ((f (s.arrived l m)).settle (s.arrived l m)).removeHead l (.message m) := by simp [State.deliver, h]

/-- A delivery of another message changes nothing. -/
theorem deliver_of_not {s : State} {l : LinkId} {m : Message} (f : State → State) (h : s.deliverable l m = false) :
    s.deliver l m f = s := by simp [State.deliver, h]

/-- A message that stands for delivery is at the head once it has arrived. -/
theorem arrived_head {s : State} {l : LinkId} {m : Message} (h : s.deliverable l m = true) :
    ((s.arrived l m).link l).rx.head? = some (.message m) := by
  unfold State.deliverable at h
  unfold State.arrived
  cases hr : (s.link l).rx with
  | nil => simp
  | cons e rest => rw [hr] at h; simp [hr, of_decide_eq_true h]

/-- Arrival changes the receive queue of its link alone. -/
theorem arrived_frame (s : State) (l : LinkId) (m : Message) :
    s.arrived l m = { s with links := (s.arrived l m).links } := by
  unfold State.arrived
  split <;> rfl

@[simp] theorem arrived_link_ne (s : State) {l k : LinkId} (m : Message) (h : k ≠ l) :
    (s.arrived l m).link k = s.link k := by
  unfold State.arrived; split <;> simp [h]

@[simp] theorem arrived_attention (s : State) (l : LinkId) (m : Message) : (s.arrived l m).attention = s.attention := by
  rw [arrived_frame]
@[simp] theorem arrived_directory (s : State) (l : LinkId) (m : Message) :
    (s.arrived l m).directory = s.directory := by rw [arrived_frame]
@[simp] theorem arrived_deskQueue (s : State) (l : LinkId) (m : Message) :
    (s.arrived l m).deskQueue = s.deskQueue := by rw [arrived_frame]
@[simp] theorem arrived_idleOrder (s : State) (l : LinkId) (m : Message) :
    (s.arrived l m).idleOrder = s.idleOrder := by rw [arrived_frame]
@[simp] theorem arrived_journal (s : State) (l : LinkId) (m : Message) :
    (s.arrived l m).journal = s.journal := by rw [arrived_frame]
@[simp] theorem arrived_journalSeq (s : State) (l : LinkId) (m : Message) :
    (s.arrived l m).journalSeq = s.journalSeq := by rw [arrived_frame]
@[simp] theorem arrived_overwrites (s : State) (l : LinkId) (m : Message) :
    (s.arrived l m).overwrites = s.overwrites := by rw [arrived_frame]
@[simp] theorem arrived_mode (s : State) (l : LinkId) (m : Message) :
    (s.arrived l m).mode = s.mode := by rw [arrived_frame]
@[simp] theorem arrived_params (s : State) (l : LinkId) (m : Message) :
    (s.arrived l m).params = s.params := by rw [arrived_frame]
@[simp] theorem arrived_seconds (s : State) (l : LinkId) (m : Message) :
    (s.arrived l m).seconds = s.seconds := by rw [arrived_frame]
@[simp] theorem arrived_secondLeft (s : State) (l : LinkId) (m : Message) :
    (s.arrived l m).secondLeft = s.secondLeft := by rw [arrived_frame]
@[simp] theorem arrived_refusals (s : State) (l : LinkId) (m : Message) :
    (s.arrived l m).refusals = s.refusals := by rw [arrived_frame]
@[simp] theorem arrived_resetLow (s : State) (l : LinkId) (m : Message) :
    (s.arrived l m).resetLow = s.resetLow := by rw [arrived_frame]
@[simp] theorem arrived_freeIndex (s : State) (l : LinkId) (m : Message) :
    (s.arrived l m).freeIndex = s.freeIndex := by rw [arrived_frame]
@[simp] theorem arrived_pending (s : State) (l : LinkId) (m : Message) :
    (s.arrived l m).pending = s.pending := by rw [arrived_frame]
@[simp] theorem arrived_call (s : State) (l : LinkId) (m : Message) (n : CallNo) :
    (s.arrived l m).call n = s.call n := by rw [arrived_frame]; rfl
@[simp] theorem arrived_handset (s : State) (l : LinkId) (m : Message) (i : Fin 8) (j : Fin 63) :
    (s.arrived l m).handset i j = s.handset i j := by rw [arrived_frame]; rfl
@[simp] theorem arrived_station (s : State) (l : LinkId) (m : Message) (i : Fin 4) (j : Fin 2) :
    (s.arrived l m).station i j = s.station i j := by rw [arrived_frame]; rfl
@[simp] theorem arrived_position (s : State) (l : LinkId) (m : Message) (i : Fin 6) :
    (s.arrived l m).position i = s.position i := by rw [arrived_frame]; rfl
@[simp] theorem arrived_scheduler (s : State) (l : LinkId) (m : Message) (i : Fin 8) :
    (s.arrived l m).scheduler i = s.scheduler i := by rw [arrived_frame]; rfl
@[simp] theorem arrived_channel (s : State) (l : LinkId) (m : Message) (i : Fin 8) (j : Fin 4) :
    (s.arrived l m).channel i j = s.channel i j := by rw [arrived_frame]; rfl
@[simp] theorem arrived_seekQueue (s : State) (l : LinkId) (m : Message) (i : Fin 8) :
    (s.arrived l m).seekQueue i = s.seekQueue i := by rw [arrived_frame]; rfl
@[simp] theorem arrived_door (s : State) (l : LinkId) (m : Message) (i : Fin 4) :
    (s.arrived l m).door i = s.door i := by rw [arrived_frame]; rfl
@[simp] theorem arrived_turn (s : State) (l : LinkId) (m : Message) (i : Fin 8) :
    (s.arrived l m).turn i = s.turn i := by rw [arrived_frame]; rfl

/-! ### Searches -/

theorem find?_isSome_first {α : Type} (p : α → Bool) (a : α) (l : List α) (h : l.find? p = some a) :
    p a = true ∧ ∃ xs ys, l = xs ++ a :: ys ∧ ∀ x ∈ xs, p x = false := by
  obtain ⟨h1, xs, ys, h2, h3⟩ := List.find?_eq_some_iff_append.mp h
  exact ⟨h1, xs, ys, h2, fun x hx => by simpa using h3 x hx⟩

/-- The lowest-numbered IDLE record, where there is one (R3). -/
theorem lowestIdle_of_firstIdle {s : State} {n : CallNo} (h : s.FirstIdle n) : s.lowestIdle = some n := by
  obtain ⟨h0, h1⟩ := h
  unfold State.lowestIdle
  have e : allCalls = List.finRange 16 := by decide
  rw [e, List.find?_eq_some_iff_getElem]
  refine ⟨by simp [h0], n.val, by simp, by simp, fun j hj => ?_⟩
  have := h1 ⟨j, by omega⟩ hj
  simpa using this

/-- The lowest-numbered FREE channel, where there is one (R73). -/
theorem lowestFree_of_firstFree {s : State} {r : Fin 8} {c : Fin 4} (h : s.FirstFree r c) :
    s.lowestFree r = some c := by
  obtain ⟨h0, h1⟩ := h
  unfold State.lowestFree
  have e : allChannels = List.finRange 4 := by decide
  rw [e, List.find?_eq_some_iff_getElem]
  refine ⟨by simp [h0], c.val, by simp, by simp, fun j hj => ?_⟩
  have := h1 ⟨j, by omega⟩ hj
  simpa [Option.isSome_iff_ne_none] using this

/-! ### Terms of the claims -/

@[simp] theorem outFor_nil (k : LinkId) : outFor k [] = [] := rfl

@[simp] theorem outFor_cons_self (k : LinkId) (m : Message) (out : List (LinkId × Message)) :
    outFor k ((k, m) :: out) = m :: outFor k out := by simp [outFor]

@[simp] theorem outFor_cons_ne {k l : LinkId} (m : Message) (out : List (LinkId × Message)) (h : l ≠ k) :
    outFor k ((l, m) :: out) = outFor k out := by simp [outFor, h]

@[simp] theorem withTx_nil (u : LinkUnit) : u.withTx [] = u := by simp [LinkUnit.withTx]

theorem withTx_withTx (u : LinkUnit) (a b : List Message) : (u.withTx a).withTx b = u.withTx (a ++ b) := by
  simp [LinkUnit.withTx]

end Sys2Proof.Machine
end

