-- ==== Sys2Proof/Laws/PerInstr.lean ====
section
/-!
SUPPORT. Laws of the commands as syntax, one lemma for each constructor. DeliveryFits: the message that a well-formed
command delivers has a payload the envelope admits (R158); a party's message fits the catalogue of its link unless the
command is the one that discards it (R165); a request comes at the management address (R174).
-/

namespace Sys2Proof.Laws.DeliveryFits

open Sys2Proof.Machine

/-- Whether a command is the discard of a message. -/
def discards : Instr → Bool
  | .catalogueDiscard _ _ => true
  | _ => false

/-- What the family says of one command. -/
def Statement (i : Instr) : Prop :=
  wellFormed i = true → ∀ l m, i.delivery = some (l, m) →
    m.payload.length ≤ 24 ∧ (m.addr = 63#8 ∨ fitsCatalogue l m = !discards i)

theorem payload_of {args : List Octet} (h : payloadOk args = true) : args.length ≤ 24 := of_decide_eq_true h

theorem powerOn : Statement .powerOn := by
  intro _ l m h; cases h

theorem upstreamFrame (l : LinkId) (bits : List Bool) : Statement (.upstreamFrame l bits) := by
  intro _ l m h; cases h

theorem downstreamFrame (l : LinkId) : Statement (.downstreamFrame l) := by
  intro _ l m h; cases h

theorem voiceFramePeriod : Statement .voiceFramePeriod := by
  intro _ l m h; cases h

theorem hangCounterExpiry (n : CallNo) : Statement (.hangCounterExpiry n) := by
  intro _ l m h; cases h

theorem turnBegin (r : Fin 8) : Statement (.turnBegin r) := by
  intro _ l m h; cases h

theorem turnTimeout (r : Fin 8) : Statement (.turnTimeout r) := by
  intro _ l m h; cases h

theorem turnLimit (r : Fin 8) : Statement (.turnLimit r) := by
  intro _ l m h; cases h

theorem keyDigit (p : Fin 4) (a : Octet) (d : Fin 10) : Statement (.keyDigit p a d) := by
  intro _ l m h
  cases h
  have := d.isLt
  refine ⟨by simp [keyMsg], .inr ?_⟩
  simp [keyMsg, fitsCatalogue, fitsStation, discards]; omega

theorem keyCall (p : Fin 4) (a : Octet) : Statement (.keyCall p a) := by
  intro _ l m h
  cases h
  exact ⟨Nat.le_of_ble_eq_true rfl, .inr rfl⟩

theorem keyCancel (p : Fin 4) (a : Octet) : Statement (.keyCancel p a) := by
  intro _ l m h
  cases h
  exact ⟨Nat.le_of_ble_eq_true rfl, .inr rfl⟩

theorem keyDesk (p : Fin 4) (a : Octet) : Statement (.keyDesk p a) := by
  intro _ l m h
  cases h
  exact ⟨Nat.le_of_ble_eq_true rfl, .inr rfl⟩

theorem doorOpen (p : Fin 4) (a : Octet) : Statement (.doorOpen p a) := by
  intro _ l m h
  cases h
  exact ⟨Nat.le_of_ble_eq_true rfl, .inr rfl⟩

theorem doorShut (p : Fin 4) (a : Octet) : Statement (.doorShut p a) := by
  intro _ l m h
  cases h
  exact ⟨Nat.le_of_ble_eq_true rfl, .inr rfl⟩

theorem hello (r : Fin 8) (a : Fin 63) (report : HandsetReport) (quiet : Bool) : Statement (.hello r a report quiet) := by
  intro _ l m h
  cases h
  have := a.isLt
  refine ⟨Nat.le_of_ble_eq_true rfl, .inr ?_⟩
  cases report <;> cases quiet <;> simp [fitsCatalogue, fitsHandset, discards, flagOctet, HandsetReport.code] <;> omega

theorem answer (t : Talker) : Statement (.answer t) := by
  intro _ l m h
  cases t with
  | handset r a =>
    cases h
    have := a.isLt
    refine ⟨by simp [bareMsg], .inr ?_⟩
    simp [Talker.link, Talker.addr, bareMsg, fitsCatalogue, fitsHandset, discards]; omega
  | position a =>
    cases h
    exact ⟨Nat.le_of_ble_eq_true rfl, .inr rfl⟩

theorem hangup (t : Talker) : Statement (.hangup t) := by
  intro _ l m h
  cases t with
  | handset r a =>
    cases h
    have := a.isLt
    refine ⟨by simp [bareMsg], .inr ?_⟩
    simp [Talker.link, Talker.addr, bareMsg, fitsCatalogue, fitsHandset, discards]; omega
  | position a =>
    cases h
    exact ⟨Nat.le_of_ble_eq_true rfl, .inr rfl⟩

theorem openDoor (t : Talker) : Statement (.openDoor t) := by
  intro _ l m h
  cases t with
  | handset r a =>
    cases h
    have := a.isLt
    refine ⟨by simp [bareMsg], .inr ?_⟩
    simp [Talker.link, Talker.addr, bareMsg, fitsCatalogue, fitsHandset, discards]; omega
  | position a =>
    cases h
    exact ⟨Nat.le_of_ble_eq_true rfl, .inr rfl⟩

theorem callDesk (r : Fin 8) (a : Fin 63) : Statement (.callDesk r a) := by
  intro _ l m h
  cases h
  have := a.isLt
  refine ⟨Nat.le_of_ble_eq_true rfl, .inr ?_⟩
  simp [bareMsg, fitsCatalogue, fitsHandset, discards]; omega

theorem quiet (r : Fin 8) (a : Fin 63) (on : Bool) : Statement (.quiet r a on) := by
  intro _ l m h
  cases h
  have := a.isLt
  refine ⟨Nat.le_of_ble_eq_true rfl, .inr ?_⟩
  cases on <;> simp [fitsCatalogue, fitsHandset, discards, flagOctet] <;> omega

theorem extend (t : Talker) : Statement (.extend t) := by
  intro _ l m h
  cases t with
  | handset r a =>
    cases h
    have := a.isLt
    refine ⟨by simp [bareMsg], .inr ?_⟩
    simp [Talker.link, Talker.addr, bareMsg, fitsCatalogue, fitsHandset, discards]; omega
  | position a =>
    cases h
    exact ⟨Nat.le_of_ble_eq_true rfl, .inr rfl⟩

theorem logon (a : Octet) : Statement (.logon a) := by
  intro _ l m h
  cases h
  exact ⟨Nat.le_of_ble_eq_true rfl, .inr rfl⟩

theorem logoff (a : Octet) : Statement (.logoff a) := by
  intro _ l m h
  cases h
  exact ⟨Nat.le_of_ble_eq_true rfl, .inr rfl⟩

theorem dial (a : Octet) (code : CodeField) : Statement (.dial a code) := by
  intro _ l m h
  cases h
  exact ⟨Nat.le_of_ble_eq_true rfl, .inr rfl⟩

theorem join (a : Octet) (call : Octet) : Statement (.join a call) := by
  intro _ l m h
  cases h
  exact ⟨Nat.le_of_ble_eq_true rfl, .inr rfl⟩

theorem catalogueDiscard (l : LinkId) (m : Message) : Statement (.catalogueDiscard l m) := by
  intro hw l' m' h
  cases h
  replace hw : discardOk l m = true := hw
  simp only [discardOk, payloadOk, Bool.and_eq_true, Bool.not_eq_true', decide_eq_true_eq] at hw
  exact ⟨hw.1.2, .inr (by simp [hw.2, discards])⟩

theorem lostMarker (l : LinkId) : Statement (.lostMarker l) := by
  intro _ l m h; cases h

theorem managementRefused (l : LinkId) (type : Octet) (args : List Octet) : Statement (.managementRefused l type args) := by
  intro hw l' m h
  cases h
  exact ⟨payload_of hw, .inl rfl⟩

theorem unknownRequest (l : LinkId) (type : Octet) (args : List Octet) : Statement (.unknownRequest l type args) := by
  intro hw l' m h
  cases h
  exact ⟨payload_of (Bool.and_eq_true_iff.mp hw).2, .inl rfl⟩

theorem start (l : LinkId) (args : List Octet) : Statement (.start l args) := by
  intro hw l' m h
  cases h
  exact ⟨payload_of hw, .inl rfl⟩

theorem stop (l : LinkId) (args : List Octet) : Statement (.stop l args) := by
  intro hw l' m h
  cases h
  exact ⟨payload_of hw, .inl rfl⟩

theorem restart (l : LinkId) (args : List Octet) : Statement (.restart l args) := by
  intro hw l' m h
  cases h
  exact ⟨payload_of hw, .inl rfl⟩

theorem status (l : LinkId) (args : List Octet) : Statement (.status l args) := by
  intro hw l' m h
  cases h
  exact ⟨payload_of hw, .inl rfl⟩

theorem set (l : LinkId) (args : List Octet) : Statement (.set l args) := by
  intro hw l' m h
  cases h
  exact ⟨payload_of hw, .inl rfl⟩

theorem get (l : LinkId) (args : List Octet) : Statement (.get l args) := by
  intro hw l' m h
  cases h
  exact ⟨payload_of hw, .inl rfl⟩

theorem dirPut (l : LinkId) (args : List Octet) : Statement (.dirPut l args) := by
  intro hw l' m h
  cases h
  exact ⟨payload_of hw, .inl rfl⟩

theorem dirDel (l : LinkId) (args : List Octet) : Statement (.dirDel l args) := by
  intro hw l' m h
  cases h
  exact ⟨payload_of hw, .inl rfl⟩

theorem dirGet (l : LinkId) (args : List Octet) : Statement (.dirGet l args) := by
  intro hw l' m h
  cases h
  exact ⟨payload_of hw, .inl rfl⟩

theorem dirNext (l : LinkId) (args : List Octet) : Statement (.dirNext l args) := by
  intro hw l' m h
  cases h
  exact ⟨payload_of hw, .inl rfl⟩

theorem partyGet (l : LinkId) (args : List Octet) : Statement (.partyGet l args) := by
  intro hw l' m h
  cases h
  exact ⟨payload_of hw, .inl rfl⟩

theorem partySet (l : LinkId) (args : List Octet) : Statement (.partySet l args) := by
  intro hw l' m h
  cases h
  exact ⟨payload_of hw, .inl rfl⟩

theorem callGet (l : LinkId) (args : List Octet) : Statement (.callGet l args) := by
  intro hw l' m h
  cases h
  exact ⟨payload_of hw, .inl rfl⟩

theorem callClear (l : LinkId) (args : List Octet) : Statement (.callClear l args) := by
  intro hw l' m h
  cases h
  exact ⟨payload_of hw, .inl rfl⟩

theorem linkGet (l : LinkId) (args : List Octet) : Statement (.linkGet l args) := by
  intro hw l' m h
  cases h
  exact ⟨payload_of hw, .inl rfl⟩

theorem linkReset (l : LinkId) (args : List Octet) : Statement (.linkReset l args) := by
  intro hw l' m h
  cases h
  exact ⟨payload_of hw, .inl rfl⟩

theorem clearCounts (l : LinkId) (args : List Octet) : Statement (.clearCounts l args) := by
  intro hw l' m h
  cases h
  exact ⟨payload_of hw, .inl rfl⟩

theorem journalRead (l : LinkId) (args : List Octet) : Statement (.journalRead l args) := by
  intro hw l' m h
  cases h
  exact ⟨payload_of hw, .inl rfl⟩

theorem ackAttention (l : LinkId) (args : List Octet) : Statement (.ackAttention l args) := by
  intro hw l' m h
  cases h
  exact ⟨payload_of hw, .inl rfl⟩

theorem setTime (l : LinkId) (args : List Octet) : Statement (.setTime l args) := by
  intro hw l' m h
  cases h
  exact ⟨payload_of hw, .inl rfl⟩

theorem digitTimerExpiry (n : CallNo) : Statement (.digitTimerExpiry n) := by
  intro _ l m h; cases h

theorem seekTimerExpiry (n : CallNo) : Statement (.seekTimerExpiry n) := by
  intro _ l m h; cases h

theorem campTimerExpiry (n : CallNo) : Statement (.campTimerExpiry n) := by
  intro _ l m h; cases h

theorem alertTimerExpiry (n : CallNo) : Statement (.alertTimerExpiry n) := by
  intro _ l m h; cases h

theorem deskRingExpiry (n : CallNo) : Statement (.deskRingExpiry n) := by
  intro _ l m h; cases h

theorem deskWaitExpiry (n : CallNo) : Statement (.deskWaitExpiry n) := by
  intro _ l m h; cases h

theorem talkCountWarning (n : CallNo) : Statement (.talkCountWarning n) := by
  intro _ l m h; cases h

theorem timeLimit (n : CallNo) : Statement (.timeLimit n) := by
  intro _ l m h; cases h

theorem releaseTimerExpiry (p : Fin 4) : Statement (.releaseTimerExpiry p) := by
  intro _ l m h; cases h

theorem heldOpenExpiry (p : Fin 4) : Statement (.heldOpenExpiry p) := by
  intro _ l m h; cases h

theorem holdOffWaitExpiry (l : LinkId) : Statement (.holdOffWaitExpiry l) := by
  intro _ l m h; cases h

theorem secondsTick : Statement .secondsTick := by
  intro _ l m h; cases h

theorem channelGrant (r : Fin 8) (c : Fin 4) : Statement (.channelGrant r c) := by
  intro _ l m h; cases h

theorem campWake (r : Fin 8) (a : Fin 63) : Statement (.campWake r a) := by
  intro _ l m h; cases h

theorem deskQueueWake : Statement .deskQueueWake := by
  intro _ l m h; cases h

theorem drainEnd : Statement .drainEnd := by
  intro _ l m h; cases h

theorem resetAsserted : Statement .resetAsserted := by
  intro _ l m h; cases h

end Sys2Proof.Laws.DeliveryFits
end

