-- ==== Sys2Proof/Tests/Slice0.lean ====
section
/-!
SUPPORT. The row's own tests: the smoke test of WellFormed, worked figures of the manual, one step of a command on a
small state, and a witness for the hypotheses of every obligation that has any. Expected values come from the manual.
-/

namespace Sys2Proof.Tests

set_option Elab.async false

open Sys2Proof Sys2Proof.Machine

/-! ### WellFormed refuses an ill-formed term for each check -/

theorem test_wellFormed_partyAddress : wellFormed (.keyCall 0 63#8) = false := by decide
theorem test_wellFormed_frameBits : wellFormed (.upstreamFrame (.panel 0) (List.replicate 69 true)) = false := by decide
theorem test_wellFormed_payload : wellFormed (.start .trunk (List.replicate 25 0#8)) = false := by decide
theorem test_wellFormed_talker : wellFormed (.answer (.position 63#8)) = false := by decide
theorem test_wellFormed_discard : wellFormed (.catalogueDiscard (.panel 0) (keyMsg 0#8 0x0C#8)) = false := by decide
theorem test_wellFormed_unknownType : wellFormed (.unknownRequest .trunk 0x93#8 []) = false := by decide
theorem test_wellFormed_accepts : wellFormed (.unknownRequest .trunk 0x94#8 []) = true := by decide
theorem test_decode_none : decodeTableWord 8 0x5A = none := by decide

/-! ### Worked figures of the manual -/

/-- The check of the digits 1-9 with this polynomial, start and no reflection (R159). -/
theorem test_check : crc [0x31#8, 0x32#8, 0x33#8, 0x34#8, 0x35#8, 0x36#8, 0x37#8, 0x38#8, 0x39#8] = 0x29B1#16 := by
  decide +kernel
/-- 212 encodes as 0x3A and decodes to 212; -60 encodes as 0x9E and decodes to -61 (6-2). -/
theorem test_sample_212 : encodeSample 212 = 0x3A#8 ∧ decodeSample 0x3A#8 = 212 := by decide
theorem test_sample_minus60 : encodeSample (-60) = 0x9E#8 ∧ decodeSample 0x9E#8 = -61 := by decide
/-- -86 attenuated by step 1 gives -60; 4032 by step 7 gives 362 (6-3). -/
theorem test_attenuate : attenuate 1 (-86) = -60 ∧ attenuate 7 4032 = 362 := by decide
/-- Twelve codes of Table 2-2 stand in dial order: a proper prefix first, then the smaller digit. -/
theorem test_dialOrder :
    (dialBefore [0] [0, 7] && dialBefore [0, 7] [1] && dialBefore [1, 2] [1, 2, 0] && dialBefore [1, 2, 0, 7] [1, 3] &&
      dialBefore [1, 3] [2] && dialBefore [2] [7] && !dialBefore [7] [0, 7]) = true := by decide
/-- 0xE6 and 0xE7 of a payload are sent as 0xE6 0xC6 and 0xE6 0xC7 (9-7). -/
theorem test_escape : (Message.lineOctets ⟨0x05#8, 0x91#8, [0x00#8, 0x01#8, 0xE6#8, 0xE7#8]⟩).take 8 =
    [0x05#8, 0x91#8, 0x00#8, 0x01#8, 0xE6#8, 0xC6#8, 0xE6#8, 0xC7#8] := by decide +kernel

/-- A property of all links, shown for each kind. -/
theorem forall_link {P : LinkId → Prop} (hp : ∀ p, P (.panel p)) (hr : ∀ r, P (.riser r)) (ht : P .trunk) : ∀ l, P l
  | .panel p => hp p
  | .riser r => hr r
  | .trunk => ht

/-! ### Small states -/

/-- The state a command leaves. -/
def run (c : Instr) (s : State) : State :=
  match exec c s with
  | .next t => t
  | _ => s

/-- Every link UP, the mode RUN, nothing else since power-on. -/
def live : State :=
  { State.reset with mode := .run, links := tableMap (fun u => { u with state := .up, alignment := some 0 }) State.reset.links }

/-- A message at the head of a receive queue. -/
def heads (s : State) (l : LinkId) (m : Message) : State := s.setLink l { s.link l with rx := [.message m] }

/-- A flat entry with one target, RL2:17, fallback DESK or not. -/
def flatEntry (fallback : Bool) : Entry := ⟨[4, 4], 0xF#4, .flat [(2, 17)] fallback true false 0⟩
/-- An entry of a longer code, and the entries of Table 2-2's last codes. -/
def book : List Entry := [flatEntry false, ⟨[4, 4, 1], 0xF#4, .access 3⟩, ⟨[7], 0x1#4, .barred⟩]

/-- Handset RL2:17 PRESENT and free, the directory as `book`. -/
def flat : State :=
  ({ live with directory := book }).setHandset 2 17
    { present := true, misses := 0, quiet := false, engaged := none, watch := [] }

/-- Call 0 DIALLING from PL1:0 with the digits given. -/
def dialling (digits : Code) : State :=
  (flat.setStation 1 0 (some 0)).setCall 0
    { CallRecord.blank with
      state := .dialling, kind := some .entrance, origin := some (.station 1 0), digits := digits
      stateCount := some ⟨.digit, 0⟩ }

/-- The resolved copy of `flatEntry`. -/
def copy (fallback : Bool) : Resolved := ⟨.flat [(2, 17)], fallback, true, false, 0, [4, 4]⟩

/-- Call 0 from PL0:0 alerting RL2:17 on channel 1 of its riser. -/
def alerting : State :=
  (((flat.setStation 0 0 (some 0)).setHandset 2 17
      { present := true, misses := 0, quiet := false, engaged := some 0, watch := [] }).setChannel 2 1 (some 0)).setCall 0
    { CallRecord.blank with
      state := .alerting, kind := some .entrance, origin := some (.station 0 0), digits := [4, 4]
      resolved := some (copy false), alerted := [.handset 2 17], reservations := [(2, 1)]
      lastProgress := some .ringback, ringCadence := some 0, stateCount := some ⟨.alert, 0⟩ }

/-- The voice state of the worked case of 6-11 with the levels given. -/
def switchedVoice (lent lin : Nat) (d : Direction) (hang : Nat) : Voice :=
  { mode := .switched, originMeter := lent, answererMeter := lin, joinedMeter := none, direction := d, hang := hang }

/-- Call 0 TALKING between PL0:0 and RL2:17, with the voice state and the presented octets given (6-11). -/
def talking (v : Voice) (fromStation fromHandset : Octet) : State :=
  let s := alerting.setCall 0
    { alerting.call 0 with
      state := .talking, alerted := [], answerer := some (.handset 2 17), stateCount := none
      talk := some ⟨180, 8000⟩, lastProgress := some .talk, voice := some v }
  let p := { s with params := { s.params with riserGain := s.params.riserGain.set 2 2 } }
  let a := p.setLink (.panel 0) { p.link (.panel 0) with presented := [fromStation, 0x00#8] }
  a.setLink (.riser 2) { a.link (.riser 2) with presented := [0x00#8, fromHandset, 0x00#8, 0x00#8] }

/-- The conversation with its voice at the start. -/
def conversation : State := talking (switchedVoice 0 0 .neutral 0) 0x4A#8 0x25#8

/-- Position TL:3 logged on and free. -/
def deskFree (s : State) : State := { s.setPosition 3 ⟨true, none⟩ with idleOrder := [3] }
/-- Position TL:3 logged on and engaged by call 5: the idle order is empty. -/
def deskBusy (s : State) : State := { s.setPosition 3 ⟨true, some 5⟩ with idleOrder := [] }

/-- Call 0 from PL0:0 ringing position TL:3, with the desk wait running. -/
def deskRinging : State :=
  ((live.setStation 0 0 (some 0)).setPosition 3 ⟨true, some 0⟩).setCall 0
    { CallRecord.blank with
      state := .alerting, kind := some .entrance, origin := some (.station 0 0), resolved := some (deskCopy false [])
      alerted := [.position 3], lastProgress := some .ringback
      stateCount := some ⟨.deskRing, 0⟩, waitCount := some ⟨.deskWait, 0, false⟩ }

/-- Call 0 from PL0:0 waiting, with the record fields given. -/
def waiting (st : CallState) (fallback : Bool) (sc : Option StateCount) (wc : Option WaitCount) : State :=
  (flat.setStation 0 0 (some 0)).setCall 0
    { CallRecord.blank with
      state := st, kind := some .entrance, origin := some (.station 0 0), digits := [4, 4]
      resolved := some (copy fallback), lastProgress := some .wait, stateCount := sc, waitCount := wc }

/-- Call 0 SEEKING on riser 2, and call 0 CAMPED on RL2:17. -/
def seeking : State := (waiting .seeking false none (some ⟨.seek, 0, false⟩)).setSeekQueue 2 [0]
def camped : State :=
  (waiting .camped false (some ⟨.camp, 0⟩) (some ⟨.seek, 5, true⟩)).setHandset 2 17
    { present := true, misses := 0, quiet := false, engaged := none, watch := [0] }

/-! ### The worked voice case (6-11, 6-12) -/

theorem test_voice_period1 :
    let t := run .voiceFramePeriod conversation
    (t.call 0).voice = some (switchedVoice 212 43 .entrance 1600) ∧
      (t.link (.riser 2)).handed = [0x00#8, 0x3A#8, 0x00#8, 0x00#8] ∧
      (t.link (.panel 0)).handed = [0x0A#8, 0x00#8] := by decide +kernel
theorem test_voice_period4_breaks_in :
    let t := run .voiceFramePeriod (talking (switchedVoice 309 488 .entrance 1600) 0x00#8 0x5C#8)
    (t.call 0).voice = some (switchedVoice 300 700 .inside 1600) ∧
      (t.link (.panel 0)).handed = [0x5C#8, 0x00#8] := by decide +kernel

/-! ### Witnesses: the machine as a whole -/

theorem witness_StepRunsFrontCommand : ({ live with pending := [.powerOn] } : State).pending = .powerOn :: [] := rfl
theorem witness_DeliveryBringsItsMessage :
    (Instr.keyCall 0 0#8).delivery = some (.panel 0, keyMsg 0#8 0x0A#8) ∧ (live.link (.panel 0)).rx = [] ∧
      (live.link (.panel 0)).state ≠ .down := by decide +kernel
theorem witness_DeliveryBringsItsMessage_other :
    ((heads live (.panel 0) (keyMsg 0#8 1#8)).link (.panel 0)).rx.head? = some (.message (keyMsg 0#8 1#8)) ∧
      RxEntry.message (keyMsg 0#8 1#8) ≠ .message (keyMsg 0#8 0x0A#8) := by decide +kernel
theorem witness_DeliveryBringsItsMessage_cannot :
    (Instr.keyCall 0 63#8).delivery = some (.panel 0, keyMsg 63#8 0x0A#8) ∧ (keyMsg 63#8 0x0A#8).addr = 63#8 ∧
      (Instr.start (.panel 0) []).delivery = some (.panel 0, managementMsg 0x80#8 []) ∧
      live.inOrigin (.panel 0) = false ∧ live.inOrigin .trunk = true ∧
      (Instr.managementRefused .trunk 0x80#8 []).delivery = some (.trunk, managementMsg 0x80#8 []) ∧
      (Instr.unknownRequest .trunk 0x93#8 []).delivery = some (.trunk, managementMsg 0x93#8 []) ∧
      (State.reset.link (.panel 0)).rx = [] ∧ (State.reset.link (.panel 0)).state = .down := by decide +kernel
theorem witness_DeliveryBringsItsMessage_discard :
    let m := keyMsg 0#8 0x0D#8
    (Instr.catalogueDiscard (.panel 0) m).delivery = some (.panel 0, m) ∧ m.addr ≠ 63#8 ∧
      fitsCatalogue (.panel 0) m = false ∧ fitsCatalogue (.panel 0) (keyMsg 0#8 0x0C#8) = true := by decide +kernel
/-- A message of the catalogue at the head gives CATALOGUE_DISCARD no occasion (R165, log 2). -/
theorem test_discard_of_a_catalogue_message :
    let s := heads live (.panel 0) (keyMsg 0#8 0x0C#8)
    run (.catalogueDiscard (.panel 0) (keyMsg 0#8 0x0C#8)) s = s := by decide +kernel
theorem witness_IdleStepIsOneFramePeriod :
    camped.pending = [] ∧ camped.resetLow = false ∧ (camped.call 0).stateCount = some ⟨.camp, 0⟩ ∧
      (camped.call 0).waitCount = some ⟨.seek, 5, true⟩ ∧ (seeking.call 0).waitCount = some ⟨.seek, 0, false⟩ ∧
      (seeking.call 0).stateCount = none := by
  decide +kernel
theorem witness_IdleStepIsOneFramePeriod_talk :
    conversation.pending = [] ∧ (conversation.call 0).talk = some ⟨180, 8000⟩ ∧
      ((conversation.setCall 1 { conversation.call 0 with talk := some ⟨180, 1⟩ }).call 1).talk = some ⟨180, 1⟩ := by
  decide +kernel

/-- A DOWN link presents 0x00 at a frame period of its silent line (R108, R149). -/
def stale : State :=
  State.reset.setLink (.panel 0) { State.reset.link (.panel 0) with presented := [7#8, 8#8] }
theorem witness_IdleStepIsOneFramePeriod_down :
    stale.pending = [] ∧ stale.resetLow = false ∧ (stale.link (.panel 0)).state = .down := by decide +kernel
theorem test_idle_step_silences_a_down_link :
    (match step stale with
     | .next t => (t.link (.panel 0)).presented
     | _ => []) = [0x00#8, 0x00#8] := by decide +kernel

/-! ### Witnesses: invariants -/

/-- A conversation with a command waiting. -/
def working : State := { conversation with pending := [.hangup (.handset 2 17)] }

theorem test_working_steps : ∃ t, step working = .next t := ⟨_, rfl⟩
theorem witness_QueuesStayBounded : QueuesBounded working :=
  ⟨forall_link (by decide +kernel) (by decide +kernel) (by decide +kernel),
    forall_link (by decide +kernel) (by decide +kernel) (by decide +kernel),
    forall_link (by decide +kernel) (by decide +kernel) (by decide +kernel), by decide +kernel, by decide +kernel,
    by decide +kernel, by decide +kernel⟩
theorem witness_DownLinksStayQuiet : DownLinksQuiet working :=
  ⟨forall_link (by decide +kernel) (by decide +kernel) (by decide +kernel), by decide +kernel⟩
theorem flatEntry_wellKept (b : Bool) : (flatEntry b).wellKept := by
  delta Entry.wellKept flatEntry; cases b <;> decide +kernel
theorem witness_DirectoryStaysOrdered : DirectoryOrdered working :=
  ⟨by decide +kernel, by decide +kernel, by
    intro e he
    have hd : working.directory = book := by decide +kernel
    rw [hd] at he
    simp only [book, List.mem_cons, List.not_mem_nil, or_false] at he
    rcases he with rfl | rfl | rfl
    · exact flatEntry_wellKept false
    · delta Entry.wellKept; decide +kernel
    · delta Entry.wellKept; decide +kernel⟩
theorem witness_JournalStaysConsecutive : JournalConsecutive
    { working with journal := [⟨65535, 0, 0, 0, .byDesk, none, []⟩, ⟨0, 0, 0, 0, .byDesk, none, []⟩], journalSeq := 1 } :=
  ⟨by decide +kernel, by decide +kernel, by simp, by simp⟩
theorem witness_ParametersStayInRange : ParamsInRange working := by
  have ho : working.params.originSet = 0x1000#16 := by decide +kernel
  have hm : working.params.noticeMask = 0#16 := by decide +kernel
  refine ⟨fun x lo hi h => ?_, by decide +kernel, fun i hi => ?_, fun i hi => ?_⟩
  · cases x with
    | panelGain p => cases h; revert p; decide +kernel
    | riserGain r => cases h; revert r; decide +kernel
    | stations p => cases h; revert p; decide +kernel
    | cadence p => cases h; revert p; decide +kernel
    | _ => cases h <;> decide +kernel
  · rw [ho]
    by_cases h : i < 16
    · interval_cases i <;> rfl
    · exact BitVec.getLsbD_of_ge _ _ (by omega)
  · rw [hm]; exact BitVec.getLsbD_zero
theorem witness_IdleRecordsAndStandbyAreKept : IdleRecordsBlank working ∧ StandbyIdle State.reset := by
  delta IdleRecordsBlank StandbyIdle; decide +kernel
theorem witness_ChannelsStayMatched : ChannelsMatch working := ⟨by decide +kernel, by decide +kernel⟩
theorem witness_VoiceStaysBounded : VoiceBounded working := by
  have rest : ∀ m : CallNo, m ≠ 0 → (working.call m).voice = none ∧ (working.call m).lastPeriod = none := by decide +kernel
  have first : (working.call 0).voice = some (switchedVoice 0 0 .neutral 0) ∧ (working.call 0).lastPeriod = none := by
    decide +kernel
  intro n v h
  by_cases hn : n = 0
  · subst hn
    rw [first.1, first.2] at h
    obtain h | h := h
    · cases h; decide
    · cases h
  · rw [(rest n hn).1, (rest n hn).2] at h
    obtain h | h := h <;> cases h
theorem witness_PartiesStayBounded : PartiesBounded working :=
  ⟨by decide +kernel, by decide +kernel, by decide +kernel⟩
theorem witness_DoorTimersFollowState : DoorsKept working := by
  intro p
  have h : ∀ p, working.door p = { state := .locked, releaseTimer := none, heldOpenTimer := none } := by decide +kernel
  rw [h p]; exact ⟨rfl, rfl⟩
theorem witness_OnlyTheseCommandsChangeMode :
    (run (.callClear .trunk [0#8]) { conversation with mode := .draining }).mode = .standby ∧
      (run (.start .trunk []) { live with mode := .standby }).mode = .run := by decide +kernel
theorem witness_OnlyTheseCommandsWrite :
    (run (.openDoor (.handset 2 17)) conversation).journalSeq = 1 ∧
      (run (.setTime .trunk [0#8, 0#8, 0#8, 9#8]) live).seconds = 9 ∧
      (run (.managementRefused (.panel 0) 0x80#8 []) live).refusals = 1 ∧
      (run (.set .trunk [0x01#8, 0#8, 0#8, 60#8]) live).params ≠ live.params := by decide +kernel

/-! ### Witnesses: codes and frames -/

theorem witness_MessageLineRoundTrip : (Message.mk 0#8 0#8 (List.replicate 24 0xE7#8)).payload.length ≤ 24 := by decide
/-- A stop bit that arrives as 0 (R142): 0xA5 is passed up, and 0x5A after the pause is found at its own start bit. -/
theorem test_receiver_stopBit :
    (Receiver.period .rest ((octetBits 0xA5#8).take 9 ++ [false, false, true] ++ octetBits 0x5A#8)).2 =
      [⟨0, 0xA5#8⟩, ⟨12, 0x5A#8⟩] := by decide +kernel
theorem witness_EntryPayloadRoundTrip :
    (Entry.mk [0, 1, 2, 3, 4, 9] 0x8#4 (.flat [(0, 0), (7, 62), (1, 1), (2, 2)] true true true 120)).wellKept ∧
      (Entry.mk [0] 0x1#4 (.access 255)).wellKept := by delta Entry.wellKept; decide
theorem witness_SampleCodeRoundTrip :
    (-4095 : Int) ≤ -4095 ∧ (-4095 : Int) ≤ 4095 ∧ (4095 : Int) ≤ 4095 ∧ (31 : Int).natAbs < 32 ∧
      2 ^ (1 + 4) ≤ (32 : Int).natAbs := by decide
theorem witness_AttenuationNeverExceeds : 7 ≤ 7 ∧ 5 ≤ 5 ∧ (0 : Int) ≤ 0 := by decide
theorem witness_FrameCheckFindsOneWrongOctet :
    ([1#8, 2#8] : List Octet).length = (LinkId.panel 0).voiceChannels ∧ 1 ≤ 6 ∧ 6 < (LinkId.panel 0).frameOctets ∧
      1#8 ≠ (frameOf 0#8 0xE7#8 0xE7#8 [1#8, 2#8]).getD 6 0#8 ∧
      1#8 ≠ (frameOf 0#8 0xE7#8 0xE7#8 [1#8, 2#8]).getD 1 0#8 := by decide +kernel
theorem witness_DownstreamFrameIsSent :
    live.resetLow = false ∧ (live.link .trunk).handed.length = LinkId.trunk.voiceChannels ∧
      (live.link .trunk).sending = none ∧ (live.link .trunk).tx = [] := by decide +kernel
/-- PL0 with one message to send, after a delimiter. -/
def sending : State :=
  live.setLink (.panel 0) { live.link (.panel 0) with tx := [progressMsg 0#8 .talk], lastDelimiter := true }
theorem witness_DownstreamFrameIsSent_head :
    sending.resetLow = false ∧ (sending.link (.panel 0)).handed.length = (LinkId.panel 0).voiceChannels ∧
      (sending.link (.panel 0)).sending = none ∧ (sending.link (.panel 0)).tx = progressMsg 0#8 .talk :: [] ∧
      (sending.link (.panel 0)).partnerHoldOff = false ∧ (sending.link (.panel 0)).lastDelimiter = true := by
  decide +kernel
theorem witness_UpstreamFrameIsTaken_good :
    (live.link .trunk).receiver = .rest ∧ (live.link .trunk).alignment = some 0 ∧ (live.link .trunk).acquiring = false ∧
      (live.link .trunk).gathered = [] ∧
      (live.link .trunk).state = .up ∧ (List.replicate 6 7#8 : List Octet).length = LinkId.trunk.voiceChannels ∧
      (live.link .trunk).assembly.stage ≠ .collecting := by decide +kernel
/-- PL0 IMPAIRED with the good frames given in a row. -/
def impaired (run : Nat) : State :=
  live.setLink (.panel 0) { live.link (.panel 0) with state := .impaired, goodRun := run }
theorem witness_UpstreamFrameIsTaken_impaired :
    ((impaired 63).link (.panel 0)).state = .impaired ∧ ((impaired 63).link (.panel 0)).goodRun = 63 ∧
      ((impaired 62).link (.panel 0)).goodRun < 63 ∧ ((impaired 63).link (.panel 0)).assembly.stage ≠ .collecting ∧
      ((impaired 63).link (.panel 0)).receiver = .rest := by decide +kernel
theorem test_upstream_64th_good_frame :
    let t := run (.upstreamFrame (.panel 0) (lineBits (frameOf 0#8 0xE7#8 0xE7#8 [7#8, 8#8]))) (impaired 63)
    (t.link (.panel 0)).state = .up ∧ (t.link (.panel 0)).presented = [7#8, 8#8] ∧ t.attention = 0x01#8 := by
  decide +kernel
/-- A link with the body of QUIET of address 17 in assembly, entries in its receive queue, and a held message or none. -/
def assembling (l : LinkId) (entries : Nat) (held : Option Message) : State :=
  (live.setLink l
    { live.link l with
      assembly := { stage := .collecting, body := Message.body ⟨17#8, 0x16#8, [1#8]⟩, escape := false }
      rx := List.replicate entries .lost, holding := held }).setScheduler 2
    { lastRolled := 17, lastServed := 0, nextKind := .roll, turn := some ⟨17, .roll, true, 20⟩ }
theorem witness_UpstreamFrameIsTaken_message :
    ((assembling (.riser 2) 3 none).link (.riser 2)).assembly =
        { stage := .collecting, body := Message.body ⟨17#8, 0x16#8, [1#8]⟩, escape := false } ∧
      ((assembling (.riser 2) 3 none).link (.riser 2)).rx.length < 4 ∧
      (assembling (.riser 2) 3 none).turn 2 = some ⟨17, .roll, true, 20⟩ ∧ (17#8 : Octet) = BitVec.ofNat 8 (17 : Fin 63).val ∧
      (assembling (.riser 3) 4 none).turn 3 = none ∧
      4 ≤ ((assembling (.panel 0) 4 none).link (.panel 0)).rx.length ∧
      ((assembling (.panel 0) 4 none).link (.panel 0)).holding = none ∧
      ((assembling .trunk 4 (some (keyMsg 0#8 1#8))).link .trunk).holding ≠ none := by decide +kernel
theorem test_upstream_completes_message :
    let t := run (.upstreamFrame (.riser 2) (lineBits (frameOf 0#8 0xE7#8 0xE7#8 [0#8, 0#8, 0#8, 0#8])))
      (assembling (.riser 2) 0 none)
    (t.link (.riser 2)).rx = [.message ⟨17#8, 0x16#8, [1#8]⟩] ∧ t.turn 2 = none := by decide +kernel
/-- PL0 with a bad frame among its last seven periods. -/
def struck : State :=
  live.setLink (.panel 0) { live.link (.panel 0) with history := [false, false, false, false, false, false, true] }
theorem witness_UpstreamFrameIsTaken_bad :
    (struck.link (.panel 0)).receiver = .rest ∧ (struck.link (.panel 0)).state = .up ∧
      (struck.link (.panel 0)).alignment = some 0 ∧ frameClass (.panel 0) [0x5A#8, 0#8, 0#8, 0#8, 0#8, 0#8, 1#8] = .bad ∧
      true ∈ (struck.link (.panel 0)).history := by decide +kernel
/-- PL0 DOWN with the markers given found a frame apart, and the octets received since the last of them. -/
def seekingFrame (run since : Nat) : State :=
  live.setLink (.panel 0)
    { live.link (.panel 0) with state := .down, alignment := none, markerRun := run, candidate := some since }
/-- PL0 DOWN with fifteen markers found a frame apart, the next octet at the place of the sixteenth. -/
def hunting : State := seekingFrame 15 6
theorem witness_UpstreamFrameIsTaken_up :
    (hunting.link (.panel 0)).receiver = .rest ∧ (hunting.link (.panel 0)).state = .down ∧
      (hunting.link (.panel 0)).markerRun = 15 ∧
      (hunting.link (.panel 0)).candidate = some ((LinkId.panel 0).frameOctets - 1 - ([] : List Octet).length) ∧
      0 + 10 * (([] : List Octet).length + 1 + [0#8, 0#8, 0#8, 0#8, 0#8, 0#8].length) = (LinkId.panel 0).frameBits ∧
      ((seekingFrame 15 4).link (.panel 0)).candidate = some ((LinkId.panel 0).frameOctets - 1 - [0#8, 0#8].length) ∧
      0 + 10 * ([0#8, 0#8].length + 1 + [0#8, 0#8, 0#8, 0#8].length) = (LinkId.panel 0).frameBits := by decide +kernel
/-- The sixteenth marker at octet 2 of the frame period: the alignment is held there, and the frame it began is let by. -/
theorem test_upstream_holds_alignment :
    let t := run (.upstreamFrame (.panel 0) (lineBits [0#8, 0#8, 0x5A#8, 0#8, 0#8, 0#8, 0#8])) (seekingFrame 15 4)
    (t.link (.panel 0)).state = .up ∧ (t.link (.panel 0)).alignment = some 20 ∧
      (t.link (.panel 0)).acquiring = true := by decide +kernel
theorem witness_UpstreamFrameIsTaken_hunt :
    (State.reset.link (.panel 0)).receiver = .rest ∧ (State.reset.link (.panel 0)).state = .down ∧
      (State.reset.link (.panel 0)).markerRun ≠ 15 ∧ (State.reset.link (.panel 0)).markerRun ≠ 16 ∧
      (State.reset.link (.panel 0)).candidate = none ∧ ((seekingFrame 3 5).link (.panel 0)).candidate = some 5 ∧
      5 + 1 < (LinkId.panel 0).frameOctets ∧ ((seekingFrame 3 6).link (.panel 0)).markerRun = 3 ∧
      ¬ 6 + 1 < (LinkId.panel 0).frameOctets := by decide +kernel
/-- Another octet at the marker's place drops the candidate and the run (R145). -/
theorem test_upstream_marker_missed :
    let t := run (.upstreamFrame (.panel 0) (lineBits [1#8] ++ List.replicate 60 true)) (seekingFrame 3 6)
    (t.link (.panel 0)).candidate = none ∧ (t.link (.panel 0)).markerRun = 0 := by decide +kernel
/-- PL0 UP since a marker at line bit 23 of its frame period. -/
def phased : State :=
  live.setLink (.panel 0) { live.link (.panel 0) with alignment := some 23, acquiring := true }
theorem witness_UpstreamFrameIsTaken_acrossPeriods :
    (phased.link (.panel 0)).receiver = .rest ∧ (phased.link (.panel 0)).state = .up ∧
      ([7#8, 8#8] : List Octet).length = (LinkId.panel 0).voiceChannels ∧ 0 < 23 ∧ 23 < (LinkId.panel 0).frameBits ∧
      (phased.link (.panel 0)).alignment = some 23 ∧ (phased.link (.panel 0)).acquiring = true ∧
      (phased.link (.panel 0)).assembly.stage ≠ .collecting := by decide +kernel
/-- A link with seven lost frames in a row. -/
def losing (l : LinkId) : State := conversation.setLink l { conversation.link l with lostRun := 7, alignment := some 0 }
theorem witness_EighthLostFrameTakesLinkDown :
    ((losing (.riser 2)).link (.riser 2)).receiver = .rest ∧
      ((losing (.riser 2)).link (.riser 2)).state ≠ .down ∧ 7 ≤ ((losing (.riser 2)).link (.riser 2)).lostRun ∧
      ((losing (.riser 2)).link (.riser 2)).acquiring = false ∧ ((losing (.riser 2)).link (.riser 2)).gathered = [] ∧
      ((losing (.riser 2)).link (.riser 2)).alignment = some 0 ∧
      ([1#8] : List Octet).head? ≠ some 0x5A#8 ∧ ((losing (.panel 0)).link (.panel 0)).state ≠ .down ∧
      ((losing .trunk).link .trunk).state ≠ .down := by decide +kernel
/-- Beside the conversation of call 0, call 1 TALKING in DUPLEX between RL3:5 and TL:2. -/
def twoTalks : State :=
  conversation.setCall 1
    { CallRecord.blank with
      state := .talking, kind := some .resident, origin := some (.handset 3 5), answerer := some (.position 2)
      reservations := [(3, 0)], voice := some { switchedVoice 0 0 .neutral 0 with mode := .duplex } }
theorem witness_VoiceFramePeriodIsTaken :
    (twoTalks.call 0).state = .talking ∧ (twoTalks.call 0).voice = some (switchedVoice 0 0 .neutral 0) ∧
      (twoTalks.call 0).origin = some (.station 0 0) ∧ (twoTalks.call 0).answerer = some (.handset 2 17) ∧
      (twoTalks.call 0).channelOf (.station 0 0) = some (.panel 0, 0) ∧
      (twoTalks.call 0).channelOf (.handset 2 17) = some (.riser 2, 1) ∧ (LinkId.panel 0, 0) ≠ (LinkId.riser 2, 1) ∧
      0 < (twoTalks.link (.panel 0)).handed.length ∧ 1 < (twoTalks.link (.riser 2)).handed.length ∧
      (twoTalks.call 1).state = .talking ∧ (twoTalks.call 1).channelOf (.handset 3 5) = some (.riser 3, 0) ∧
      (twoTalks.call 1).channelOf (.position 2) = some (.trunk, 2) ∧ (twoTalks.call 1).parties = [.position 2, .handset 3 5] ∧
      (twoTalks.call 0).parties = [.handset 2 17, .station 0 0] := by decide +kernel
/-- The conversation with TL:3 joined. -/
def joined : State :=
  let s := talking ⟨.mixed, 0, 0, some 0, .neutral, 0⟩ 0x4A#8 0x25#8
  (s.setPosition 3 ⟨true, some 0⟩).setCall 0 { s.call 0 with joined := some 3 }
theorem witness_VoiceFramePeriodIsTaken_mixed :
    (joined.call 0).voice = some ⟨.mixed, 0, 0, some 0, .neutral, 0⟩ ∧ (joined.call 0).joined = some 3 ∧
      3 < (joined.link .trunk).handed.length ∧ (LinkId.panel 0, 0) ≠ (LinkId.trunk, 3) ∧
      (joined.call 0).channelOf (.station 0 0) = some (.panel 0, 0) := by decide +kernel
theorem witness_MetersAndHangCounter :
    let s := talking (switchedVoice 60 50 .entrance 0) 0#8 0#8
    0 < 1 ∧ 32 ≤ 32 ∧ 31 < 32 ∧ (s.call 0).state = .talking ∧
      (s.call 0).voice = some (switchedVoice 60 50 .entrance 0) ∧ Direction.entrance ≠ .neutral ∧
      60 < s.params.speechThreshold ∧ (alerting.call 0).state ≠ .talking := by decide +kernel
theorem test_hang_runs_out :
    ((run (.hangCounterExpiry 0) (talking (switchedVoice 60 50 .entrance 0) 0#8 0#8)).call 0).voice =
      some (switchedVoice 60 50 .neutral 0) := by decide +kernel
/-- With the counter loaded, or the holding side at the threshold, the direction stays (R116). -/
theorem test_hang_stays :
    ((run (.hangCounterExpiry 0) (talking (switchedVoice 60 50 .entrance 1600) 0#8 0#8)).call 0).voice =
        some (switchedVoice 60 50 .entrance 1600) ∧
      ((run (.hangCounterExpiry 0) (talking (switchedVoice 96 50 .entrance 0) 0#8 0#8)).call 0).voice =
        some (switchedVoice 96 50 .entrance 0) := by decide +kernel

/-! ### Witnesses: turns -/

/-- Riser 2 about to begin a turn, with RL2:17 engaged or nobody, and the last served address given. -/
def turning (s : State) (k : TurnKind) (served : Fin 63) : State :=
  s.setScheduler 2 { lastRolled := 62, lastServed := served, nextKind := k, turn := none }
theorem witness_TurnBeginGrantsAnAddress_roll :
    (turning flat .roll 0).turn 2 = none ∧ ((turning flat .roll 0).link (.riser 2)).state ≠ .down ∧
      ((turning flat .roll 0).link (.riser 2)).rx.length < 4 ∧ ((turning flat .roll 0).scheduler 2).nextKind = .roll := by
  decide +kernel
theorem witness_TurnBeginGrantsAnAddress_next :
    let s := turning conversation .engaged 16
    s.turn 2 = none ∧ (s.scheduler 2).nextKind = .engaged ∧
      (s.handset 2 ((s.scheduler 2).lastServed + Fin.ofNat 63 1)).engaged ≠ none := by decide +kernel
theorem witness_TurnBeginGrantsAnAddress_round :
    let s := turning conversation .engaged 17
    s.turn 2 = none ∧ (s.handset 2 ((s.scheduler 2).lastServed + Fin.ofNat 63 63)).engaged ≠ none ∧
      (∀ e : Fin 63, 1 ≤ e.val → (s.handset 2 ((s.scheduler 2).lastServed + Fin.ofNat 63 e.val)).engaged = none) := by
  decide +kernel
theorem witness_TurnBeginGrantsAnAddress_nobody :
    let s := turning flat .engaged 17
    (s.scheduler 2).nextKind = .engaged ∧ (∀ a, (s.handset 2 a).engaged = none) := by decide +kernel
/-- Riser 2 in a turn of RL2:17, which has the misses given. -/
def inTurn (answered : Bool) (misses : Nat) : State :=
  (flat.setHandset 2 17 { flat.handset 2 17 with misses := misses }).setScheduler 2
    { lastRolled := 17, lastServed := 0, nextKind := .roll, turn := some ⟨17, .roll, answered, if answered then 80 else 16⟩ }
theorem witness_TurnsEnd :
    16 ≤ 16 ∧ 80 ≤ 80 ∧ flat.turn 2 = none ∧ (inTurn false 1).turn 2 = some ⟨17, .roll, false, 16⟩ ∧ ((inTurn false 1).handset 2 17).misses < 2 ∧
      (inTurn true 0).turn 2 = some ⟨17, .roll, true, 80⟩ := by decide +kernel
theorem witness_TurnsEnd_absent :
    let s := inTurn false 2
    (s.handset 2 17).misses = 2 ∧ (s.handset 2 17).present = true ∧ (s.handset 2 17).engaged = none ∧
      (s.handset 2 17).watch = [] ∧ s.Room (s.notice 0x02#8) := by delta State.Room; decide +kernel
/-- A state of the conversation kind whose riser 2 is in an unanswered turn of RL2:17, which has two misses. -/
def missing (s : State) : State :=
  (s.setHandset 2 17 { s.handset 2 17 with misses := 2 }).setScheduler 2
    { lastRolled := 17, lastServed := 0, nextKind := .roll, turn := some ⟨17, .engaged, false, 16⟩ }
theorem witness_TurnsEnd_engaged :
    (missing alerting).turn 2 = some ⟨17, .engaged, false, 16⟩ ∧ ((missing alerting).handset 2 17).misses = 2 ∧
      ((missing alerting).handset 2 17).present = true ∧
      (missing alerting).roleOf (.handset 2 17) = some (0, .alerted) ∧
      ((missing alerting).call 0).alerted = [.handset 2 17] ∧ (missing alerting).StandsNowhere 0 ∧
      ((missing alerting).call 0).resolved.map (·.fallback) = some false ∧
      (missing conversation).roleOf (.handset 2 17) = some (0, .answerer) ∧
      ((missing conversation).call 0).joined = none ∧ ((missing conversation).call 0).state ≠ .idle ∧
      (missing joined).roleOf (.handset 2 17) = some (0, .answerer) ∧ ((missing joined).call 0).joined = some 3 ∧
      ((missing joined).call 0).origin = some (.station 0 0) ∧ ((missing joined).call 0).reservations = [(2, 1)] ∧
      (missing joined).seekQueue 2 = [] ∧ ((missing joined).handset 2 17).watch = [] ∧
      (missing joined).Room ((.riser 2, clearMsg 17#8 .normal) :: (missing joined).notice 0x02#8) := by
  delta State.StandsNowhere State.Room; decide +kernel
/-- Call 0 from PL0:0 alerting RL2:17, RL2:18 and RL4:1, with a channel of each riser. -/
def ringingThree : State :=
  let s := (alerting.setHandset 2 18 { alerting.handset 2 17 with engaged := some 0 }).setHandset 4 1
    { alerting.handset 2 17 with engaged := some 0 }
  (s.setChannel 4 0 (some 0)).setCall 0
    { s.call 0 with
      alerted := [.handset 2 17, .handset 2 18, .handset 4 1], reservations := [(2, 1), (4, 0)] }
theorem witness_TurnsEnd_member :
    (missing ringingThree).roleOf (.handset 2 17) = some (0, .alerted) ∧
      ((missing ringingThree).call 0).state = .alerting ∧ (18 : Fin 63) ≠ 17 ∧
      Party.handset 2 18 ∈ ((missing ringingThree).call 0).alerted ∧ ((missing ringingThree).handset 2 17).watch = [] ∧
      (missing ringingThree).Room ((missing ringingThree).notice 0x02#8) := by delta State.Room; decide +kernel
theorem test_turnTimeout_third_miss : ((run (.turnTimeout 2) (inTurn false 2)).handset 2 17).present = false := by
  decide +kernel

/-! ### Witnesses: keys and doors -/

theorem witness_KeyDigitIsTaken_creates :
    flat.deliverable (.panel 1) (keyMsg (BitVec.ofNat 8 0) (BitVec.ofNat 8 4)) = true ∧
      flat.stationExists 1 (BitVec.ofNat 8 0) = true ∧ flatEntry false ∈ flat.directory ∧ [4] <+: (flatEntry false).code ∧
      [4] ≠ (flatEntry false).code ∧ flat.station 1 0 = none ∧ flat.mode = .run ∧ flat.FirstIdle 0 := by
  delta State.FirstIdle; decide +kernel
theorem witness_KeyDigitIsTaken_extends :
    let s := dialling [4]
    let e : Entry := ⟨[4, 4, 1], 0xF#4, .access 3⟩
    s.deliverable (.panel 1) (keyMsg (BitVec.ofNat 8 0) (BitVec.ofNat 8 4)) = true ∧ e ∈ s.directory ∧
      [4, 4] <+: e.code ∧ [4, 4] ≠ e.code ∧ s.station 1 0 = some 0 ∧ (s.call 0).state = .dialling ∧
      [4, 4] = (s.call 0).digits ++ [4] := by decide +kernel
theorem witness_KeyDigitIsTaken_unknown :
    let s := dialling [4]
    s.deliverable (.panel 1) (keyMsg (BitVec.ofNat 8 0) (BitVec.ofNat 8 9)) = true ∧
      s.stationExists 1 (BitVec.ofNat 8 0) = true ∧ s.station 1 0 = some 0 ∧ (s.call 0).state = .dialling ∧
      (s.call 0).origin = some (.station 1 0) ∧ (∀ e ∈ s.directory, ¬ ((s.call 0).digits ++ [9]) <+: e.code) := by
  decide +kernel
/-- Every record in use. -/
def crowded (s : State) : State :=
  { s with calls := tableMap (fun c : CallRecord => { c with state := .queued }) s.calls }
theorem witness_KeyDigitIsTaken_refused :
    let s : State := { flat with mode := .standby }
    s.deliverable (.panel 1) (keyMsg 0#8 4#8) = true ∧ s.stationExists 1 0#8 = true ∧ s.station 1 0 = none ∧
      s.mode ≠ .run ∧ s.Room [(.panel 1, progressMsg 0#8 .closed)] ∧ (crowded flat).mode = .run ∧
      (∀ n, ((crowded flat).call n).state ≠ .idle) ∧ (crowded flat).station 1 0 = none ∧
      (crowded flat).Room ((.panel 1, progressMsg 0#8 .busy) :: (crowded flat).notice 0x20#8) := by
  delta State.Room; decide +kernel
theorem test_keyDigit_closed :
    ((run (.keyDigit 1 0#8 4) { flat with mode := .standby }).link (.panel 1)).tx = [progressMsg 0#8 .closed] := by
  decide +kernel
/-- Call 0 DIALLING 44 of PL1:0, the code of a flat of the targets given, with RL2:17 as given. -/
def checking (fallback : Bool) (ts : List (Fin 8 × Fin 63)) (h : Handset) : State :=
  ({ dialling [4, 4] with directory := [⟨[4, 4], 0xF#4, .flat ts fallback true false 0⟩] }).setHandset 2 17 h
/-- The same with the copy taken, as the target check finds it. -/
def copied (fallback : Bool) (ts : List (Fin 8 × Fin 63)) (h : Handset) : State :=
  (checking fallback ts h).setCall 0
    { (checking fallback ts h).call 0 with
      resolved := some ⟨.flat ts, fallback, true, false, 0, [4, 4]⟩, stateCount := none }
/-- A handset that is free, and one that call 5 engages, with the watch list given. -/
def free : Handset := { present := true, misses := 0, quiet := false, engaged := none, watch := [] }
def busyWith (watch : List CallNo) : Handset := { free with engaged := some 5, watch := watch }
/-- Every channel of riser 2 is RESERVED. -/
def taken (s : State) : State := { s with channels := s.channels.set 2 (Vector.replicate 4 (some 5)) }
theorem witness_ExactCodeRingsTheFlat :
    let s := checking false [(2, 17)] free
    (s.call 0).state = .dialling ∧ (s.call 0).origin = some (.station 1 0) ∧
      entryOf (s.call 0).digits s.directory = some ⟨[4, 4], 0xF#4, .flat [(2, 17)] false true false 0⟩ ∧
      (0xF#4).getLsbD 1 = true ∧ s.station 1 0 = some 0 ∧ s.stationExists 1 0#8 = true ∧
      s.deliverable (.panel 1) (keyMsg 0#8 0x0A#8) = true ∧ (s.call 0).stateCount = some ⟨.digit, 0⟩ := by
  decide +kernel
theorem witness_ExactCodeRingsTheFlat_digit :
    let s : State := { dialling [4] with directory := [flatEntry false] }
    [4, 4] = (s.call 0).digits ++ [(4 : Fin 10).val] ∧ s.station 1 0 = some 0 ∧ s.stationExists 1 0#8 = true ∧
      s.deliverable (.panel 1) (keyMsg 0#8 4#8) = true ∧ (∀ e ∈ s.directory, [4, 4] <+: e.code → e.code = [4, 4]) ∧
      entryOf [4, 4] s.directory = some (flatEntry false) ∧ entryOf ((dialling [9]).call 0).digits book = none := by
  decide +kernel
theorem witness_ExactCodeRingsTheFlat_rings :
    let z := (copied false [(2, 17), (4, 1), (2, 18)] free).setHandset 2 18 free
    (z.call 0).state ≠ .idle ∧ (z.call 0).resolved = some ⟨.flat [(2, 17), (4, 1), (2, 18)], false, true, false, 0, [4, 4]⟩ ∧
      (z.call 0).alerted = [] ∧ (z.call 0).reservations = [] ∧ (z.call 0).waitCount = none ∧ (∀ r, z.FirstFree r 0) ∧
      z.handset 2 17 = free ∧ z.handset 2 18 = free ∧
      z.Room ((z.call 0).ringingOut z.params [(2, 17), (2, 18)] ++ []) := by
  delta State.Room State.FirstFree; and_intros <;> decide +kernel
theorem test_check_rings_every_eligible :
    let t := run (.keyCall 1 0#8) ((checking false [(2, 17), (4, 1), (2, 18)] free).setHandset 2 18 free)
    (t.call 0).alerted = [.handset 2 17, .handset 2 18] ∧ (t.call 0).reservations = [(2, 0)] ∧
      (t.link (.panel 1)).tx = [progressMsg 0#8 .ringback] := by decide +kernel
theorem witness_ExactCodeRingsTheFlat_seeks :
    let z := taken (copied false [(2, 17)] free)
    (z.call 0).waitCount = none ∧ z.handset 2 17 = free ∧ (∀ ch, z.channel 2 ch ≠ none) ∧
      (∀ r, r ≠ 2 → z.FirstFree r 0) ∧ z.Room ((z.call 0).telling .wait ++ []) := by
  delta State.Room State.FirstFree; and_intros <;> decide +kernel
theorem test_check_seeks :
    let t := run (.keyCall 1 0#8) (taken (checking false [(2, 17)] free))
    (t.call 0).state = .seeking ∧ t.seekQueue 2 = [0] ∧ (t.link (.panel 1)).tx = [progressMsg 0#8 .wait] := by
  decide +kernel
theorem witness_ExactCodeRingsTheFlat_camps :
    let z := copied false [(2, 17)] (busyWith [6])
    (z.call 0).resolved.map (·.camp) = some true ∧ z.handset 2 17 = busyWith [6] ∧ (busyWith [6]).watch.length < 2 ∧
      z.Room ((z.call 0).telling .wait ++ []) := by
  delta State.Room; decide +kernel
theorem test_check_camps :
    let t := run (.keyCall 1 0#8) (checking false [(2, 17)] (busyWith [6]))
    (t.call 0).state = .camped ∧ (t.handset 2 17).watch = [6, 0] ∧
      (t.call 0).stateCount = some ⟨.camp, t.params.campTime * 8000⟩ := by decide +kernel
theorem witness_ExactCodeRingsTheFlat_outcome :
    let z := copied false [(2, 17)] (busyWith [6, 7])
    z.handset 2 17 = busyWith [6, 7] ∧ ¬ (busyWith [6, 7]).watch.length < 2 ∧ ¬ (z.call 0).MayForward ∧
      (copied false [(2, 17)] { free with quiet := true }).WaitsAlone 0 ∧
      (copied false [(2, 17)] { free with quiet := true }).StandsNowhere 0 ∧
      (copied false [(2, 17)] { free with present := false }).Room
        ((z.reached ((z.call 0).clearingOut .absent)) ++ []) := by
  delta State.WaitsAlone State.StandsNowhere State.Room CallRecord.MayForward; and_intros <;> decide +kernel
theorem test_check_outcomes :
    ((run (.keyCall 1 0#8) (checking false [(2, 17)] (busyWith [6, 7]))).call 0).lastCause = some .busy ∧
      ((run (.keyCall 1 0#8) (checking false [(2, 17)] { free with quiet := true })).call 0).lastCause = some .quiet ∧
      ((run (.keyCall 1 0#8) (checking false [(2, 17)] { free with present := false })).call 0).lastCause = some .absent := by
  decide +kernel
theorem witness_ExactCodeRingsTheFlat_forwards :
    let z := copied true [(2, 17)] { free with present := false }
    (z.call 0).MayForward ∧ z.StandsNowhere 0 ∧ (∀ k, (z.position k).loggedOn = false) ∧
      ((deskFree z).position 3).loggedOn = true ∧ (deskFree z).idleOrder = 3 :: [] := by
  delta State.StandsNowhere CallRecord.MayForward; and_intros <;> decide +kernel
theorem test_check_forwards :
    let t := run (.keyCall 1 0#8) (deskFree (checking true [(2, 17)] { free with present := false }))
    (t.call 0).alerted = [.position 3] ∧ (t.call 0).forwarded = true ∧
      (t.link (.panel 1)).tx = [progressMsg 0#8 .wait, progressMsg 0#8 .ringback] := by decide +kernel
theorem witness_ExactCodeRingsTheFlat_barred :
    let s := dialling [7]
    (s.call 0).state = .dialling ∧ entryOf (s.call 0).digits s.directory = some ⟨[7], 0x1#4, .barred⟩ ∧
      s.station 1 0 = some 0 ∧ s.deliverable (.panel 1) (keyMsg 0#8 0x0A#8) = true ∧
      (Entry.mk [7] 0x1#4 .barred).entrances.getLsbD 1 = false ∧ s.WaitsAlone 0 ∧ s.StandsNowhere 0 ∧
      s.Room (s.reached ((s.call 0).clearingOut .barred) ++ []) := by
  delta State.WaitsAlone State.StandsNowhere State.Room; decide +kernel
/-- Call 0 DIALLING 441 of PL1:0, an ACCESS code with the uses given. -/
def keyed (uses : Nat) : State := { dialling [4, 4, 1] with directory := [⟨[4, 4, 1], 0xF#4, .access uses⟩] }
theorem witness_ExactCodeRingsTheFlat_access :
    let s := keyed 3
    entryOf (s.call 0).digits s.directory = some ⟨[4, 4, 1], 0xF#4, .access 3⟩ ∧
      (Entry.mk [4, 4, 1] 0xF#4 (.access 3)).entrances.getLsbD 1 = true ∧ (s.call 0).alerted = [] ∧
      (s.call 0).reservations = [] ∧ (s.call 0).answerer = none ∧ (s.call 0).joined = none ∧ s.station 1 0 = some 0 ∧
      s.StandsNowhere 0 ∧ s.mode ≠ .draining ∧ (s.door 1).state = .locked ∧
      s.Room ([(.panel 1, unlockMsg 0#8 50), (.panel 1, progressMsg 0#8 .opened)] ++ s.notice 0x00#8) ∧
      entryOf ((keyed 0).call 0).digits (keyed 0).directory = some ⟨[4, 4, 1], 0xF#4, .access 0⟩ ∧
      (keyed 0).Room [(.panel 1, progressMsg 0#8 .denied)] ∧
      (((keyed 255).setDoor 1 ⟨.released, some 1, none⟩).door 1).state ≠ .locked := by
  delta State.StandsNowhere State.Room; decide +kernel
theorem keyed_ordered : DirectoryOrdered (keyed 3) := by
  refine ⟨by decide +kernel, by decide +kernel, fun e he => ?_⟩
  have hd : (keyed 3).directory = [⟨[4, 4, 1], 0xF#4, .access 3⟩] := rfl
  rw [hd, List.mem_singleton] at he
  subst he; delta Entry.wellKept; decide +kernel
theorem test_access_releases :
    let t := run (.keyCall 1 0#8) (keyed 3)
    (t.door 1).state = .released ∧ t.directory = [⟨[4, 4, 1], 0xF#4, .access 2⟩] ∧ (t.call 0).releases = 1 ∧
      (t.link (.panel 1)).tx = [unlockMsg 0#8 50, progressMsg 0#8 .opened] := by decide +kernel
/-- Call 0 DIALLING 4 of PL1:0, the code of the entry given. -/
def dialled (body : EntryBody) : State := { dialling [4] with directory := [⟨[4], 0xF#4, body⟩] }
theorem witness_ExactCodeRingsTheFlat_desk :
    let s := deskFree (dialled .desk)
    (Instr.keyCall 1 0#8).delivery = some (.panel 1, keyMsg 0#8 0x0A#8) ∧
      s.deliverable (.panel 1) (keyMsg 0#8 0x0A#8) = true ∧ (s.call 0).state = .dialling ∧ s.station 1 0 = some 0 ∧
      entryOf (s.call 0).digits s.directory = some ⟨[4], 0xF#4, .desk⟩ ∧ (0xF#4).getLsbD 1 = true ∧
      (s.call 0).waitCount = none ∧ (s.position 3).loggedOn = true ∧ s.idleOrder = 3 :: [] ∧
      s.Room ([] ++ (s.call 0).deskOut 0 3) ∧ (deskBusy (dialled .desk)).idleOrder = [] ∧
      (∀ k, ((dialled .desk).position k).loggedOn = false) := by
  delta State.Room; and_intros <;> decide +kernel
theorem test_desk_entry :
    let t := run (.keyCall 1 0#8) (deskFree (dialled .desk))
    (t.call 0).alerted = [.position 3] ∧ (t.call 0).resolved = some (deskCopy false [4]) ∧
      (t.link (.panel 1)).tx = [progressMsg 0#8 .ringback] := by decide +kernel
/-- PL1:0 without a call, beside the directory of `dialled`. -/
def undialled (body : EntryBody) : State := { flat with directory := [⟨[4], 0xF#4, body⟩] }
theorem witness_ExactCodeRingsTheFlat_first :
    let s := undialled (.access 3)
    (Instr.keyDigit 1 0#8 4).delivery = some (.panel 1, keyMsg 0#8 4#8) ∧ s.stationExists 1 0#8 = true ∧
      s.deliverable (.panel 1) (keyMsg 0#8 4#8) = true ∧ s.deliverable (.panel 1) (keyMsg 0#8 9#8) = true ∧
      s.station 1 0 = none ∧ s.mode = .run ∧ s.FirstIdle 0 ∧ (∀ e ∈ s.directory, [4] <+: e.code → e.code = [4]) ∧
      (∀ e ∈ s.directory, [9] <+: e.code → e.code = [9]) ∧ entryOf [9] s.directory = none ∧
      entryOf [4] s.directory = some ⟨[4], 0xF#4, .access 3⟩ ∧ s.StandsNowhere 0 ∧ (s.door 1).state = .locked := by
  delta State.StandsNowhere State.FirstIdle; and_intros <;> decide +kernel
/-- A code of one digit resolves at the first key, UNKNOWN, to a flat, to the desk or to a door (R5, R6). -/
theorem test_first_digit_resolves :
    ((run (.keyDigit 1 0#8 9) (undialled .desk)).call 0).lastCause = some .unknown ∧
      ((run (.keyDigit 1 0#8 4) (undialled (.flat [(2, 17)] false true false 0))).call 0).alerted = [.handset 2 17] ∧
      ((run (.keyDigit 1 0#8 4) (deskFree (undialled .desk))).call 0).alerted = [.position 3] ∧
      ((run (.keyDigit 1 0#8 4) (undialled (.access 3))).door 1).state = .released := by decide +kernel
theorem witness_DeskCallsRingTheHead :
    let s := deskFree flat
    s.mode = .run ∧ s.FirstIdle 0 ∧ s.idleOrder = 3 :: [] ∧ (s.position 3).loggedOn = true ∧ s.station 1 0 = none ∧
      s.stationExists 1 0#8 = true ∧ s.deliverable (.panel 1) (keyMsg 0#8 0x0C#8) = true ∧
      s.Room [(.trunk, ringPositionMsg 3#8 0 (some (.station 1 0))), (.panel 1, progressMsg 0#8 .ringback)] ∧
      (s.handset 2 17).present = true ∧ (s.handset 2 17).engaged = none ∧ s.FirstFree 2 0 ∧
      s.deliverable (.riser 2) (bareMsg 17#8 0x15#8) = true ∧
      s.Room [(.riser 2, replyMsg 17#8 .accepted), (.trunk, ringPositionMsg 3#8 0 (some (.handset 2 17)))] := by
  delta State.Room State.FirstFree State.FirstIdle; decide +kernel
theorem witness_DeskCallsRingTheHead_queues :
    let s := deskBusy flat
    s.mode = .run ∧ s.FirstIdle 0 ∧ s.idleOrder = [] ∧ (s.position 3).loggedOn = true ∧ s.station 1 0 = none ∧
      s.deliverable (.panel 1) (keyMsg 0#8 0x0C#8) = true ∧ s.Room [(.panel 1, progressMsg 0#8 .wait)] ∧
      s.Room [(.riser 2, replyMsg 17#8 .accepted)] ∧ (∀ k, (flat.position k).loggedOn = false) ∧ flat.WaitsAlone 0 ∧
      flat.StandsNowhere 0 ∧ (∀ c, (taken s).channel 2 c ≠ none) := by
  delta State.WaitsAlone State.StandsNowhere State.Room State.FirstIdle; and_intros <;> decide +kernel
theorem test_keyDesk_queues :
    let t := run (.keyDesk 1 0#8) (deskBusy flat)
    (t.call 0).state = .queued ∧ t.deskQueue = [0] ∧
      (t.call 0).waitCount = some ⟨.deskWait, t.params.deskWait * 8000, false⟩ := by decide +kernel
theorem test_callDesk_seeks :
    let t := run (.callDesk 2 17) (taken (deskBusy flat))
    (t.call 0).state = .seeking ∧ t.seekQueue 2 = [0] ∧ (t.link (.riser 2)).tx = [] := by decide +kernel
theorem witness_DeskCallsRingTheHead_dialling :
    let s := deskFree (dialling [4])
    (s.call 0).state = .dialling ∧ s.station 1 0 = some 0 ∧ (s.call 0).origin = some (.station 1 0) ∧
      (s.call 0).waitCount = none ∧ s.stationExists 1 0#8 = true ∧
      s.deliverable (.panel 1) (keyMsg 0#8 0x0C#8) = true ∧ s.idleOrder = 3 :: [] := by decide +kernel
theorem test_keyDesk_dialling :
    let t := run (.keyDesk 1 0#8) (deskFree (dialling [4]))
    (t.call 0).alerted = [.position 3] ∧ (t.call 0).digits = [] := by decide +kernel
theorem witness_DeskCallsRingTheHead_refused :
    let s : State := { flat with mode := .draining }
    s.station 1 0 = none ∧ s.deliverable (.panel 1) (keyMsg 0#8 0x0C#8) = true ∧ s.Heard (.handset 2 17) ∧
      s.deliverable (.riser 2) (bareMsg 17#8 0x15#8) = true ∧ (s.handset 2 17).engaged = none ∧ s.mode ≠ .run ∧
      s.Room [(.riser 2, replyMsg 17#8 .refused)] ∧ (crowded flat).Heard (.handset 2 17) ∧
      (crowded flat).Room ((.riser 2, replyMsg 17#8 .refused) :: (crowded flat).notice 0x20#8) ∧
      (alerting.handset 2 17).engaged ≠ none ∧ alerting.Room [(.riser 2, replyMsg 17#8 .refused)] := by
  delta State.Heard State.Room; decide +kernel
/-- A door of panel 0 in a state, with the timers that state has. -/
def door (d : DoorState) : State :=
  live.setDoor 0
    { state := d
      releaseTimer := match d with
        | .released => some 0
        | _ => none
      heldOpenTimer := match d with
        | .opened => some 0
        | _ => none }
theorem witness_DoorOpenAndHeldOpenExpiry :
    (∀ d : Fin 3, let s := door (#v[DoorState.locked, .released, .opened][d])
      s.stationExists 0 0#8 = true ∧ s.deliverable (.panel 0) (doorMsg 0#8 true) = true ∧ s.Room (s.notice 0x08#8)) ∧
      ((door .opened).door 0).heldOpenTimer = some 0 ∧ ((door .locked).door 0).state = .locked ∧
      ((door .released).door 0).state = .released := by delta State.Room; decide +kernel
theorem witness_DoorShutLocksTheDoor :
    (∀ d : Fin 3, let s := heads (door (#v[DoorState.locked, .released, .opened][d])) (.panel 0) (doorMsg 0#8 false)
      s.stationExists 0 0#8 = true ∧ (s.link (.panel 0)).rx.head? = some (.message (doorMsg 0#8 false))) := by
  decide +kernel
theorem witness_ReleaseTimerExpiryLocksTheDoor :
    let s := door .released
    (s.door 0).state = .released ∧ (s.door 0).releaseTimer = some 0 ∧ s.stationExists 0 0#8 = true ∧
      s.deliverable (.panel 0) (doorMsg 0#8 true) = true ∧ s.deliverable (.panel 0) (doorMsg 0#8 false) = true := by
  decide +kernel
theorem witness_DoorTimers_early :
    ((door .locked).door 0).state ≠ .released ∧ ((door .locked).door 0).heldOpenTimer ≠ some 0 := by decide +kernel

/-! ### Witnesses: handsets and positions -/

theorem witness_HelloReconciles :
    let m (x : Octet) : Message := ⟨17#8, 0x11#8, [x, 0#8]⟩
    (∀ x : Fin 3, flat.deliverable (.riser 2) (m (BitVec.ofNat 8 x.val)) = true) ∧
      (flat.handset 2 17).present = true ∧ flat.roleOf (.handset 2 17) = none ∧
      flat.Room [(.riser 2, clearMsg 17#8 .normal)] ∧ alerting.roleOf (.handset 2 17) = some (0, .alerted) ∧
      (alerting.handset 2 17).present = true ∧
      alerting.Room [(.riser 2, ringHandsetMsg 17#8 (alerting.call 0).ringEntrance 0#8)] := by
  delta State.Room; decide +kernel
theorem witness_HelloReconciles_answerer :
    (conversation.handset 2 17).present = true ∧ conversation.roleOf (.handset 2 17) = some (0, .answerer) ∧
      (conversation.call 0).channelOn 2 = some 1 ∧ conversation.Room [(.riser 2, connectMsg 17#8 1)] ∧
      (conversation.call 0).state ≠ .idle ∧ (conversation.call 0).joined = none := by delta State.Room; decide +kernel
/-- RL2:17 as the origin of a RESIDENT call that seeks its channel, or talks on channel 1. -/
def resident (st : CallState) : State :=
  (flat.setHandset 2 17 { flat.handset 2 17 with engaged := some 0 }).setCall 0
    { CallRecord.blank with
      state := st, kind := some .resident, origin := some (.handset 2 17), resolved := some (deskCopy true [])
      reservations := [(2, 1)] }
theorem witness_HelloReconciles_origin :
    (resident .talking).roleOf (.handset 2 17) = some (0, .origin) ∧ ((resident .talking).call 0).channelOn 2 = some 1 ∧
      ((resident .queued).call 0).state ≠ .talking ∧ ((resident .queued).call 0).state ≠ .idle ∧
      (resident .queued).roleOf (.handset 2 17) = some (0, .origin) := by decide +kernel
/-- RL2:17 ABSENT, and the joined conversation as RL2:17 reports IDLE. -/
def absent (s : State) : State := s.setHandset 2 17 { s.handset 2 17 with present := false, misses := 3 }
theorem witness_HelloReconciles_absent :
    (absent flat).deliverable (.riser 2) ⟨17#8, 0x11#8, [0#8, 1#8]⟩ = true ∧ ((absent flat).handset 2 17).present = false ∧
      (absent flat).roleOf (.handset 2 17) = none ∧ (absent flat).Room ([] ++ (absent flat).notice 0x02#8) := by
  delta State.Room; decide +kernel
theorem test_hello_absent_present :
    let t := run (.hello 2 17 .idle true) (absent flat)
    (t.handset 2 17).present = true ∧ (t.handset 2 17).quiet = true ∧ t.attention = 0x02#8 := by decide +kernel
theorem witness_HelloReconciles_handOver :
    joined.roleOf (.handset 2 17) = some (0, .answerer) ∧ (joined.call 0).joined = some 3 ∧
      (joined.call 0).origin = some (.station 0 0) ∧ (joined.call 0).reservations = [(2, 1)] ∧ joined.seekQueue 2 = [] ∧
      (joined.handset 2 17).watch = [] ∧ joined.Room ((.riser 2, clearMsg 17#8 .normal) :: []) ∧
      (joined.handset 2 17).present = true := by delta State.Room; decide +kernel
theorem witness_HelloReconciles_alone :
    conversation.WaitsAlone 0 ∧ conversation.StandsNowhere 0 ∧
      conversation.Room (conversation.reached ((conversation.call 0).clearingOut .targetHungup) ++ []) := by
  delta State.WaitsAlone State.StandsNowhere State.Room; decide +kernel
theorem witness_AnswerConnectsTheCall :
    (alerting.call 0).state = .alerting ∧ (alerting.call 0).origin = some (.station 0 0) ∧
      (alerting.call 0).joined = none ∧ (alerting.call 0).lastProgress ≠ some .talk ∧
      (alerting.handset 2 17).engaged = some 0 ∧ alerting.Heard (.handset 2 17) ∧
      (alerting.call 0).alerted = [.handset 2 17] ∧ (alerting.call 0).reservations = [(2, 1)] ∧
      alerting.deliverable (.riser 2) (bareMsg 17#8 0x12#8) = true ∧
      alerting.Room [(.riser 2, connectMsg 17#8 1), (.panel 0, progressMsg 0#8 .talk)] := by
  delta State.Heard State.Room; decide +kernel
theorem witness_AnswerConnectsTheCall_position :
    (deskRinging.call 0).state = .alerting ∧ (deskRinging.call 0).joined = none ∧
      (deskRinging.call 0).lastProgress ≠ some .talk ∧ (deskRinging.position 3).engaged = some 0 ∧
      (deskRinging.call 0).alerted = [.position 3] ∧ deskRinging.deliverable .trunk (bareMsg 3#8 0x12#8) = true ∧
      deskRinging.Room [(.trunk, connectMsg 3#8 3), (.panel 0, progressMsg 0#8 .talk)] := by
  delta State.Room; decide +kernel
theorem witness_AnswerConnectsTheCall_members :
    let s := ringingThree
    (s.call 0).state = .alerting ∧ (s.call 0).joined = none ∧ (s.call 0).origin = some (.station 0 0) ∧
      (s.handset 2 17).engaged = some 0 ∧ s.Heard (.handset 2 17) ∧
      (s.call 0).alerted.filter (· ≠ .handset 2 17) = [.handset 2 18, .handset 4 1] ∧ (s.call 0).reservations.Nodup ∧
      (s.call 0).channelOn 2 = some 1 ∧ s.WaitsAlone 0 ∧ s.StandsNowhere 0 ∧
      s.Room ([(.riser 2, connectMsg 17#8 1)] ++
        [(.riser 2, ringStopMsg 18#8 .answeredElsewhere), (.riser 4, ringStopMsg 1#8 .answeredElsewhere)] ++
        [(.panel 0, progressMsg 0#8 .talk)]) := by
  delta State.Heard State.WaitsAlone State.StandsNowhere State.Room; decide +kernel
theorem test_answer_stops_the_others :
    let t := run (.answer (.handset 2 17)) ringingThree
    (t.link (.riser 4)).tx = [ringStopMsg 1#8 .answeredElsewhere] ∧ t.channel 4 0 = none ∧
      (t.link (.riser 2)).tx = [connectMsg 17#8 1, ringStopMsg 18#8 .answeredElsewhere] := by decide +kernel
/-- A call from PL1:1 that waits for the flat of one handset. -/
def waiter (st : CallState) (r : Fin 8) (a : Fin 63) : CallRecord :=
  { CallRecord.blank with
    state := st, kind := some .entrance, origin := some (.station 1 1), digits := [4, 4]
    resolved := some ⟨.flat [(r, a)], false, true, false, 0, [4, 4]⟩, lastProgress := some .wait
    waitCount := if st = .queued then some ⟨.deskWait, 9, false⟩ else none }
/-- Call 1 SEEKING on riser `r` for the free handset `a`, and call 1 CAMPED on that handset. -/
def seeks (s : State) (r : Fin 8) (a : Fin 63) : State :=
  ((s.setHandset r a free).setCall 1 (waiter .seeking r a)).setSeekQueue r [1]
def camps (s : State) (r : Fin 8) (a : Fin 63) : State :=
  (s.setHandset r a { s.handset r a with watch := [1] }).setCall 1 (waiter .camped r a)
/-- What the waiting calls of a riser's one-handset flat must meet. -/
def Waits (s : State) (st : CallState) (r : Fin 8) (a : Fin 63) : Prop :=
  (s.call 1).state = st ∧ (s.call 1).kind ≠ some .resident ∧ (s.call 1).alerted = [] ∧ (s.call 1).reservations = [] ∧
    (s.call 1).resolved = some ⟨.flat [(r, a)], false, true, false, 0, [4, 4]⟩ ∧ (s.handset r a).present = true ∧
    (s.handset r a).quiet = false
/-- Call 0 from PL0:0 alerting RL2:17 and RL4:1. -/
def ringingTwo : State :=
  ((alerting.setHandset 4 1 { free with engaged := some 0 }).setChannel 4 0 (some 0)).setCall 0
    { alerting.call 0 with alerted := [.handset 2 17, .handset 4 1], reservations := [(2, 1), (4, 0)] }
theorem witness_AnswerConnectsTheCall_grants :
    let s := seeks ringingTwo 4 2
    (s.call 0).alerted = [.handset 2 17, .handset 4 1] ∧ (s.call 0).reservations = [(2, 1), (4, 0)] ∧
      (s.handset 4 1).engaged = some 0 ∧ s.StandsNowhere 0 ∧ Waits s .seeking 4 2 ∧ s.seekQueue 4 = 1 :: [] ∧
      (s.handset 4 2).engaged = none ∧ (s.handset 4 1).watch = [] ∧ s.Heard (.handset 2 17) ∧
      s.Room ([(.riser 2, connectMsg 17#8 1)] ++ (s.call 1).ringingOut s.params [(4, 2)] ++
        [(.riser 4, ringStopMsg 1#8 .answeredElsewhere), (.panel 0, progressMsg 0#8 .talk)]) := by
  delta State.StandsNowhere State.Heard State.Room Waits; and_intros <;> decide +kernel
theorem witness_AnswerConnectsTheCall_wakes :
    let s := camps ringingTwo 4 1
    Waits s .camped 4 1 ∧ (s.handset 4 1).watch = 1 :: [] ∧ s.seekQueue 4 = [] ∧ (s.setChannel 4 0 none).FirstFree 4 0 ∧
      s.StandsNowhere 0 ∧
      s.Room ([(.riser 2, connectMsg 17#8 1), (.riser 4, ringStopMsg 1#8 .answeredElsewhere)] ++
        (s.call 1).ringingOut s.params [(4, 1)] ++ [(.panel 0, progressMsg 0#8 .talk)]) := by
  delta State.StandsNowhere State.FirstFree State.Room Waits; and_intros <;> decide +kernel
theorem test_answer_grants_and_wakes :
    ((run (.answer (.handset 2 17)) (seeks ringingTwo 4 2)).call 1).alerted = [.handset 4 2] ∧
      ((run (.answer (.handset 2 17)) (camps ringingTwo 4 1)).call 1).alerted = [.handset 4 1] := by decide +kernel
/-- A RESIDENT call of RL2:17 that rings TL:3, and a DESK-kind call of TL:3 that rings RL2:17. -/
def residentRinging : State :=
  (flat.setPosition 3 ⟨true, some 0⟩).setCall 0
    { CallRecord.blank with
      state := .alerting, kind := some .resident, origin := some (.handset 2 17), resolved := some (deskCopy true [])
      alerted := [.position 3], reservations := [(2, 1)] }
def deskDialled : State :=
  alerting.setCall 0 { alerting.call 0 with kind := some .desk, origin := some (.position 3), lastProgress := none }
theorem witness_AnswerConnectsTheCall_kinds :
    (residentRinging.position 3).engaged = some 0 ∧ (residentRinging.call 0).state = .alerting ∧
      (residentRinging.call 0).channelOn 2 = some 1 ∧ residentRinging.deliverable .trunk (bareMsg 3#8 0x12#8) = true ∧
      residentRinging.Room [(.trunk, connectMsg 3#8 3), (.riser 2, connectMsg 17#8 1)] ∧
      (deskDialled.call 0).origin = some (.position 3) ∧ (deskDialled.handset 2 17).engaged = some 0 ∧
      deskDialled.Heard (.handset 2 17) ∧ (deskDialled.call 0).alerted = [.handset 2 17] ∧
      deskDialled.deliverable (.riser 2) (bareMsg 17#8 0x12#8) = true ∧
      deskDialled.Room [(.riser 2, connectMsg 17#8 1), (.trunk, connectMsg 3#8 3)] := by
  delta State.Heard State.Room; decide +kernel
theorem witness_TalkerRequestsAreAnswered :
    (Talker.handset 2 17).party = some (.handset 2 17) ∧ flat.Heard (.handset 2 17) ∧
      wellFormed (.answer (.handset 2 17)) = true ∧ flat.roleOf (.handset 2 17) = none ∧
      flat.deliverable (.riser 2) (bareMsg 17#8 0x12#8) = true ∧ flat.Room [(.riser 2, clearMsg 17#8 .normal)] ∧
      flat.deliverable (.riser 2) ⟨17#8, 0x16#8, [1#8]⟩ = true ∧ flat.Room [(.riser 2, replyMsg 17#8 .accepted)] ∧
      flat.deliverable (.riser 2) (bareMsg 17#8 0x17#8) = true ∧ flat.Room [(.riser 2, replyMsg 17#8 .refused)] := by
  delta State.Heard State.Room; decide +kernel
theorem witness_TalkerRequestsAreAnswered_position :
    (Talker.position 5#8).party = some (.position 5) ∧ live.Heard (.position 5#8) ∧
      wellFormed (.answer (.position 5#8)) = true ∧ live.roleOf (.position 5) = none ∧
      live.deliverable .trunk (bareMsg 5#8 0x12#8) = true ∧ live.Room [(.trunk, clearMsg 5#8 .normal)] := by
  delta State.Heard State.Room; decide +kernel
theorem witness_TalkerRequestsAreAnswered_extends :
    conversation.Heard (.handset 2 17) ∧ conversation.roleOf (.handset 2 17) = some (0, .answerer) ∧
      (conversation.call 0).state = .talking ∧ (conversation.call 0).extended = false ∧
      conversation.deliverable (.riser 2) (bareMsg 17#8 0x17#8) = true ∧
      conversation.Room [(.riser 2, replyMsg 17#8 .accepted)] := by
  delta State.Heard State.Room; decide +kernel
/-- A record with no alerted member. -/
def unalerted (c : CallRecord) : CallRecord := { c with alerted := [] }
theorem witness_TalkerRequestsAreAnswered_declines :
    ringingThree.roleOf (.handset 2 17) = some (0, .alerted) ∧ (ringingThree.call 0).state = .alerting ∧
      ringingThree.deliverable (.riser 2) (bareMsg 17#8 0x13#8) = true ∧ ringingThree.Heard (.handset 2 17) ∧
      ringingThree.Room [(.riser 2, ringStopMsg 17#8 .declined)] ∧ ringingThree.Heard (.handset 4 1) ∧
      ringingThree.roleOf (.handset 4 1) = some (0, .alerted) ∧ (ringingThree.call 0).channelOn 4 = some 0 ∧
      ringingThree.seekQueue 4 = [] ∧ ringingThree.Room [(.riser 4, ringStopMsg 1#8 .declined)] ∧
      alerting.roleOf (.handset 2 17) = some (0, .alerted) ∧
      (alerting.call 0).alerted.filter (· ≠ .handset 2 17) = [] ∧ alerting.StandsNowhere 0 ∧ alerting.WaitsAlone 0 ∧
      (alerting.call 0).resolved.map (·.fallback) = some false ∧
      alerting.Room (alerting.reached ((.riser 2, ringStopMsg 17#8 .declined) ::
        (unalerted (alerting.call 0)).clearingOut .declined)) := by
  delta State.Heard State.WaitsAlone State.StandsNowhere State.Room; and_intros <;> decide +kernel
theorem witness_TalkerRequestsAreAnswered_declineGrants :
    let s := seeks ringingThree 4 2
    (s.call 0).alerted.filter (· ≠ .handset 4 1) = [.handset 2 17, .handset 2 18] ∧ (s.call 0).channelOn 4 = some 0 ∧
      (s.handset 4 1).watch = [] ∧ s.seekQueue 4 = 1 :: [] ∧ Waits s .seeking 4 2 ∧ (s.handset 4 2).engaged = none ∧
      s.Room ((.riser 4, ringStopMsg 1#8 .declined) :: (s.call 1).ringingOut s.params [(4, 2)]) := by
  delta State.Room Waits; and_intros <;> decide +kernel
theorem witness_TalkerRequestsAreAnswered_declineWakes :
    let s := camps ringingThree 2 17
    Party.handset 2 18 ∈ (s.call 0).alerted.filter (· ≠ .handset 2 17) ∧ (s.handset 2 17).watch = 1 :: [] ∧
      Waits s .camped 2 17 ∧ s.FirstFree 2 0 ∧
      s.Room ((.riser 2, ringStopMsg 17#8 .declined) :: (s.call 1).ringingOut s.params [(2, 17)]) := by
  delta State.FirstFree State.Room Waits; and_intros <;> decide +kernel
theorem test_decline_grants_and_wakes :
    (run (.hangup (.handset 4 1)) (seeks ringingThree 4 2)).channel 4 0 = some 1 ∧
      ((run (.hangup (.handset 2 17)) (camps ringingThree 2 17)).handset 2 17).engaged = some 1 := by decide +kernel
theorem test_hangup_declines :
    let t := run (.hangup (.handset 2 17)) alerting
    (t.call 0).lastCause = some .declined ∧ (t.link (.riser 2)).tx = [ringStopMsg 17#8 .declined] ∧
      (t.link (.panel 0)).tx = [progressMsg 0#8 .noReply] := by decide +kernel
theorem witness_ClearingCommandsClear :
    let s := conversation.setCall 0 { conversation.call 0 with graceBound := some 15, talk := some ⟨-15, 8000⟩ }
    (s.call 0).state ≠ .idle ∧ s.stationExists 0 0#8 = true ∧ s.station 0 0 = some 0 ∧
      (s.call 0).origin = some (.station 0 0) ∧ s.deliverable (.panel 0) (keyMsg 0#8 0x0B#8) = true ∧
      s.deliverable (.riser 2) (bareMsg 17#8 0x13#8) = true ∧ s.roleOf (.handset 2 17) = some (0, .answerer) ∧
      (s.call 0).joined = none ∧ (s.call 0).state = .talking ∧ (s.call 0).graceBound = some 15 ∧
      (s.call 0).talk = some ⟨-15, 8000⟩ ∧ (-15 : Int) ≤ -((15 : Nat) : Int) ∧ -((15 : Nat) : Int) < -14 ∧
      s.inOrigin .trunk = true ∧ s.deliverable .trunk (managementMsg 0x8D#8 [0#8]) = true := by decide +kernel
theorem witness_ClearingCommandsClear_lost :
    let s := conversation.setLink (.riser 2) { conversation.link (.riser 2) with rx := [.lost] }
    (s.link (.riser 2)).rx.head? = some .lost ∧ Party.handset 2 17 ∈ (s.call 0).parties ∧
      (Party.handset 2 17).link = .riser 2 ∧ (resident .queued).roleOf (.handset 2 17) = some (0, .origin) := by
  decide +kernel
theorem witness_ClearingCommandsClear_alone :
    conversation.WaitsAlone 0 ∧ conversation.StandsNowhere 0 ∧ conversation.Heard (.handset 2 17) ∧
      conversation.Room (conversation.reached ((conversation.call 0).clearingOut .callerCancel) ++ []) ∧
      conversation.Room (conversation.reached ((conversation.call 0).clearingOut .timeLimit) ++ []) ∧
      conversation.Room (conversation.reached ((conversation.call 0).clearingOut .linkLost) ++ []) ∧
      conversation.Room (conversation.reached ((conversation.call 0).clearingOut .forced) ++
        [(.trunk, resultMsg 0x8D#8 .ok [])]) := by
  delta State.WaitsAlone State.StandsNowhere State.Heard State.Room; decide +kernel
/-- Call 0 TALKING between PL0:0 and TL:3. -/
def deskTalk : State :=
  (((live.setStation 0 0 (some 0)).setPosition 3 ⟨true, some 0⟩).setCall 0
    { CallRecord.blank with
      state := .talking, kind := some .entrance, origin := some (.station 0 0), answerer := some (.position 3)
      lastProgress := some .talk })
theorem witness_ClearingCommandsClear_wakes :
    let s := seeks conversation 2 18
    let c := camps conversation 2 17
    let d : State := { deskTalk.setCall 1 (waiter .queued 2 17) with deskQueue := [1] }
    (s.call 0).alerted = [] ∧ s.station 0 0 = some 0 ∧ s.mode ≠ .draining ∧ s.StandsNowhere 0 ∧
      (s.call 0).reservations = [(2, 1)] ∧ (s.handset 2 17).engaged = some 0 ∧ Waits s .seeking 2 18 ∧
      s.seekQueue 2 = 1 :: [] ∧ (s.handset 2 18).engaged = none ∧ (s.handset 2 17).watch = [] ∧
      Waits c .camped 2 17 ∧ (c.handset 2 17).watch = 1 :: [] ∧ (c.setChannel 2 1 none).FirstFree 2 0 ∧
      (d.call 0).answerer = some (.position 3) ∧ (d.call 0).reservations = [] ∧ (d.position 3).engaged = some 0 ∧
      (d.position 3).loggedOn = true ∧ d.idleOrder = [] ∧ d.deskQueue = 1 :: [] ∧ (d.call 1).state = .queued ∧
      (d.call 1).waitCount = some ⟨.deskWait, 9, false⟩ ∧
      s.Room (s.reached ((s.call 0).clearingOut .callerCancel) ++ (s.call 1).ringingOut s.params [(2, 18)] ++ []) := by
  delta State.StandsNowhere State.FirstFree State.Room Waits; and_intros <;> decide +kernel
theorem test_cancel_grants_and_wakes :
    (run (.keyCancel 0 0#8) (seeks conversation 2 18)).channel 2 1 = some 1 ∧
      ((run (.keyCancel 0 0#8) (camps conversation 2 17)).handset 2 17).engaged = some 1 := by decide +kernel
theorem test_cancel_wakes_the_desk :
    ((run (.keyCancel 0 0#8) { deskTalk.setCall 1 (waiter .queued 2 17) with deskQueue := [1] }).position 3).engaged =
      some 1 := by decide +kernel
theorem witness_ClearingCommandsClear_turnedDown :
    live.inOrigin .trunk = true ∧ live.deliverable .trunk (managementMsg 0x8D#8 [16#8]) = true ∧
      15 < (16#8 : Octet).toNat ∧ live.Room [(.trunk, resultMsg 0x8D#8 .badArgument [])] ∧
      live.deliverable .trunk (managementMsg 0x8D#8 [15#8]) = true ∧ 15#8 = BitVec.ofNat 8 (15 : CallNo).val ∧
      (live.call 15).state = .idle ∧ live.Room [(.trunk, resultMsg 0x8D#8 .notFound [])] := by
  delta State.Room; decide +kernel
theorem test_callClear_idle :
    ((run (.callClear .trunk [15#8]) live).link .trunk).tx = [resultMsg 0x8D#8 .notFound []] := by decide +kernel
theorem test_clear_order :
    (conversation.call 0).clearingOut .timeLimit =
      [(.panel 0, progressMsg 0#8 .cleared), (.riser 2, clearMsg 17#8 .timeLimit)] := by decide +kernel
theorem witness_OpenDoorStartsARelease :
    let out := [(LinkId.panel 0, unlockMsg 0#8 50), (.panel 0, progressMsg 0#8 .opened), (.riser 2, replyMsg 17#8 .accepted)]
    (Talker.handset 2 17).party = some (.handset 2 17) ∧ conversation.Heard (.handset 2 17) ∧
      wellFormed (.openDoor (.handset 2 17)) = true ∧ conversation.roleOf (.handset 2 17) = some (0, .answerer) ∧
      (conversation.call 0).kind = some .entrance ∧ (conversation.call 0).state = .talking ∧
      (conversation.call 0).origin = some (.station 0 0) ∧ (conversation.door 0).state = .locked ∧
      conversation.deliverable (.riser 2) (bareMsg 17#8 0x14#8) = true ∧ conversation.Room out ∧
      (conversation.link (.panel 0)).state ≠ .down ∧
      ¬ (64 ≤ conversation.journal.length ∨ conversation.params.journalThreshold ≤ conversation.journal.length + 1) := by
  delta State.Heard State.Room; decide +kernel
/-- The conversation with a full journal. -/
def journalFull : State := { conversation with journal := List.replicate 64 ⟨0, 0, 0, 0, .byDesk, none, []⟩ }
theorem witness_OpenDoorStartsARelease_full :
    64 ≤ journalFull.journal.length ∧ journalFull.roleOf (.handset 2 17) = some (0, .answerer) ∧
      (journalFull.call 0).state = .talking ∧
      journalFull.Room ([(.panel 0, unlockMsg 0#8 50), (.panel 0, progressMsg 0#8 .opened),
        (.riser 2, replyMsg 17#8 .accepted)] ++ journalFull.notice 0x10#8) := by delta State.Room; decide +kernel
theorem witness_OpenDoorStartsARelease_refused :
    let opened := conversation.setDoor 0 { state := .opened, releaseTimer := none, heldOpenTimer := none }
    let cut := conversation.setLink (.panel 0) { conversation.link (.panel 0) with state := .down }
    (opened.door 0).state ≠ .locked ∧ opened.Room [(.riser 2, replyMsg 17#8 .already)] ∧
      (cut.door 0).state = .locked ∧ (cut.link (.panel 0)).state = .down ∧
      cut.Room [(.riser 2, replyMsg 17#8 .refused)] ∧ flat.roleOf (.handset 2 17) = none ∧
      flat.Heard (.handset 2 17) ∧ flat.deliverable (.riser 2) (bareMsg 17#8 0x14#8) = true ∧
      flat.Room [(.riser 2, replyMsg 17#8 .refused)] ∧ cut.roleOf (.handset 2 17) = some (0, .answerer) := by
  delta State.Heard State.Room; and_intros <;> decide +kernel
theorem test_openDoor_refused :
    ((run (.openDoor (.handset 2 17)) flat).link (.riser 2)).tx = [replyMsg 17#8 .refused] ∧
      ((run (.openDoor (.handset 2 17)) (conversation.setDoor 0 ⟨.released, some 1, none⟩)).link (.riser 2)).tx = [replyMsg 17#8 .already] := by decide +kernel
/-- The code 44 as DIAL carries it. -/
def field44 : CodeField := ⟨2#8, 0x44#8, 0xFF#8, 0xFF#8⟩
theorem witness_DialRingsTheFlat :
    let s := deskFree flat
    1 ≤ field44.length.toNat ∧ field44.length.toNat ≤ 6 ∧ (∀ d ∈ field44.digits, d ≤ 9) ∧
      (s.position 3).loggedOn = true ∧ (s.position 3).engaged = none ∧ s.mode = .run ∧ s.FirstIdle 0 ∧
      entryOf field44.digits s.directory = some (flatEntry false) ∧
      (flatEntry false).body = .flat [(2, 17)] false true false 0 ∧ (s.handset 2 17).Eligible ∧ s.FirstFree 2 0 ∧
      s.deliverable .trunk ⟨3#8, 0x23#8, field44.octets⟩ = true ∧
      s.Room [(.riser 2, ringHandsetMsg 17#8 0x0F#8 0x03#8), (.trunk, replyMsg 3#8 .accepted)] := by
  delta State.Room State.FirstFree State.FirstIdle Handset.Eligible; decide +kernel
theorem witness_DialRingsTheFlat_waits :
    let s := taken (deskFree flat)
    let c := deskFree (flat.setHandset 2 17 (busyWith []))
    (∀ ch, s.channel 2 ch ≠ none) ∧ (∀ r, r ≠ 2 → s.FirstFree r 0) ∧ (s.handset 2 17).Eligible ∧
      s.Room [(.trunk, replyMsg 3#8 .accepted)] ∧ (c.handset 2 17).engaged.isSome = true ∧
      (c.handset 2 17).watch.length < 2 ∧ entryOf [9] flat.directory = none ∧
      entryOf [7] flat.directory = some ⟨[7], 0x1#4, .barred⟩ := by
  delta State.FirstFree State.Room Handset.Eligible; and_intros <;> decide +kernel
theorem test_dial_waits :
    (run (.dial 3#8 field44) (taken (deskFree flat))).seekQueue 2 = [0] ∧
      ((run (.dial 3#8 field44) (deskFree (flat.setHandset 2 17 (busyWith [])))).handset 2 17).watch = [0] := by
  decide +kernel
theorem test_dial_unknown :
    ((run (.dial 3#8 ⟨1#8, 0x7F#8, 0xFF#8, 0xFF#8⟩) (deskFree flat)).link .trunk).tx = [clearMsg 3#8 .unknown] := by
  decide +kernel
theorem witness_DialRingsTheFlat_refused :
    let s : State := { deskFree flat with mode := .standby }
    s.deliverable .trunk ⟨3#8, 0x23#8, field44.octets⟩ = true ∧ (s.position 3).loggedOn = true ∧
      (s.position 3).engaged = none ∧ s.mode ≠ .run ∧ s.Room [(.trunk, replyMsg 3#8 .refused)] ∧
      (crowded (deskFree flat)).mode = .run ∧ (∀ n, ((crowded (deskFree flat)).call n).state ≠ .idle) ∧
      (crowded (deskFree flat)).Room
        ((.trunk, replyMsg 3#8 .refused) :: (crowded (deskFree flat)).notice 0x20#8) ∧
      (flat.position 3).loggedOn = false ∧ ¬ (CodeField.mk 7#8 0#8 0#8 0#8).length.toNat ≤ 6 := by
  delta State.Room; decide +kernel
theorem witness_LogonAndLogoff :
    let s := deskFree live
    live.deskQueue = [] ∧ live.Room ((.trunk, replyMsg 3#8 .accepted) :: live.notice 0x02#8) ∧
      (live.position 3).loggedOn = false ∧ 3 ∉ live.idleOrder ∧ live.deliverable .trunk (bareMsg 3#8 0x21#8) = true ∧
      s.deskQueue = [] ∧ s.Room ((.trunk, replyMsg 3#8 .accepted) :: s.notice 0x02#8) ∧
      (s.position 3).loggedOn = true ∧ (s.position 3).engaged = none ∧
      s.deliverable .trunk (bareMsg 3#8 0x22#8) = true := by delta State.Room; decide +kernel
/-- Call 0 from PL0:0 on the desk queue, TL:3 LOGGED_OFF, or LOGGED_ON and the last one. -/
def waitsForDesk (on : Bool) : State :=
  { (waiting .queued false none (some ⟨.deskWait, 9, false⟩)).setPosition 3 ⟨on, none⟩ with deskQueue := [0] }
theorem witness_LogonAndLogoff_queue :
    let s := waitsForDesk false
    let t := waitsForDesk true
    (s.position 3).loggedOn = false ∧ 3 ∉ s.idleOrder ∧ s.deskQueue = 0 :: [] ∧ s.idleOrder = [] ∧
      (s.call 0).state = .queued ∧ (s.call 0).waitCount = some ⟨.deskWait, 9, false⟩ ∧
      s.deliverable .trunk (bareMsg 3#8 0x21#8) = true ∧
      s.Room ((.trunk, replyMsg 3#8 .accepted) :: (s.call 0).deskOut 0 3 ++ s.notice 0x02#8) ∧
      (t.position 3).loggedOn = true ∧ (t.position 3).engaged = none ∧ (∀ k, k ≠ 3 → (t.position k).loggedOn = false) ∧
      t.deskQueue = [0] ∧ (t.call 0).state ≠ .idle ∧ t.deliverable .trunk (bareMsg 3#8 0x22#8) = true ∧
      ((t.setPosition 3 ⟨false, none⟩).WaitsAlone 0) ∧
      t.Room ((.trunk, replyMsg 3#8 .accepted) :: t.reached ((t.call 0).clearingOut .noDesk) ++ t.notice 0x02#8) := by
  delta State.WaitsAlone State.Room; and_intros <;> decide +kernel
theorem test_logon_wakes_the_head :
    let t := run (.logon 3#8) (waitsForDesk false)
    (t.call 0).alerted = [.position 3] ∧ t.deskQueue = [] ∧
      (t.link .trunk).tx = [replyMsg 3#8 .accepted, ringPositionMsg 3#8 0 (some (.station 0 0))] := by decide +kernel
theorem test_logoff_empties_the_queue :
    let t := run (.logoff 3#8) (waitsForDesk true)
    (t.call 0).lastCause = some .noDesk ∧ t.deskQueue = [] := by decide +kernel
theorem witness_LogonAndLogoff_unchanged :
    ((deskFree live).position 3).loggedOn = true ∧ (deskFree live).Room [(.trunk, replyMsg 3#8 .accepted)] ∧
      (live.position 3).loggedOn = false ∧ (live.position 3).engaged = none ∧
      ((deskBusy live).position 3).engaged ≠ none ∧ (deskBusy live).Room [(.trunk, replyMsg 3#8 .refused)] := by
  delta State.Room; decide +kernel
theorem test_logoff_engaged :
    ((run (.logoff 3#8) (deskBusy live)).link .trunk).tx = [replyMsg 3#8 .refused] := by decide +kernel
theorem witness_JoinMixesTheCall_refused :
    (live.position 3).loggedOn = false ∧ live.deliverable .trunk ⟨3#8, 0x24#8, [0#8]⟩ = true ∧
      live.Room [(.trunk, replyMsg 3#8 .refused)] ∧ 15 < (16#8 : Octet).toNat ∧
      ((deskBusy live).position 3).engaged ≠ none ∧ ((deskFree live).call 0).state ≠ .talking ∧
      (joined.call 0).joined ≠ none := by delta State.Room; decide +kernel
theorem witness_JoinMixesTheCall :
    let s := deskFree conversation
    (s.position 3).loggedOn = true ∧ (s.position 3).engaged = none ∧ (s.call 0).kind = some .entrance ∧
      (s.call 0).state = .talking ∧ (s.call 0).answerer = some (.handset 2 17) ∧ (s.call 0).joined = none ∧
      (s.call 0).voice = some (switchedVoice 0 0 .neutral 0) ∧ s.deliverable .trunk ⟨3#8, 0x24#8, [0#8]⟩ = true ∧
      s.Room [(.trunk, connectMsg 3#8 3)] := by delta State.Room; decide +kernel
theorem witness_JoinMixesTheCall_leaves :
    (joined.call 0).origin = some (.station 0 0) ∧ (joined.call 0).answerer = some (.handset 2 17) ∧
      (joined.call 0).joined = some 3 ∧ (joined.position 3).loggedOn = true ∧ (joined.position 3).engaged = some 0 ∧
      (joined.call 0).alerted = [] ∧ 3 ∉ joined.idleOrder ∧ joined.deskQueue = [] ∧
      joined.deliverable .trunk (bareMsg 3#8 0x13#8) = true ∧ joined.Room [(.trunk, clearMsg 3#8 .normal)] ∧
      (joined.handset 2 17).engaged = some 0 ∧ joined.Heard (.handset 2 17) ∧
      joined.deliverable (.riser 2) (bareMsg 17#8 0x13#8) = true ∧ joined.Room [(.riser 2, clearMsg 17#8 .normal)] := by
  delta State.Heard State.Room; decide +kernel
theorem test_hangup_hands_over :
    let t := run (.hangup (.handset 2 17)) joined
    (t.call 0).answerer = some (.position 3) ∧ (t.call 0).voice = some (switchedVoice 0 0 .neutral 0) ∧
      t.channel 2 1 = none := by decide +kernel
theorem witness_UnservedMessagesAreCountedOrAnswered :
    fitsCatalogue (.panel 0) (keyMsg 0#8 0x0D#8) = false ∧ live.deliverable (.panel 0) (keyMsg 0#8 0x0D#8) = true ∧
      live.inOrigin (.panel 0) = false ∧ live.deliverable (.panel 0) (managementMsg 0x80#8 []) = true ∧
      live.Room ((.panel 0, resultMsg 0x80#8 .refused []) :: live.notice 0x04#8) ∧ live.inOrigin .trunk = true ∧
      (0x7F#8 : Octet).toNat < 0x80 ∧ 0x93 < (0x94#8 : Octet).toNat ∧
      live.deliverable .trunk (managementMsg 0x94#8 []) = true ∧
      live.Room [(.trunk, resultMsg 0x94#8 .unknownRequest [])] := by delta State.Room; decide +kernel
theorem witness_UnservedMessages_short :
    (Instr.setTime .trunk [0#8, 0#8, 0#8]).request = some (.trunk, .setTime, [0#8, 0#8, 0#8]) ∧
      (Instr.dirPut .trunk (List.replicate 11 1#8)).request = some (.trunk, .dirPut, List.replicate 11 1#8) ∧
      live.deliverable .trunk (managementMsg 0x93#8 [0#8, 0#8, 0#8]) = true ∧
      live.Room [(.trunk, resultMsg 0x93#8 .badArgument [])] := by delta State.Room; decide +kernel

/-! ### Witnesses: management -/

/-- A management request may be taken from the trunk, and its RESULT has a place. -/
def Ready (s : State) (type : Octet) (args : List Octet) (out : List (LinkId × Message)) : Prop :=
  s.inOrigin .trunk = true ∧ s.deliverable .trunk (managementMsg type args) = true ∧ s.Room out
/-- The RESULT of a request, on the trunk. -/
def answer (type : Octet) (st : Status) (data : List Octet) : List (LinkId × Message) := [(.trunk, resultMsg type st data)]
theorem witness_ModeCommandsMoveTheMode :
    Ready live 0x80#8 [] (answer 0x80#8 .ok []) ∧ live.mode = .run ∧ Ready live 0x81#8 [] (answer 0x81#8 .ok []) ∧
      (∀ n, (live.call n).state = .idle) ∧ (conversation.call 0).state ≠ .idle ∧ conversation.mode = .run ∧
      Ready { live with mode := .standby } 0x81#8 [] (answer 0x81#8 .notNow []) ∧
      (∀ n, (({ live with mode := .draining } : State).call n).state = .idle) ∧
      ({ live with mode := .draining } : State).Room (({ live with mode := .draining } : State).notice 0x40#8) := by
  delta Ready State.Room; decide +kernel
theorem witness_RestartReturnsEverything : Ready conversation 0x82#8 [] [] := by delta Ready State.Room; decide +kernel
theorem witness_SetAndGetParameters :
    ParamId.ofOctets 0x01#8 0#8 = some .digitTime ∧ Ready live 0x84#8 [0x01#8, 0#8, 0#8, 9#8] (answer 0x84#8 .ok [0#8, 10#8]) ∧
      Ready live 0x85#8 [0x01#8, 0#8] (answer 0x85#8 .ok (be16 50)) ∧ ParamId.ofOctets 0x00#8 0#8 = none ∧
      Ready live 0x84#8 [0x00#8, 0#8, 0#8, 9#8] (answer 0x84#8 .badArgument []) := by
  delta Ready State.Room; decide +kernel
/-- LINK pending and no class in the notice mask: a SET of the mask to 1 gains it. -/
def unmasked : State := { live with attention := 0x01#8 }
theorem witness_SetAndGetParameters_gain :
    ParamId.ofOctets 0x41#8 0#8 = some .noticeMask ∧
      unmasked.attention &&& 0x01#8 &&& ~~~(unmasked.params.noticeMask.setWidth 8) ≠ 0#8 ∧
      Ready unmasked 0x84#8 [0x41#8, 0#8, 0#8, 1#8]
        ((.trunk, attentionMsg 0x01#8) :: answer 0x84#8 .ok [0#8, 1#8]) ∧
      Ready live 0x85#8 [0x00#8, 0#8] (answer 0x85#8 .badArgument []) := by delta Ready State.Room; decide +kernel
theorem test_set_mask_gains :
    ((run (.set .trunk [0x41#8, 0#8, 0#8, 1#8]) unmasked).link .trunk).tx =
      [attentionMsg 0x01#8, resultMsg 0x84#8 .ok [0#8, 1#8]] := by decide +kernel
theorem test_set_clamps_to_lower_bound :
    (run (.set .trunk [0x01#8, 0#8, 0#8, 9#8]) live).params.digitTime = 10 := by decide +kernel
theorem witness_ReadRequestsReturnTheirData :
    Ready live 0x83#8 [] (answer 0x83#8 .ok []) ∧ Ready live 0x8A#8 [0x20#8, 5#8] (answer 0x8A#8 .ok []) ∧
      Ready live 0x8C#8 [15#8, 3#8] (answer 0x8C#8 .ok []) ∧ Ready live 0x8E#8 [0x17#8] (answer 0x8E#8 .ok []) ∧
      (conversation.call 0).resolved = some (copy false) ∧ (live.call 15).resolved = none ∧
      (deskFree live).idleOrder = [] ++ 3 :: [] ∧ (5 : Fin 6) ∉ (deskFree live).idleOrder ∧
      Ready conversation 0x8C#8 [0#8, 1#8] (answer 0x8C#8 .ok []) := by delta Ready State.Room; decide +kernel
theorem witness_ReadRequestsReturnTheirData_turnedDown :
    15 < (16#8 : Octet).toNat ∧ Ready live 0x8C#8 [16#8, 0#8] (answer 0x8C#8 .badArgument []) ∧
      Ready live 0x8C#8 [15#8, 4#8] (answer 0x8C#8 .badArgument []) ∧ partyOfOctets 0x20#8 6#8 = none ∧
      Ready live 0x8A#8 [0x20#8, 6#8] (answer 0x8A#8 .badArgument []) ∧
      Ready live 0x8E#8 [0x04#8] (answer 0x8E#8 .badArgument []) := by delta Ready State.Room; decide +kernel
theorem linkCode_unnamed : ∀ k : LinkId, (0x04#8 : Octet) ≠ k.code :=
  forall_link (by decide) (by decide) (by decide)
theorem partyCode_unnamed : ∀ x : Party, (0x04#8 : Octet) ≠ x.link.code ∨ (0#8 : Octet) ≠ x.addr :=
  fun x => .inl (linkCode_unnamed x.link)
theorem test_reads_turned_down :
    ((run (.partyGet .trunk [0x20#8, 6#8]) live).link .trunk).tx = [resultMsg 0x8A#8 .badArgument []] ∧
      ((run (.linkGet .trunk [0x04#8]) live).link .trunk).tx = [resultMsg 0x8E#8 .badArgument []] := by decide +kernel
/-- The voice state of the latest period completed, not of the join after it (R124). -/
theorem test_callGet_latest_period :
    let s := run (.join 3#8 0#8) (deskFree (run .voiceFramePeriod conversation))
    ((s.call 0).part3).take 5 = [1#8, 0#8, 212#8, 0#8, 43#8] := by decide +kernel
theorem witness_WriteRequestsWrite :
    Ready live 0x8B#8 [0x12#8, 17#8, 1#8] (answer 0x8B#8 .ok [1#8]) ∧ Ready live 0x90#8 [0xFF#8] (answer 0x90#8 .ok []) ∧
      Ready live 0x90#8 [(LinkId.riser 7).code] (answer 0x90#8 .ok []) ∧
      Ready live 0x93#8 [0#8, 0#8, 0#8, 1#8] (answer 0x93#8 .ok []) := by delta Ready State.Room; decide +kernel
theorem witness_WriteRequestsWrite_turnedDown :
    (∀ (r : Fin 8) (h : Fin 63), (0x00#8 : Octet) ≠ (LinkId.riser r).code ∨ (0#8 : Octet) ≠ BitVec.ofNat 8 h.val) ∧
      Ready live 0x8B#8 [0x00#8, 0#8, 0#8] (answer 0x8B#8 .badArgument []) ∧ 1 < (2#8 : Octet).toNat ∧
      Ready live 0x8B#8 [0x12#8, 17#8, 2#8] (answer 0x8B#8 .badArgument []) ∧ (0x04#8 : Octet) ≠ 0xFF#8 ∧
      Ready live 0x90#8 [0x04#8] (answer 0x90#8 .badArgument []) := by
  delta Ready State.Room; and_intros <;> decide +kernel
theorem test_partySet_of_a_station :
    ((run (.partySet .trunk [0x00#8, 0#8, 0#8]) live).link .trunk).tx = [resultMsg 0x8B#8 .badArgument []] := by
  decide +kernel
theorem witness_AckAttentionTakesClassesOut :
    Ready live 0x92#8 [0x7F#8] (answer 0x92#8 .ok [0#8]) ∧ (0x7F#8 : Octet).getLsbD 7 = false ∧
      Ready live 0x92#8 [0x80#8] (answer 0x92#8 .badArgument []) ∧ (0x80#8 : Octet).getLsbD 7 = true := by
  delta Ready State.Room; decide +kernel
theorem witness_LinkResetTakesLinkDown :
    Ready live 0x8F#8 [0#8] (answer 0x8F#8 .ok []) ∧ LinkId.trunk ≠ .panel 0 ∧ (live.link (.panel 0)).state ≠ .down ∧
      Ready hunting 0x8F#8 [0#8] (answer 0x8F#8 .ok []) ∧ (hunting.link (.panel 0)).state = .down := by
  delta Ready State.Room; decide +kernel
theorem witness_LinkResetTakesLinkDown_more :
    Ready live 0x8F#8 [0x04#8] (answer 0x8F#8 .badArgument []) ∧ Ready live 0x8F#8 [LinkId.trunk.code] [] ∧
      (live.link .trunk).state ≠ .down ∧ (∀ r a, (live.handset r a).watch = []) ∧ live.deskQueue = [] ∧
      (∀ r a, (live.handset r a).present = false) ∧ (∀ q, (live.position q).loggedOn = false) ∧
      (flat.handset 2 17).present = true ∧ flat.Room ([(.trunk, resultMsg 0x8F#8 .ok [])] ++ flat.notice 0x03#8) := by
  delta Ready State.Room; and_intros <;> decide +kernel
theorem test_linkReset_answers :
    ((run (.linkReset .trunk [0x00#8]) live).link .trunk).tx = [resultMsg 0x8F#8 .ok []] ∧
      ((run (.linkReset .trunk [LinkId.trunk.code]) live).link .trunk).tx = [] := by decide +kernel
/-- LINK in the notice mask, with nothing pending. -/
def noticing : State := { live with params := { live.params with noticeMask := 0x01#16 } }
theorem witness_LinkResetTakesLinkDown_noticed :
    Ready noticing 0x8F#8 [0#8] (noticing.notice 0x01#8 ++ [(.trunk, resultMsg 0x8F#8 .ok [])]) ∧
      noticing.notice 0x01#8 = [(.trunk, attentionMsg 0x01#8)] ∧ (noticing.link (.panel 0)).state ≠ .down ∧
      LinkId.trunk ≠ .panel 0 := by delta Ready State.Room; decide +kernel
/-- The ATTENTION of the LINK that a LINK_RESET raises goes before its RESULT (R189). -/
theorem test_linkReset_notice_first :
    ((run (.linkReset .trunk [0x00#8]) noticing).link .trunk).tx = [attentionMsg 0x01#8, resultMsg 0x8F#8 .ok []] := by
  decide +kernel
/-- The state with a request at the head of the trunk's receive queue. -/
def asked (s : State) (type : Octet) (args : List Octet) : State := heads s .trunk (managementMsg type args)
theorem witness_JournalReadTakesTheOldest :
    ((asked journalFull 0x91#8 []).link .trunk).rx.head? = some (.message (managementMsg 0x91#8 [])) ∧
      (asked journalFull 0x91#8 []).journal.head? = some ⟨0, 0, 0, 0, .byDesk, none, []⟩ ∧
      (asked journalFull 0x91#8 []).Room (answer 0x91#8 .ok []) ∧
      ((asked live 0x91#8 []).link .trunk).rx.head? = some (.message (managementMsg 0x91#8 [])) ∧
      (asked live 0x91#8 []).journal = [] ∧ (asked live 0x91#8 []).Room (answer 0x91#8 .notFound []) := by
  delta State.Room; decide +kernel
theorem flat_ordered : DirectoryOrdered flat := by
  have h := witness_DirectoryStaysOrdered
  exact ⟨h.size, h.order, h.entries⟩
theorem witness_DirPutReplacesOrInserts :
    DirectoryOrdered flat ∧ (flatEntry true).wellKept ∧ Ready flat 0x86#8 (entryOctets (flatEntry true)) (answer 0x86#8 .ok []) ∧
      (∃ x ∈ flat.directory, x.code = (flatEntry true).code) ∧
      Ready flat 0x86#8 (entryOctets ⟨[9], 1#4, .desk⟩) (answer 0x86#8 .ok []) ∧
      (∀ x ∈ flat.directory, x.code ≠ [9]) ∧ flat.directory.length < 1024 :=
  ⟨flat_ordered, flatEntry_wellKept true, by delta Ready State.Room; decide +kernel,
    ⟨flatEntry false, by decide +kernel, rfl⟩, by delta Ready State.Room; decide +kernel, by decide +kernel,
    by decide +kernel⟩
theorem witness_DirPutReplacesOrInserts_fails :
    Ready flat 0x86#8 (field44.octets ++ [1#8, 1#8, 0#8, 0#8, 0#8, 4#8, 0#8, 1#8] ++ [0#8, 63#8])
      (answer 0x86#8 .badArgument []) ∧ (62 : Nat) < (63#8 : Octet).toNat ∧ 0 < (4#8 : Octet).toNat ∧
      (4#8 : Octet).toNat < 5 := by delta Ready State.Room; decide +kernel
theorem test_dirPut_badArgument :
    ((run (.dirPut .trunk (field44.octets ++ [1#8, 1#8, 0#8, 0#8, 0#8, 4#8, 0#8, 1#8, 0#8, 5#8])) flat).link .trunk).tx =
      [resultMsg 0x86#8 .badArgument []] := by decide +kernel
theorem witness_DirDelRemovesOneCode :
    let s := asked flat 0x87#8 field44.octets
    (s.link .trunk).rx.head? = some (.message (managementMsg 0x87#8 (field44.octets ++ []))) ∧ s.inOrigin .trunk = true ∧
      s.Room (answer 0x87#8 .ok []) ∧ field44.length.toNat = 2 ∧
      s.directory = [] ++ flatEntry false :: book.tail ∧ (flatEntry false).code = field44.digits ∧
      (∀ e ∈ s.directory, e.code ≠ [9]) ∧ ¬ (CodeField.mk 7#8 0#8 0#8 0#8).length.toNat ≤ 6 ∧
      ¬ 1 ≤ (CodeField.mk 0#8 0#8 0#8 0#8).length.toNat := by delta State.Room; decide +kernel
theorem witness_DirReadsReturnEntries :
    Ready flat 0x88#8 field44.octets (answer 0x88#8 .ok []) ∧ flatEntry false ∈ flat.directory ∧
      (flatEntry false).code = field44.digits ∧ field44.length.toNat ≤ 6 ∧ (∀ d ∈ field44.digits, d ≤ 9) ∧
      Ready flat 0x89#8 (CodeField.mk 0#8 0#8 0#8 0#8).octets (answer 0x89#8 .ok []) ∧
      (∀ x ∈ flat.directory, x = flatEntry false ∨ dialBefore (flatEntry false).code x.code = true) ∧
      dialBefore [] (flatEntry false).code = true ∧ (∀ e ∈ flat.directory, dialBefore [7] e.code = false) := by
  delta Ready State.Room; decide +kernel

/-! ### Witnesses: expiries, grants and wakes -/

theorem witness_WaitingAndRingingTimersGiveTheirOutcome :
    (seeking.call 0).state = .seeking ∧ (seeking.call 0).waitCount = some ⟨.seek, 0, false⟩ ∧
      (camped.call 0).state = .camped ∧ (camped.call 0).stateCount = some ⟨.camp, 0⟩ ∧
      (seeking.call 0).resolved.map (·.fallback) = some false ∧
      ((waiting .camped true (some ⟨.camp, 0⟩) none).call 0).resolved.map (·.fallback) = some true ∧
      (∀ q, (flat.position q).loggedOn = false) ∧ ((deskFree flat).position 3).loggedOn = true ∧
      seeking.WaitsAlone 0 ∧ camped.WaitsAlone 0 ∧
      seeking.Room (seeking.reached ((seeking.call 0).clearingOut .congestion) ++ seeking.notice 0x20#8) ∧
      camped.Room (camped.reached ((camped.call 0).clearingOut .busy) ++ camped.notice 0x00#8) := by
  delta State.WaitsAlone State.Room; decide +kernel
theorem witness_WaitingAndRingingTimersGiveTheirOutcome_ringing :
    (alerting.call 0).state = .alerting ∧ alerting.StandsNowhere 0 ∧ (alerting.call 0).stateCount = some ⟨.alert, 0⟩ ∧
      (alerting.call 0).resolved.map (·.fallback) = some false ∧ alerting.WaitsAlone 0 ∧
      alerting.Room (alerting.reached ([(.riser 2, ringStopMsg 17#8 .timeout)] ++
        (unalerted (alerting.call 0)).clearingOut .noAnswer)) ∧
      (deskRinging.call 0).waitCount = some ⟨.deskWait, 0, false⟩ ∧ (deskRinging.call 0).alerted = [.position 3] ∧
      deskRinging.WaitsAlone 0 ∧ deskRinging.StandsNowhere 0 ∧
      ((waiting .queued false none (some ⟨.deskWait, 0, false⟩)).call 0).state = .queued := by
  delta State.StandsNowhere State.WaitsAlone State.Room; and_intros <;> decide +kernel
theorem test_expiry_before_its_time :
    run (.digitTimerExpiry 0) ((dialling [4, 4]).setCall 0
        { (dialling [4, 4]).call 0 with stateCount := some ⟨.digit, 1⟩ }) =
      (dialling [4, 4]).setCall 0 { (dialling [4, 4]).call 0 with stateCount := some ⟨.digit, 1⟩ } := by decide +kernel
theorem witness_DeskExpiryAndWakeRingAPosition :
    (deskRinging.call 0).state = .alerting ∧ (deskRinging.call 0).alerted = [.position 3] ∧
      (deskRinging.call 0).stateCount = some ⟨.deskRing, 0⟩ ∧
      (deskRinging.call 0).waitCount = some ⟨.deskWait, 0, false⟩ ∧ (deskRinging.position 3).loggedOn = true ∧
      (deskRinging.position 3).engaged = some 0 ∧ deskRinging.idleOrder = [] ∧ deskRinging.deskQueue = [] ∧
      (deskRinging.call 0).lastProgress = some .ringback ∧
      deskRinging.Room [(.trunk, ringStopMsg 3#8 .timeout), (.trunk, ringPositionMsg 3#8 0 (some (.station 0 0)))] := by
  delta State.Room; decide +kernel
theorem witness_DeskExpiryAndWakeRingAPosition_hangup :
    deskRinging.deliverable .trunk (bareMsg 3#8 0x13#8) = true ∧ (deskRinging.call 0).origin ≠ some (.position 3) ∧
      deskRinging.Room ((.trunk, ringStopMsg 3#8 .declined) :: (deskRinging.call 0).deskOut 0 3) := by
  delta State.Room; decide +kernel
/-- Beside the ringing call 0: TL:2 free, or call 1 on the desk queue. -/
def deskRotates : State := { deskRinging.setPosition 2 ⟨true, none⟩ with idleOrder := [2] }
def deskContended : State := { deskRinging.setCall 1 (waiter .queued 3 5) with deskQueue := [1] }
theorem witness_DeskExpiryAndWakeRingAPosition_rotates :
    deskRotates.idleOrder = 2 :: [] ∧ deskRotates.deskQueue = [] ∧ (3 : Fin 6) ∉ deskRotates.idleOrder ∧
      (deskRotates.position 3).loggedOn = true ∧ (deskRotates.position 3).engaged = some 0 ∧
      deskRotates.deliverable .trunk (bareMsg 3#8 0x13#8) = true ∧
      deskRotates.Room ((.trunk, ringStopMsg 3#8 .declined) :: (deskRotates.call 0).deskOut 0 2) ∧
      deskContended.deskQueue = 1 :: [] ∧ deskContended.idleOrder = [] ∧ (deskContended.call 1).state = .queued ∧
      (deskContended.call 1).waitCount = some ⟨.deskWait, 9, false⟩ ∧
      deskContended.Room ((.trunk, ringStopMsg 3#8 .timeout) :: (deskContended.call 1).deskOut 1 3 ++
        (deskContended.call 0).telling .wait) ∧
      (∀ k, ((deskRinging.setPosition 3 ⟨false, some 0⟩).position k).loggedOn = false) ∧
      ((deskRinging.setPosition 3 ⟨false, some 0⟩).position 3).engaged = some 0 := by
  delta State.Room; and_intros <;> decide +kernel
/-- The position that declines goes to the tail of the idle order, and the one at the head rings (R16, R88). -/
theorem test_desk_hangup_rotates :
    let t := run (.hangup (.position 3#8)) deskRotates
    (t.call 0).alerted = [.position 2] ∧ t.idleOrder = [3] ∧
      (t.link .trunk).tx = [ringStopMsg 3#8 .declined, ringPositionMsg 2#8 0 (some (.station 0 0))] := by decide +kernel
theorem test_desk_expiry_serves_the_queue :
    let t := run (.deskRingExpiry 0) deskContended
    (t.call 1).alerted = [.position 3] ∧ (t.call 0).state = .queued ∧ t.deskQueue = [0] := by decide +kernel
/-- Call 0 on the desk queue beside a free position, before the wake. -/
def queued : State := { deskFree (waiting .queued false none (some ⟨.deskWait, 9, false⟩)) with deskQueue := [0] }
theorem witness_DeskExpiryAndWakeRingAPosition_wake :
    queued.deskQueue = 0 :: [] ∧ queued.idleOrder = 3 :: [] ∧ (queued.call 0).state = .queued ∧
      (queued.call 0).origin = some (.station 0 0) ∧ (queued.call 0).lastProgress = some .wait ∧
      (queued.call 0).waitCount = some ⟨.deskWait, 9, false⟩ ∧
      queued.Room [(.trunk, ringPositionMsg 3#8 0 (some (.station 0 0))), (.panel 0, progressMsg 0#8 .ringback)] := by
  delta State.Room; decide +kernel
/-- The conversation with the seconds of its talk count given. -/
def counting (x : Int) : State := conversation.setCall 0 { conversation.call 0 with talk := some ⟨x, 8000⟩ }
theorem witness_TalkCountWarningWarnsTheParties :
    ((counting 0).call 0).state = .talking ∧ ((counting 0).call 0).talk = some ⟨0, 8000⟩ ∧ (0 : Int) ≤ 0 ∧
      ((counting 0).call 0).graceBound = none ∧ ((counting 0).call 0).origin = some (.station 0 0) ∧
      ((counting 0).call 0).answerer = some (.handset 2 17) ∧ (0 : Int) < 1 ∧
      ((counting 1).call 0).talk = some ⟨1, 8000⟩ ∧
      (counting 0).Room [(.panel 0, progressMsg 0#8 .warn), (.riser 2, replyMsg 17#8 .warn)] := by
  delta State.Room; decide +kernel
/-- An EXTEND taken first leaves the pending warning without effect (R103). -/
theorem test_extend_before_warning :
    run (.talkCountWarning 0) (run (.extend (.handset 2 17)) (counting 0)) = run (.extend (.handset 2 17)) (counting 0) := by
  decide +kernel
/-- PL0 with a head kept by hold-off. -/
def heldOff : State :=
  live.setLink (.panel 0)
    { live.link (.panel 0) with
      tx := [progressMsg 0#8 .talk, progressMsg 0#8 .warn], holdOffWait := some 0, partnerHoldOff := true }
/-- PL0 with the octets given still to send of its head, a message behind it, and the partner hold-off as given. -/
def midMessage (octets : List Octet) (held : Bool) : State :=
  live.setLink (.panel 0)
    { live.link (.panel 0) with
      tx := [progressMsg 0#8 .talk, progressMsg 1#8 .warn], sending := some octets, partnerHoldOff := held }
theorem witness_DownstreamFrameIsSent_more :
    ((midMessage [1#8, 2#8, 0xE7#8] false).link (.panel 0)).sending = some (1#8 :: 2#8 :: 0xE7#8 :: []) ∧
      ((midMessage [2#8, 0xE7#8] false).link (.panel 0)).sending = some [2#8, 0xE7#8] ∧
      ((midMessage [0xE7#8] false).link (.panel 0)).sending = some [0xE7#8] ∧
      ((midMessage [0xE7#8] false).link (.panel 0)).tx.tail = progressMsg 1#8 .warn :: [] ∧
      ((midMessage [0xE7#8] false).link (.panel 0)).partnerHoldOff = false ∧
      ((midMessage [0xE7#8] true).link (.panel 0)).partnerHoldOff = true ∧
      (∃ b more, (progressMsg 1#8 .warn).lineOctets = b :: more) ∧
      ((heldOff.link (.panel 0)).sending = none ∧ (heldOff.link (.panel 0)).partnerHoldOff = true) ∧
      (sending.link (.panel 0)).handed.length = (LinkId.panel 0).voiceChannels ∧
      ((sending.setLink (.panel 0) { sending.link (.panel 0) with lastDelimiter := false }).link (.panel 0)).lastDelimiter =
        false := by
  refine ⟨?_, ?_, ?_, ?_, ?_, ?_, ⟨_, _, rfl⟩, ?_, ?_, ?_⟩ <;> decide +kernel
/-- The closing delimiter takes the message off the queue, and the next one begins at the octet after it (R166, R167). -/
theorem test_downstream_closes :
    let u := (run (.downstreamFrame (.panel 0)) (midMessage [0xE7#8] false)).link (.panel 0)
    u.line = some (frameOf 0x00#8 0xE7#8 0x01#8 [0#8, 0#8]) ∧ u.tx = [progressMsg 1#8 .warn] := by decide +kernel
/-- A head that the hold-off keeps waits with its wait of 1 s loaded, 8000 frame periods (R168). -/
theorem test_downstream_held :
    let u := (run (.downstreamFrame (.panel 0)) (midMessage [0xE7#8] true)).link (.panel 0)
    u.holdOffWait = some 8000 ∧ u.sending = none ∧ u.tx = [progressMsg 1#8 .warn] := by decide +kernel
theorem witness_HoldOffWaitAndSecondsTick :
    (heldOff.link (.panel 0)).tx = progressMsg 0#8 .talk :: [progressMsg 0#8 .warn] ∧
      (heldOff.link (.panel 0)).holdOffWait = some 0 ∧
      (∀ x ∈ heldOff.notice 0x04#8, (heldOff.link x.1).state ≠ .down ∧ (heldOff.link x.1).tx.length < 8) := by
  decide +kernel
theorem witness_GrantAndWakeRingTheFlat :
    let out := [(LinkId.riser 2, ringHandsetMsg 17#8 0#8 0#8), (.panel 0, progressMsg 0#8 .ringback)]
    (seeking.call 0).origin = some (.station 0 0) ∧ (seeking.call 0).kind = some .entrance ∧
      (seeking.call 0).resolved = some (copy false) ∧ (copy false).targets = .flat [(2, 17)] ∧
      (seeking.call 0).reservations = [] ∧ (seeking.call 0).alerted = [] ∧ (seeking.call 0).ringCadence = none ∧
      (seeking.call 0).lastProgress = some .wait ∧ (seeking.handset 2 17).Eligible ∧ seeking.Room out ∧
      seeking.channel 2 3 = none ∧ seeking.seekQueue 2 = 0 :: [] ∧ (seeking.call 0).state = .seeking ∧
      (camped.call 0).lastProgress = some .wait ∧ (camped.handset 2 17).Eligible ∧ camped.Room out ∧
      camped.FirstFree 2 0 ∧ (camped.handset 2 17).watch = 0 :: [] ∧ (camped.call 0).state = .camped := by
  delta State.Room State.FirstFree Handset.Eligible; decide +kernel
/-- Call 0 of RL2:17 seeking the channel of its RESIDENT call. -/
def residentSeeking : State :=
  ((resident .seeking).setCall 0
    { (resident .seeking).call 0 with reservations := [], waitCount := some ⟨.seek, 9, false⟩ }).setSeekQueue 2 [0]
theorem witness_GrantAndWakeRingTheFlat_resident :
    let s := residentSeeking
    s.channel 2 3 = none ∧ s.seekQueue 2 = 0 :: [] ∧ (s.call 0).state = .seeking ∧ (s.call 0).reservations = [] ∧
      (s.call 0).kind = some .resident ∧ (s.call 0).origin = some (.handset 2 17) ∧
      (s.call 0).waitCount = some ⟨.seek, 9, false⟩ ∧ (s.setSeekQueue 2 []).StandsNowhere 0 ∧
      (∀ k, (s.position k).loggedOn = false) ∧ (deskFree s).idleOrder = 3 :: [] ∧
      (deskFree s).Room ([(.riser 2, replyMsg 17#8 .accepted)] ++ ((deskFree s).call 0).deskOut 0 3) := by
  delta State.StandsNowhere State.Room; and_intros <;> decide +kernel
theorem residentSeeking_forDesk : (residentSeeking.call 0).ForDesk := ⟨deskCopy true [], rfl, rfl⟩
theorem test_grant_resident :
    let t := run (.channelGrant 2 3) (deskFree residentSeeking)
    (t.call 0).reservations = [(2, 3)] ∧ (t.call 0).alerted = [.position 3] ∧
      (t.link (.riser 2)).tx = [replyMsg 17#8 .accepted] := by decide +kernel
/-- Call 0 SEEKING on riser 2 for a handset that is busy, or for one of riser 4, whose channels are taken; call 1 behind it. -/
def passing (busy : Bool) : State :=
  let s := if busy then seeking.setHandset 2 17 (busyWith [])
    else (({ seeking with channels := seeking.channels.set 4 (Vector.replicate 4 (some 5)) } : State).setHandset 4 1
      free).setCall 0 { seeking.call 0 with resolved := some { copy false with targets := .flat [(4, 1)] } }
  ((s.setHandset 2 18 free).setCall 1 (waiter .seeking 2 18)).setSeekQueue 2 [0, 1]
theorem witness_GrantAndWakeRingTheFlat_passes :
    (∀ b, let s := passing b
      s.channel 2 3 = none ∧ s.seekQueue 2 = 0 :: [1] ∧ (s.call 0).state = .seeking ∧ (s.call 0).reservations = [] ∧
        (s.call 0).kind ≠ some .resident ∧ (s.call 0).waitCount = some ⟨.seek, 0, false⟩ ∧
        (s.call 0).telling .wait = [] ∧ (s.call 1).kind ≠ some .resident ∧ (s.call 1).state = .seeking ∧
        (s.call 1).resolved = some ⟨.flat [(2, 18)], false, true, false, 0, [4, 4]⟩ ∧ (s.call 1).reservations = [] ∧
        (s.call 1).alerted = [] ∧ (s.handset 2 18).Eligible ∧ s.Room ([] ++ (s.call 1).ringingOut s.params [(2, 18)])) ∧
      ((passing true).call 0).resolved = some (copy false) ∧ ((passing true).handset 2 17).present = true ∧
      ((passing true).handset 2 17).engaged ≠ none ∧ (copy false).camp = true ∧
      ((passing true).handset 2 17).watch.length < 2 ∧ ((passing false).handset 4 1).Eligible ∧
      ((passing false).call 0).resolved.map (·.targets) = some (.flat [(4, 1)]) ∧
      (∀ d, (passing false).channel 4 d ≠ none) ∧ (seeking.setHandset 2 17 (busyWith [])).seekQueue 2 = 0 :: [] := by
  delta State.Room Handset.Eligible; and_intros <;> decide +kernel
/-- A granted channel the head cannot use goes to the next call, and the head camps or seeks elsewhere (R12, R79). -/
theorem test_grant_passes :
    (∀ b, ((run (.channelGrant 2 3) (passing b)).call 1).alerted = [.handset 2 18]) ∧
      ((run (.channelGrant 2 3) (passing true)).handset 2 17).watch = [0] ∧
      (run (.channelGrant 2 3) (passing false)).seekQueue 4 = [0] := by decide +kernel

/-! ### Witnesses: every call stands where its state says -/

/-- Beside the conversation of call 0, call 1 CAMPED on its handset, call 2 SEEKING on riser 3 and call 3 QUEUED; PL0 has gone
DOWN and its marker waits. -/
def placed : State :=
  let s := camps (((conversation.setStation 1 1 (some 1)).setStation 2 0 (some 2)).setStation 3 0 (some 3)) 2 17
  let t := (s.setCall 2 { waiter .seeking 3 5 with origin := some (.station 2 0) }).setSeekQueue 3 [2]
  let u := t.setCall 3
    { waiter .queued 3 5 with origin := some (.station 3 0), resolved := some (deskCopy false [4, 4]) }
  { (u.setLink (.panel 0) { u.link (.panel 0) with state := .down, rx := [.lost] }) with deskQueue := [3] }
/-- The one watch list of `placed` that is not empty. -/
theorem placed_watch : ∀ r a, (placed.handset r a).watch = if (r, a) = (2, 17) then [1] else [] := by decide +kernel
theorem placed_states : ∀ n : CallNo, n = 0 ∨ n = 1 ∨ n = 2 ∨ n = 3 ∨ (placed.call n).state = .idle := by decide +kernel
theorem placed_camped : ∀ n r a, n ∈ (placed.handset r a).watch → n = 1 ∧ (r, a) = (2, 17) := by
  intro n r a h
  rw [placed_watch] at h
  split at h
  · exact ⟨by simpa using h, by assumption⟩
  · cases h
theorem placed_places : PlacesMatch placed where
  seeking := by decide +kernel
  queued := by decide +kernel
  camped n := by
    constructor
    · intro h
      have : ∀ n, (placed.call n).state = .camped → n ∈ (placed.handset 2 17).watch := by decide +kernel
      exact ⟨2, 17, this n h⟩
    · rintro ⟨r, a, h⟩
      rw [(placed_camped n r a h).1]
      decide +kernel
  oneQueue := by decide +kernel
  oneList n r a r' a' h h' := by
    have x := (placed_camped n r a h).2
    have y := (placed_camped n r' a' h').2
    cases x; cases y; exact ⟨rfl, rfl⟩
  once := ⟨by decide +kernel, by decide +kernel, fun r a => by
    rw [placed_watch]; split <;> simp⟩
  targets n := by
    rcases placed_states n with rfl | rfl | rfl | rfl | h
    · have h : (placed.call 0).state = .talking := by decide +kernel
      rw [h]; trivial
    · have h : (placed.call 1).state = .camped := by decide +kernel
      rw [h]; exact ⟨by decide +kernel, _, _, rfl, rfl⟩
    · have h : (placed.call 2).state = .seeking := by decide +kernel
      rw [h, if_neg (by decide +kernel)]; exact ⟨_, _, rfl, rfl⟩
    · have h : (placed.call 3).state = .queued := by decide +kernel
      rw [h]; exact ⟨_, rfl, rfl⟩
    · rw [h]; trivial
theorem placed_engagements : EngagementsMatch placed where
  engaged x := by
    cases x with
    | station p st => revert p st; decide +kernel
    | handset r a => revert r a; decide +kernel
    | position q => revert q; decide +kernel
  roles n := by
    rcases placed_states n with rfl | rfl | rfl | rfl | h
    iterate 4
      refine ⟨by decide +kernel, by decide +kernel, by decide +kernel, by decide +kernel, fun h => absurd h (by decide +kernel)⟩
    have : ∀ n, (placed.call n).state = .idle → (placed.call n).alerted = [] ∧ (placed.call n).answerer = none ∧
      (placed.call n).joined = none := by decide +kernel
    obtain ⟨h1, h2, h3⟩ := this n h
    simp [h, h1, h2, h3]
  idleOrder := by decide +kernel
  exclusive := by decide +kernel
theorem placed_markers : MarkersFirst placed :=
  ⟨forall_link (by decide +kernel) (by decide +kernel) (by decide +kernel), by decide +kernel, by decide +kernel,
    by decide +kernel⟩
theorem placed_blank : IdleRecordsBlank placed := by delta IdleRecordsBlank; decide +kernel
theorem witness_PartiesStayBounded_places :
    IdleRecordsBlank placed ∧ PlacesMatch placed ∧ EngagementsMatch placed ∧ MarkersFirst placed :=
  ⟨placed_blank, placed_places, placed_engagements, placed_markers⟩
/-- `placed` with TL:3 logged on and free, the last one. -/
def placedDesk : State := { placed.setPosition 3 ⟨true, none⟩ with idleOrder := [3] }
theorem placedDesk_places : PlacesMatch placedDesk :=
  ⟨placed_places.seeking, placed_places.queued, placed_places.camped, placed_places.oneQueue, placed_places.oneList,
    placed_places.once, placed_places.targets⟩
theorem witness_LogonAndLogoff_places :
    PlacesMatch placedDesk ∧ placedDesk.deliverable .trunk (bareMsg 3#8 0x22#8) = true ∧
      (placedDesk.position 3).engaged = none ∧ (placedDesk.position 3).loggedOn = true ∧
      (∀ k, k ≠ 3 → (placedDesk.position k).loggedOn = false) ∧ placedDesk.deskQueue = [3] :=
  ⟨placedDesk_places, by decide +kernel, by decide +kernel, by decide +kernel, by decide +kernel, by decide +kernel⟩
theorem witness_ClearingCommandsClear_marker :
    (placed.link (.panel 0)).rx.head? = some .lost ∧ Party.station 0 0 ∈ (placed.call 0).parties ∧
      (placed.call 0).state = .talking ∧ (∀ m : CallNo, ¬ m < 0) := by decide +kernel
/-- Every call of the lost link clears, a call that the first of them wakes too (R28). -/
theorem test_lostMarker_clears_every_call :
    let s := placed.setCall 1 { placed.call 1 with origin := some (.station 0 1) }
    let t := run (.lostMarker (.panel 0)) s
    (∀ n : CallNo, n.val ≤ 1 → (t.call n).state = .idle ∧ (t.call n).lastCause = some .linkLost) ∧
      (t.call 2).state = .seeking := by decide +kernel
theorem witness_PartiesStayBounded_ringing : (alerting.call 0).ForFlat ∧ (deskRinging.call 0).ForDesk :=
  ⟨⟨copy false, [(2, 17)], rfl, rfl⟩, deskCopy false [], rfl, rfl⟩
theorem test_placed_steps : ∃ t, step { placed with pending := [.lostMarker (.panel 0)] } = .next t := ⟨_, rfl⟩

/-! ### Small tests of commands -/

/-- The mix of Table 6-9, with TL:3 joined to the conversation. -/
theorem test_voice_mix :
    let s := talking ⟨.mixed, 0, 0, some 0, .neutral, 0⟩ 0x4A#8 0x25#8
    let j := s.setCall 0 { s.call 0 with joined := some 3 }
    let p := { j with params := { j.params with trunkGain := 1 } }
    let q := p.setLink .trunk { p.link .trunk with presented := [0x00#8, 0x00#8, 0x00#8, 0x3A#8, 0x00#8, 0x00#8] }
    let t := run .voiceFramePeriod q
    (t.link (.panel 0)).handed = [0x32#8, 0x00#8] ∧ (t.link (.riser 2)).handed = [0x00#8, 0x33#8, 0x00#8, 0x00#8] ∧
      (t.link .trunk).handed = [0x00#8, 0x00#8, 0x00#8, 0x36#8, 0x00#8, 0x00#8] ∧
      (t.call 0).voice.map (·.joinedMeter) = some (some 106) := by decide +kernel
/-- Table 9-13: a message that completes with the queue and the slot full overruns the slot and raises FAULT. -/
theorem test_overrun :
    let s := live.setLink (.panel 2)
      { live.link (.panel 2) with
        rx := [.message (keyMsg 0#8 1#8), .message (keyMsg 0#8 2#8), .message (keyMsg 0#8 0#8), .message (keyMsg 0#8 7#8)]
        holding := some (doorMsg 0#8 true) }
    let t := s.enqueue (.panel 2) (keyMsg 0#8 0x0A#8)
    (t.link (.panel 2)).overruns = 1 ∧ (t.link (.panel 2)).holding = some (keyMsg 0#8 0x0A#8) ∧
      t.attention = 0x04#8 := by decide +kernel
/-- Table 9-13: taking KEY 1 moves the held message to the tail. -/
theorem test_head_taken :
    let s := live.setLink (.panel 2)
      { live.link (.panel 2) with
        rx := [.message (keyMsg 0#8 1#8), .message (keyMsg 0#8 2#8), .message (keyMsg 0#8 0#8), .message (keyMsg 0#8 7#8)]
        holding := some (keyMsg 0#8 0x0A#8) }
    ((run (.keyDigit 2 0#8 1) s).link (.panel 2)).rx =
      [.message (keyMsg 0#8 2#8), .message (keyMsg 0#8 0#8), .message (keyMsg 0#8 7#8), .message (keyMsg 0#8 0x0A#8)] := by
  decide +kernel
/-- After a delimiter the head begins with its address and its type, PROGRESS 0x41 (R167, Table 9-6). -/
theorem test_downstream_opens :
    ((run (.downstreamFrame (.panel 0)) sending).link (.panel 0)).line =
      some (frameOf 0x00#8 0x00#8 0x41#8 [0#8, 0#8]) := by decide +kernel
theorem test_upstream_second_bad_frame :
    ((run (.upstreamFrame (.panel 0) (lineBits [0x5A#8] ++ List.replicate 60 true)) struck).link (.panel 0)).state = .impaired := by decide +kernel
theorem test_upstream_sixteenth_marker :
    ((run (.upstreamFrame (.panel 0) (lineBits (frameOf 0#8 0xE7#8 0xE7#8 [0#8, 0#8]))) hunting).link (.panel 0)).state = .up := by
  decide +kernel
theorem test_upstream_eighth_lost :
    let t := run (.upstreamFrame (.riser 2) (LinkId.riser 2).silentBits) (losing (.riser 2))
    (t.link (.riser 2)).rx = [.lost] ∧ (t.handset 2 17).present = false ∧ t.attention = 0x03#8 := by decide +kernel
theorem test_turnBegin_rolls :
    (run (.turnBegin 2) (turning flat .roll 0)).turn 2 = some ⟨0, .roll, false, 0⟩ := by decide +kernel
theorem test_turnLimit_counts :
    ((run (.turnLimit 2) (inTurn true 0)).link (.riser 2)).checkErrors = 1 := by decide +kernel
/-- 44 is a code, and 441 begins with it: the call waits in DIALLING (R6). -/
theorem test_keyDigit_waits : ((run (.keyDigit 1 0#8 4) (dialling [4])).call 0).state = .dialling := by decide +kernel
theorem test_keyCall_rings : ((run (.keyCall 1 0#8) (dialling [4, 4])).call 0).alerted = [.handset 2 17] := by
  decide +kernel
theorem test_keyDesk_noDesk :
    ((run (.keyDesk 0 0#8) live).link (.panel 0)).tx = [progressMsg 0#8 .busy] := by decide +kernel
theorem test_keyCancel_clears : ((run (.keyCancel 1 0#8) (dialling [4])).call 0).lastCause = some .callerCancel := by
  decide +kernel
theorem test_doorOpen_locked : (run (.doorOpen 0 0#8) (door .locked)).attention = 0x08#8 := by decide +kernel
theorem test_doorShut_released : ((run (.doorShut 0 0#8) (door .released)).door 0).state = .locked := by decide +kernel
theorem test_hello_rings_again :
    ((run (.hello 2 17 .idle false) alerting).link (.riser 2)).tx = [ringHandsetMsg 17#8 0#8 0#8] := by decide +kernel
theorem test_answer_connects :
    ((run (.answer (.handset 2 17)) alerting).link (.riser 2)).tx = [connectMsg 17#8 1] := by decide +kernel
theorem test_hangup_clears :
    let t := run (.hangup (.handset 2 17)) conversation
    (t.call 0).lastCause = some .targetHungup ∧ (t.link (.panel 0)).tx = [progressMsg 0#8 .cleared] ∧
      (t.link (.riser 2)).tx = [clearMsg 17#8 .normal] ∧ t.channel 2 1 = none := by decide +kernel
theorem test_openDoor_releases :
    let t := run (.openDoor (.handset 2 17)) conversation
    (t.door 0).state = .released ∧
      (t.link (.panel 0)).tx = [unlockMsg 0#8 50, progressMsg 0#8 .opened] := by decide +kernel
theorem test_callDesk_noDesk :
    ((run (.callDesk 2 17) flat).link (.riser 2)).tx = [clearMsg 17#8 .busy] := by decide +kernel
theorem test_dial_rings_as_desk :
    ((run (.dial 3#8 field44) (deskFree flat)).link (.riser 2)).tx = [ringHandsetMsg 17#8 0x0F#8 3#8] := by decide +kernel
theorem test_join_connects :
    ((run (.join 3#8 0#8) (deskFree conversation)).link .trunk).tx = [connectMsg 3#8 3] := by decide +kernel
theorem test_join_refused : ((run (.join 3#8 16#8) (deskFree conversation)).link .trunk).tx = [replyMsg 3#8 .refused] := by
  decide +kernel
theorem test_managementRefused :
    let t := run (.managementRefused (.panel 0) 0x80#8 []) live
    (t.link (.panel 0)).tx = [resultMsg 0x80#8 .refused []] ∧ t.refusals = 1 ∧ t.attention = 0x04#8 := by decide +kernel
theorem test_stop_drains : (run (.stop .trunk []) conversation).mode = .draining := by decide +kernel
/-- STATUS right after START: RUN, nothing pending, an empty directory, journal and seconds (R191). -/
theorem test_status :
    ((run (.status .trunk []) live).link .trunk).tx =
      [resultMsg 0x83#8 .ok [1#8, 0#8, 0#8, 0#8, 0#8, 0#8, 0#8, 0#8, 0#8, 0#8, 0#8, 0#8, 0#8, 0#8, 0#8]] := by
  decide +kernel
theorem test_dirDel_keeps_longer :
    (run (.dirDel .trunk field44.octets) flat).directory = book.tail := by decide +kernel
theorem test_dirNext_first :
    ((run (.dirNext .trunk (CodeField.mk 0#8 0#8 0#8 0#8).octets) flat).link .trunk).tx =
      [resultMsg 0x89#8 .ok (entryOctets (flatEntry false))] := by decide +kernel
theorem test_callGet_above : ((run (.callGet .trunk [16#8, 0#8]) live).link .trunk).tx = [resultMsg 0x8C#8 .badArgument []] := by
  decide +kernel
theorem test_seekTimer_congestion :
    let t := run (.seekTimerExpiry 0) seeking
    (t.call 0).lastCause = some .congestion ∧ t.attention = 0x20#8 ∧ t.seekQueue 2 = [] := by decide +kernel
theorem test_deskRing_noAnswer_goes_on : ((run (.deskRingExpiry 0) deskRinging).call 0).alerted = [.position 3] := by
  decide +kernel
/-- A line that was silent for a whole frame period of the link's own clock brings a lost frame (R144). -/
theorem test_silent_line_is_lost :
    let s := { live with links := tableMap (fun u => { u with unclassed := 1 }) live.links }
    s.framePeriod.pending.head? = some (.upstreamFrame (.panel 0) (List.replicate 70 true)) ∧
      ((run (.upstreamFrame (.panel 0) (List.replicate 70 true)) s).link (.panel 0)).lostRun = 1 := by decide +kernel
theorem test_channelGrant : (run (.channelGrant 2 3) seeking).channel 2 3 = some 0 := by decide +kernel
theorem test_campWake : ((run (.campWake 2 17) camped).call 0).state = .alerting := by decide +kernel
theorem test_deskQueueWake : (run .deskQueueWake queued).deskQueue = [] := by decide +kernel
theorem test_holdOff_discards :
    let t := run (.holdOffWaitExpiry (.panel 0)) heldOff
    (t.link (.panel 0)).txDrops = 1 ∧ (t.link (.panel 0)).holdOffWait = some 8000 := by decide +kernel
theorem test_secondsTick_wraps : (run .secondsTick { live with seconds := 4294967295, secondLeft := 0 }).seconds = 0 := by decide +kernel

end Sys2Proof.Tests
end

section
/-!
PROOF. DIR_DEL (O49). First the course of a request whose effects leave the link units and the pending set alone, for
every request; then the code field, the directory edit, and the three outcomes of `judgeDirDel`.
-/

namespace Sys2Proof.Machine

/-! ### Link units and room -/

@[simp] theorem setLink_setLink (s : State) (l : LinkId) (x y : LinkUnit) :
    (s.setLink l x).setLink l y = s.setLink l y := by
  simp [State.setLink]

@[simp] theorem dropHead_withTx (u : LinkUnit) (ms : List Message) :
    (u.withTx ms).dropHead = u.dropHead.withTx ms := by
  cases hh : u.holding <;> simp [LinkUnit.dropHead, LinkUnit.withTx, hh]

theorem link_eq_of_links_eq {s u : State} (h : u.links = s.links) (k : LinkId) : u.link k = s.link k := by
  simp only [State.link, h]

theorem room_singleton {s : State} {l : LinkId} {m : Message} :
    s.Room [(l, m)] ↔ (s.link l).state ≠ .down ∧ (s.link l).tx.length < 8 := by
  simp [State.Room]

/-- Whether there is room for one message does not depend on what it says. -/
theorem room_singleton_congr {s : State} {l : LinkId} {m : Message} (m' : Message) (h : s.Room [(l, m)]) :
    s.Room [(l, m')] :=
  room_singleton.mpr (room_singleton.mp h)

theorem put_of_room_singleton {s : State} {l : LinkId} {m : Message} (h : s.Room [(l, m)]) :
    s.put l m = s.setLink l ((s.link l).withTx [m]) := by
  obtain ⟨hup, hplaces⟩ := room_singleton.mp h
  exact put_of_room m hup hplaces

/-! ### The course of a request that is heard (R180, R181) -/

theorem deliverable_of_head {s : State} {l : LinkId} {m : Message} (h : (s.link l).rx.head? = some (.message m)) :
    s.deliverable l m = true := by
  obtain ⟨rest, hrx⟩ := List.head?_eq_some_iff.mp h
  simp [State.deliverable, hrx]

@[simp] theorem setLink_maskedPending (s : State) (l : LinkId) (u : LinkUnit) :
    (s.setLink l u).maskedPending = s.maskedPending := rfl

/-- The arrival of the message leaves the places for sending as they were. -/
theorem room_arrived {s : State} {l k : LinkId} {m x : Message} (h : s.Room [(k, x)]) :
    (s.arrived l m).Room [(k, x)] := by
  obtain ⟨hup, hplaces⟩ := room_singleton.mp h
  refine room_singleton.mpr ?_
  unfold State.arrived
  by_cases hk : k = l
  · subst hk; split <;> simp [hup, hplaces]
  · split <;> simp [hk, hup, hplaces]

/-- Carrying out or turning down the request leaves the link units and the masked pending set alone. -/
def Answer.Quiet (a : Answer) (s : State) : Prop :=
  (a.state s).links = s.links ∧ (a.state s).maskedPending = s.maskedPending

theorem quiet_turnedDown (st : Status) (s : State) : (Answer.turnedDown st).Quiet s := ⟨rfl, rfl⟩

/-- A quiet answer brings no ATTENTION: its RESULT, put where there is room, is all that is sent. -/
theorem answerRequest_of_quiet {s : State} {l : LinkId} {type : Octet} {a : Answer} (hq : a.Quiet s)
    (hroom : s.Room [(l, a.result type)]) :
    s.answerRequest l type a = (a.state s).setLink l ((s.link l).withTx [a.result type]) := by
  obtain ⟨hlinks, hpending⟩ := hq
  have hlink := link_eq_of_links_eq hlinks l
  have hsettle : (a.state s).settle s = a.state s := settle_of_not_gains (by rw [hpending, gains_self])
  have hput : (a.state s).put l (a.result type) = (a.state s).setLink l ((s.link l).withTx [a.result type]) := by
    rw [put_of_room_singleton (room_singleton.mpr (by simpa [hlink] using room_singleton.mp hroom)), hlink]
  unfold State.answerRequest
  simp only [hsettle, hput]
  exact settle_of_not_gains (by rw [setLink_maskedPending, gains_self])

/-- A request that is heard and answered quietly, with room for its RESULT: its message leaves the queue, its RESULT is
sent, and besides the link units only what the answer itself writes is changed. -/
theorem deliverRequest_of_quiet {s : State} {l : LinkId} {type : Octet} {args : List Octet} {judge : State → Answer}
    {a : Answer} (horigin : s.inOrigin l = true) (hdel : s.deliverable l (managementMsg type args) = true)
    (hjudge : judge (s.arrived l (managementMsg type args)) = a) (hq : a.Quiet (s.arrived l (managementMsg type args)))
    (hroom : s.Room [(l, a.result type)]) :
    s.deliverRequest l type args judge =
      (a.state (s.arrived l (managementMsg type args))).setLink l
        ((s.delivered l (managementMsg type args)).withTx [a.result type]) := by
  have hhead := arrived_head hdel
  have hanswer := answerRequest_of_quiet (type := type) hq (room_arrived hroom)
  simp only [State.deliverRequest, horigin, hdel, hjudge, and_self, if_true, hanswer]
  rw [removeHead_of_head (by simpa [LinkUnit.withTx] using hhead)]
  simp [State.delivered]

/-- The link units after such a request, in the terms of the claims. -/
theorem deliversAndSends_setLink {s u : State} {l : LinkId} {m x : Message} (hlinks : u.links = (s.arrived l m).links) :
    DeliversAndSends s (u.setLink l ((s.delivered l m).withTx [x])) l m [(l, x)] := by
  intro k
  by_cases hk : k = l
  · subst hk; simp
  · have hlink : u.link k = s.link k := (link_eq_of_links_eq hlinks k).trans (arrived_link_ne s m hk)
    simp [hk, Ne.symm hk, hlink]

/-- One of the twenty requests, answered quietly: what each link unit holds, and that nothing changes but the link units
and what the answer writes. -/
theorem takeRequest_of_quiet {s : State} {k : Request} {l : LinkId} {args : List Octet} {judge : State → Answer}
    {a : Answer} (horigin : s.inOrigin l = true) (hdel : s.deliverable l (managementMsg k.code args) = true)
    (hjudge : judge (s.arrived l (managementMsg k.code args)) = a)
    (hq : a.Quiet (s.arrived l (managementMsg k.code args))) (hroom : s.Room [(l, a.result k.code)]) :
    DeliversAndSends s (s.takeRequest k l args judge) l (managementMsg k.code args) [(l, a.result k.code)] ∧
      s.takeRequest k l args judge =
        { a.state (s.arrived l (managementMsg k.code args)) with links := (s.takeRequest k l args judge).links } := by
  have h : s.takeRequest k l args judge = _ := deliverRequest_of_quiet horigin hdel hjudge hq hroom
  rw [h]
  exact ⟨deliversAndSends_setLink hq.1, rfl⟩

/-! ### The code field (R175, Table 2-3) -/

theorem digitsOk_iff (c : Code) : digitsOk c = true ↔ ∀ d ∈ c, d ≤ 9 := by simp [digitsOk]

theorem code_of_good {f : CodeField} (h : 1 ≤ f.length.toNat ∧ f.length.toNat ≤ 6 ∧ ∀ d ∈ f.digits, d ≤ 9) :
    f.code = some f.digits := by
  rw [← digitsOk_iff] at h
  exact if_pos h

theorem code_of_not_good {f : CodeField} (h : ¬ (1 ≤ f.length.toNat ∧ f.length.toNat ≤ 6 ∧ ∀ d ∈ f.digits, d ≤ 9)) :
    f.code = none := by
  rw [← digitsOk_iff] at h
  exact if_neg h

/-! ### The directory (R33, R38) -/

@[simp] theorem dialBefore_self (c : Code) : dialBefore c c = false := by
  induction c with
  | nil => rfl
  | cons d ds ih => simp [dialBefore, ih]

theorem entryOf_eq_none_iff (c : Code) (d : List Entry) : entryOf c d = none ↔ ∀ e ∈ d, e.code ≠ c := by
  simp [entryOf]

/-- In dial order no other entry has the code of the one that stands between `before` and `after`. -/
theorem code_ne_of_ordered {before after : List Entry} {e : Entry}
    (h : (before ++ e :: after).Pairwise fun x y => dialBefore x.code y.code = true) :
    (∀ x ∈ before, x.code ≠ e.code) ∧ ∀ x ∈ after, x.code ≠ e.code := by
  obtain ⟨-, hafter, hbefore⟩ := List.pairwise_append.mp h
  constructor
  · intro x hx heq
    have hlt := hbefore x hx e List.mem_cons_self
    simp [heq] at hlt
  · intro x hx heq
    have hlt := List.rel_of_pairwise_cons hafter hx
    simp [heq] at hlt

/-- The entry with a code is removed from a directory in dial order, and the entries around it keep their order. -/
theorem deleteEntry_of_ordered {before after : List Entry} {e : Entry}
    (h : (before ++ e :: after).Pairwise fun x y => dialBefore x.code y.code = true) :
    deleteEntry e.code (before ++ e :: after) = before ++ after := by
  obtain ⟨hbefore, hafter⟩ := code_ne_of_ordered h
  have keeps : ∀ d : List Entry, (∀ x ∈ d, x.code ≠ e.code) → deleteEntry e.code d = d := fun d hd =>
    List.filter_eq_self.mpr fun x hx => decide_eq_true (hd x hx)
  calc deleteEntry e.code (before ++ e :: after)
      = deleteEntry e.code before ++ deleteEntry e.code after := by simp [deleteEntry]
    _ = before ++ after := by rw [keeps before hbefore, keeps after hafter]

/-! ### The outcomes of DIR_DEL (R38) -/

theorem judgeDirDel_of_bad_code {s : State} {f : CodeField} (h : f.code = none) :
    s.judgeDirDel f = .turnedDown .badArgument := by
  simp [State.judgeDirDel, h]

theorem judgeDirDel_of_absent {s : State} {f : CodeField} {c : Code} (hc : f.code = some c)
    (h : ∀ e ∈ s.directory, e.code ≠ c) : s.judgeDirDel f = .turnedDown .notFound := by
  simp [State.judgeDirDel, hc, (entryOf_eq_none_iff c s.directory).mpr h]

theorem judgeDirDel_of_present {s : State} {f : CodeField} {before after : List Entry} {e : Entry}
    (hc : f.code = some e.code) (hd : s.directory = before ++ e :: after)
    (hord : s.directory.Pairwise fun x y => dialBefore x.code y.code = true) :
    s.judgeDirDel f = .done { s with directory := before ++ after } (be16 (before ++ after).length) := by
  have hfound : entryOf e.code s.directory ≠ none := fun hnone =>
    (entryOf_eq_none_iff _ _).mp hnone e (by simp [hd]) rfl
  have hdeleted : deleteEntry e.code s.directory = before ++ after := by
    rw [hd] at hord ⊢
    exact deleteEntry_of_ordered hord
  simp [State.judgeDirDel, hc, Option.isSome_iff_ne_none, hfound, hdeleted]

/-- DIR_DEL judges the code field its payload begins with; the octets beyond it are ignored. -/
theorem exec_dirDel_octets (l : LinkId) (f : CodeField) (more : List Octet) (s : State) :
    exec (.dirDel l (f.octets ++ more)) s =
      .next (s.takeRequest .dirDel l (f.octets ++ more) fun t => t.judgeDirDel f) := rfl

/-- DIR_DEL at the head of the queue of a link in the origin set, from the outcome of its code field. -/
theorem exec_dirDel_of_quiet {s : State} {l : LinkId} {f : CodeField} {more : List Octet} {a : Answer}
    (horigin : s.inOrigin l = true)
    (hhead : (s.link l).rx.head? = some (.message (managementMsg 0x87#8 (f.octets ++ more))))
    (hjudge : (s.arrived l (managementMsg 0x87#8 (f.octets ++ more))).judgeDirDel f = a)
    (hq : a.Quiet (s.arrived l (managementMsg 0x87#8 (f.octets ++ more)))) (hroom : s.Room [(l, a.result 0x87#8)]) :
    ∃ t, exec (.dirDel l (f.octets ++ more)) s = .next t ∧
      DeliversAndSends s t l (managementMsg 0x87#8 (f.octets ++ more)) [(l, a.result 0x87#8)] ∧
      t = { a.state (s.arrived l (managementMsg 0x87#8 (f.octets ++ more))) with links := t.links } :=
  ⟨_, exec_dirDel_octets l f more s, takeRequest_of_quiet (k := .dirDel) horigin (deliverable_of_head hhead) hjudge hq hroom⟩

/-- A DIR_DEL that is turned down changes nothing. -/
theorem exec_dirDel_of_turnedDown {s : State} {l : LinkId} {f : CodeField} {more : List Octet} {st : Status}
    (horigin : s.inOrigin l = true)
    (hhead : (s.link l).rx.head? = some (.message (managementMsg 0x87#8 (f.octets ++ more))))
    (hjudge : (s.arrived l (managementMsg 0x87#8 (f.octets ++ more))).judgeDirDel f = .turnedDown st)
    (hroom : s.Room [(l, resultMsg 0x87#8 st [])]) :
    ∃ t, exec (.dirDel l (f.octets ++ more)) s = .next t ∧
      DeliversAndSends s t l (managementMsg 0x87#8 (f.octets ++ more)) [(l, resultMsg 0x87#8 st [])] ∧
      t = { s with links := t.links } := by
  obtain ⟨t, hexec, hsends, hframe⟩ := exec_dirDel_of_quiet horigin hhead hjudge (quiet_turnedDown st _) hroom
  rw [Answer.state, arrived_frame] at hframe
  exact ⟨t, hexec, hsends, hframe⟩

/-- Settles O49: the three outcomes of `judgeDirDel`, each answered quietly. -/
theorem dirDelRemovesOneCode : Obligations.DirDelRemovesOneCode := by
  intro s l f more hord horigin hhead hroom good
  refine ⟨fun hbad => ?badCode, fun hgood before after e hd hcode => ?present, fun hgood habsent => ?absent⟩
  case badCode =>
    exact exec_dirDel_of_turnedDown horigin hhead (judgeDirDel_of_bad_code (code_of_not_good hbad)) (hroom _)
  case present =>
    have hjudge := judgeDirDel_of_present (s := s.arrived l (managementMsg 0x87#8 (f.octets ++ more)))
      (hcode ▸ code_of_good hgood) (by simpa using hd) (by simpa using hord.order)
    obtain ⟨t, hexec, hsends, hframe⟩ :=
      exec_dirDel_of_quiet horigin hhead hjudge ⟨rfl, rfl⟩ (room_singleton_congr _ (hroom .ok))
    rw [Answer.state, arrived_frame] at hframe
    exact ⟨t, hexec, hsends, hframe⟩
  case absent =>
    exact exec_dirDel_of_turnedDown horigin hhead
      (judgeDirDel_of_absent (code_of_good hgood) (by simpa using habsent)) (hroom _)

end Sys2Proof.Machine
end

section
/-!
PROOF. The sample code and attenuation (O20, O21). The code is taken apart into a sign, a segment and a step: which octet
they make up, which of them encoding picks for a magnitude (R105), and which magnitude decoding gives them (Table 6-1).
-/

namespace Sys2Proof.Machine

/-! ### Attenuation (R106, Table 6-2) -/

theorem attenuationFactor_le (step : Nat) : attenuationFactor step ≤ 256 := by
  unfold attenuationFactor
  split <;> decide

theorem natAbs_attenuate (step : Nat) (v : Int) :
    (attenuate step v).natAbs = v.natAbs * attenuationFactor step / 256 := by
  unfold attenuate
  split
  · rw [Int.natAbs_neg, Int.natAbs_natCast]
  · rw [Int.natAbs_natCast]

theorem natAbs_attenuate_le (step : Nat) (v : Int) : (attenuate step v).natAbs ≤ v.natAbs := by
  rw [natAbs_attenuate]
  exact Nat.div_le_of_le_mul (Nat.mul_comm 256 _ ▸ Nat.mul_le_mul_left _ (attenuationFactor_le step))

theorem attenuate_nonneg (step : Nat) {v : Int} (hv : 0 ≤ v) : 0 ≤ attenuate step v := by
  rw [attenuate, if_neg (not_lt.mpr hv)]
  exact Int.natCast_nonneg _

@[simp] theorem attenuate_zero (step : Nat) : attenuate step 0 = 0 := by
  simp [attenuate]

theorem attenuate_nonpos (step : Nat) {v : Int} (hv : v ≤ 0) : attenuate step v ≤ 0 := by
  obtain hneg | rfl := hv.lt_or_eq
  · rw [attenuate, if_pos hneg]
    exact neg_nonpos.mpr (Int.natCast_nonneg _)
  · rw [attenuate_zero]

@[simp] theorem attenuate_by_zero (v : Int) : attenuate 0 v = v := by
  simp only [attenuate, attenuationFactor, Nat.mul_div_cancel _ (by decide : 0 < 256)]
  split <;> omega

/-- Settles O21: truncation and the bound from the factor being at most 256, the sign by the sign of the value, and the
halving by the table itself. -/
theorem attenuationNeverExceeds : Obligations.AttenuationNeverExceeds := by
  refine ⟨rfl, fun step v _ => ?_, by decide⟩
  exact ⟨natAbs_attenuate step v, natAbs_attenuate_le step v, attenuate_nonneg step, attenuate_nonpos step,
    attenuate_zero step, attenuate_by_zero v⟩

/-! ### Sign, segment and step of a sample (6-2) -/

/-- The octet of a sign, a segment and a step. -/
def sampleOctet (negative : Bool) (e m : Nat) : Octet :=
  BitVec.ofNat 8 ((if negative then 128 else 0) + e * 16 + m)

/-- The decoded magnitude of a segment and a step (Table 6-1). -/
def sampleMagnitude (e m : Nat) : Nat := if e = 0 then 2 * m else (16 + m) * 2 ^ e + 2 ^ (e - 1)

/-- `e` and `m` are the segment and the step R105 picks for the magnitude `M`. -/
def SegmentStep (M e m : Nat) : Prop :=
  (M < 32 ∧ e = 0 ∧ m = M / 2) ∨ (1 ≤ e ∧ 2 ^ (e + 4) ≤ M ∧ M < 2 ^ (e + 5) ∧ m + 16 = M / 2 ^ e)

theorem toNat_sampleOctet (negative : Bool) {e m : Nat} (he : e ≤ 7) (hm : m ≤ 15) :
    (sampleOctet negative e m).toNat = (if negative then 128 else 0) + e * 16 + m := by
  rw [sampleOctet, BitVec.toNat_ofNat, Nat.mod_eq_of_lt]
  split <;> omega

theorem exists_sampleOctet (o : Octet) : ∃ negative e m, e ≤ 7 ∧ m ≤ 15 ∧ o = sampleOctet negative e m := by
  have he : o.toNat / 16 % 8 ≤ 7 := by omega
  have hm : o.toNat % 16 ≤ 15 := by omega
  refine ⟨decide (128 ≤ o.toNat), _, _, he, hm, BitVec.eq_of_toNat_eq ?_⟩
  have ho := o.isLt
  rw [toNat_sampleOctet _ he hm]
  simp only [decide_eq_true_eq]
  split <;> omega

/-! ### Decoding (Table 6-1) -/

theorem decodeSample_sampleOctet (negative : Bool) {e m : Nat} (he : e ≤ 7) (hm : m ≤ 15) :
    decodeSample (sampleOctet negative e m) =
      if negative then -(sampleMagnitude e m : Int) else sampleMagnitude e m := by
  have hsegment : ((if negative then 128 else 0) + e * 16 + m) / 16 % 8 = e := by split <;> omega
  have hstep : ((if negative then 128 else 0) + e * 16 + m) % 16 = m := by split <;> omega
  have hsign : (if negative then 128 else 0) + e * 16 + m < 128 ↔ ¬ negative := by
    cases negative <;> simp <;> omega
  rw [decodeSample, toNat_sampleOctet negative he hm, hsegment, hstep, ← sampleMagnitude]
  simp only [hsign, ite_not]

theorem natAbs_decodeSample_sampleOctet (negative : Bool) {e m : Nat} (he : e ≤ 7) (hm : m ≤ 15) :
    (decodeSample (sampleOctet negative e m)).natAbs = sampleMagnitude e m := by
  rw [decodeSample_sampleOctet negative he hm]
  split
  · rw [Int.natAbs_neg, Int.natAbs_natCast]
  · rw [Int.natAbs_natCast]

/-- The largest decoded magnitude is that of segment 7 and step 15. -/
theorem sampleMagnitude_le {e m : Nat} (he : e ≤ 7) (hm : m ≤ 15) : sampleMagnitude e m ≤ 4032 := by
  unfold sampleMagnitude
  split
  · omega
  · calc (16 + m) * 2 ^ e + 2 ^ (e - 1)
        ≤ (16 + 15) * 2 ^ 7 + 2 ^ (7 - 1) := by gcongr <;> omega
      _ = 4032 := rfl

theorem natAbs_decodeSample_le (o : Octet) : (decodeSample o).natAbs ≤ 4032 := by
  obtain ⟨negative, e, m, he, hm, rfl⟩ := exists_sampleOctet o
  exact natAbs_decodeSample_sampleOctet negative he hm ▸ sampleMagnitude_le he hm

theorem sampleMagnitude_eq_zero_iff {e m : Nat} : sampleMagnitude e m = 0 ↔ e = 0 ∧ m = 0 := by
  unfold sampleMagnitude
  split <;> simp_all

/-- 0x80 is the negative octet of magnitude 0, so no octet of another magnitude is 0x80. -/
theorem sampleOctet_ne_minusZero (negative : Bool) {e m : Nat} (he : e ≤ 7) (hm : m ≤ 15)
    (hmag : sampleMagnitude e m ≠ 0) : sampleOctet negative e m ≠ 0x80#8 := by
  intro heq
  have htoNat := toNat_sampleOctet negative he hm
  rw [heq, BitVec.toNat_ofNat] at htoNat
  refine hmag (sampleMagnitude_eq_zero_iff.mpr ?_)
  split at htoNat <;> omega

/-! ### Encoding (R105) -/

theorem leadingPlace_eq {M b : Nat} (hlow : 5 ≤ b) (hhigh : b ≤ 11) (hle : 2 ^ b ≤ M) (hlt : M < 2 ^ (b + 1)) :
    leadingPlace M = b := by
  unfold leadingPlace
  interval_cases b <;> split_ifs <;> omega

/-- Every magnitude of a linear value has a segment and a step: from 32 on, its binary logarithm gives the segment. -/
theorem exists_segmentStep {M : Nat} (hM : M ≤ 4095) : ∃ e m, e ≤ 7 ∧ m ≤ 15 ∧ SegmentStep M e m := by
  by_cases hsmall : M < 32
  · exact ⟨0, M / 2, by omega, by omega, .inl ⟨hsmall, rfl, rfl⟩⟩
  · have hlow : 5 ≤ Nat.log 2 M := Nat.le_log_of_pow_le (by omega) (by omega)
    have hhigh : Nat.log 2 M < 12 := Nat.log_lt_of_lt_pow (by omega) (by omega)
    have hle : 2 ^ Nat.log 2 M ≤ M := Nat.pow_log_le_self 2 (by omega)
    have hlt : M < 2 ^ (Nat.log 2 M + 1) := Nat.lt_pow_succ_log_self (by omega) M
    obtain ⟨e, he⟩ : ∃ e, Nat.log 2 M = e + 4 := ⟨Nat.log 2 M - 4, by omega⟩
    rw [he] at hle hlt
    have hscale : 2 ^ (e + 4) = 2 ^ e * 16 := pow_add 2 e 4
    have hstepLow : 16 ≤ M / 2 ^ e := (Nat.le_div_iff_mul_le (by positivity)).mpr (by omega)
    have hstepHigh : M / 2 ^ e < 32 := (Nat.div_lt_iff_lt_mul (by positivity)).mpr (by omega)
    exact ⟨e, M / 2 ^ e - 16, by omega, by omega, .inr ⟨by omega, hle, hlt, by omega⟩⟩

theorem encodeSample_of_segmentStep {y : Int} {e m : Nat} (he : e ≤ 7) (h : SegmentStep y.natAbs e m) :
    encodeSample y = sampleOctet (decide (y < 0)) e m := by
  obtain ⟨hsmall, rfl, rfl⟩ | ⟨hpos, hle, hlt, hm⟩ := h
  · simp [encodeSample, sampleOctet, hsmall]
  · have hplace : leadingPlace y.natAbs = e + 4 := leadingPlace_eq (by omega) (by omega) hle hlt
    have hlarge : ¬ y.natAbs < 32 :=
      not_lt.mpr (le_trans (Nat.pow_le_pow_right (by decide : 0 < 2) (by omega : 5 ≤ e + 4)) hle)
    simp [encodeSample, sampleOctet, hlarge, hplace, ← hm]

/-- The decoded magnitude of a segment and a step lies in their span. -/
theorem segmentStep_sampleMagnitude {e m : Nat} (hm : m ≤ 15) : SegmentStep (sampleMagnitude e m) e m := by
  cases e with
  | zero => exact .inl ⟨by simp [sampleMagnitude]; omega, rfl, by simp [sampleMagnitude]⟩
  | succ k =>
    have hmag : sampleMagnitude (k + 1) m = 2 ^ k + 2 ^ (k + 1) * (16 + m) := by
      simp only [sampleMagnitude, Nat.add_one_ne_zero, if_false, Nat.add_sub_cancel]
      ring
    have hk : 0 < 2 ^ k := by positivity
    have hspan : m * 2 ^ k ≤ 15 * 2 ^ k := Nat.mul_le_mul_right _ hm
    refine .inr ⟨by omega, ?_, ?_, ?_⟩
    · rw [hmag]; ring_nf; omega
    · rw [hmag]; ring_nf; omega
    · rw [hmag, Nat.add_mul_div_left _ _ (by positivity), Nat.div_eq_of_lt (by omega)]; omega

/-- Decoding and encoding keeps the segment and the step, and the sign of every magnitude but 0. -/
theorem encodeSample_decodeSample (o : Octet) : encodeSample (decodeSample o) = if o = 0x80#8 then 0x00#8 else o := by
  obtain ⟨negative, e, m, he, hm, rfl⟩ := exists_sampleOctet o
  by_cases hzero : sampleMagnitude e m = 0
  · obtain ⟨rfl, rfl⟩ := sampleMagnitude_eq_zero_iff.mp hzero
    cases negative <;> decide
  · have hcode : SegmentStep (decodeSample (sampleOctet negative e m)).natAbs e m :=
      natAbs_decodeSample_sampleOctet negative he hm ▸ segmentStep_sampleMagnitude hm
    have hsign : decide (decodeSample (sampleOctet negative e m) < 0) = negative := by
      rw [decodeSample_sampleOctet negative he hm]
      cases negative <;> simp; omega
    rw [encodeSample_of_segmentStep he hcode, hsign, if_neg (sampleOctet_ne_minusZero negative he hm hzero)]

/-! ### The code as a whole -/

theorem natAbs_clampMix_le (y : Int) : (clampMix y).natAbs ≤ 4095 := by
  unfold clampMix
  split_ifs <;> omega

/-- Settles O20: the segment and the step of the magnitude exist, encoding picks them and decoding takes them apart. -/
theorem sampleCodeRoundTrip : Obligations.SampleCodeRoundTrip := by
  refine ⟨fun y hlow hhigh => ?_, encodeSample_decodeSample, fun step o => ?_, natAbs_clampMix_le⟩
  · obtain ⟨e, m, he, hm, hcode⟩ := exists_segmentStep (M := y.natAbs) (by omega)
    rw [encodeSample_of_segmentStep he hcode]
    refine ⟨e, m, he, hm, ?_, hcode, natAbs_decodeSample_sampleOctet _ he hm, ?_⟩
    · simp [toNat_sampleOctet _ he hm]
    · rw [decodeSample_sampleOctet _ he hm]
      by_cases hy : y < 0 <;> simp [hy]
  · exact le_trans (natAbs_attenuate_le step _) (le_trans (natAbs_decodeSample_le o) (by decide))

end Sys2Proof.Machine
end

section
/-!
PROOF. The door contact and the release journal (O34, O55). First a party's delivery that sends nothing and raises
nothing, for every message; then what DOOR SHUT does to the door (R130), and the two outcomes of `judgeJournalRead` (R140).
-/

namespace Sys2Proof.Machine

/-! ### A quiet delivery (R164) -/

/-- A party's message whose effect leaves the link units and the masked pending set alone: it leaves the queue, and
besides that only what the effect writes is changed. -/
theorem deliverParty_of_quiet {s u : State} {l : LinkId} {m : Message} {f : State → State}
    (haddr : m.addr ≠ Config.managementAddress) (hdel : s.deliverable l m = true) (heffect : f (s.arrived l m) = u)
    (hlinks : u.links = (s.arrived l m).links) (hpending : u.maskedPending = (s.arrived l m).maskedPending) :
    s.deliverParty l m f = u.setLink l (s.delivered l m) := by
  have hlink := link_eq_of_links_eq hlinks l
  have hsettle : u.settle (s.arrived l m) = u := settle_of_not_gains (by rw [hpending, gains_self])
  rw [State.deliverParty, if_neg haddr, deliver_of_deliverable f hdel, heffect, hsettle,
    removeHead_of_head (by rw [hlink, arrived_head hdel]), hlink, State.delivered]

/-- The link units after such a delivery, in the terms of the claims. -/
theorem deliversAndSends_nil_setLink {s u : State} {l : LinkId} {m : Message}
    (hlinks : u.links = (s.arrived l m).links) : DeliversAndSends s (u.setLink l (s.delivered l m)) l m [] := by
  intro k
  by_cases hk : k = l
  · subst hk; simp
  · have hlink : u.link k = s.link k := (link_eq_of_links_eq hlinks k).trans (arrived_link_ne s m hk)
    simp [hk, hlink]

/-! ### Messages of a station (R50, R165) -/

/-- A message at the head of its queue needs no arrival. -/
theorem arrived_of_head {s : State} {l : LinkId} {m : Message} (h : (s.link l).rx.head? = some (.message m)) :
    s.arrived l m = s :=
  if_neg fun hempty => by simp [hempty] at h

theorem stationAddress_ne_management (st : Fin 2) : BitVec.ofNat 8 st.val ≠ Config.managementAddress := by
  revert st; decide

/-- A message of a station that exists reaches its block. -/
theorem fromStation_of_exists {s : State} {p : Fin 4} {st : Fin 2} (f : Fin 2 → State → State)
    (h : s.stationExists p (BitVec.ofNat 8 st.val) = true) : s.fromStation p (BitVec.ofNat 8 st.val) f = f st s := by
  have hval : (BitVec.ofNat 8 st.val).toNat = st.val := by rw [BitVec.toNat_ofNat]; omega
  rw [State.fromStation, dif_pos (by omega), if_pos h]
  exact congrArg (f · s) (Fin.ext hval)

/-! ### DOOR SHUT (R130) -/

theorem doorShuts_of_unlocked {s : State} {p : Fin 4} (h : (s.door p).state = .opened ∨ (s.door p).state = .released) :
    s.doorShuts p = s.setDoor p Door.lockedShut := by
  obtain hopened | hreleased := h
  · simp [State.doorShuts, hopened]
  · simp [State.doorShuts, hreleased]

theorem doorShuts_of_locked {s : State} {p : Fin 4} (h : (s.door p).state = .locked) : s.doorShuts p = s := by
  simp [State.doorShuts, h]

/-- DOOR SHUT writes no table but that of the doors. -/
theorem doorShuts_frame (s : State) (p : Fin 4) : s.doorShuts p = { s with doors := (s.doorShuts p).doors } := by
  cases h : (s.door p).state with
  | locked => rw [doorShuts_of_locked h]
  | released => rw [doorShuts_of_unlocked (.inr h)]; rfl
  | opened => rw [doorShuts_of_unlocked (.inl h)]; rfl

@[simp] theorem doorShuts_links (s : State) (p : Fin 4) : (s.doorShuts p).links = s.links := by rw [doorShuts_frame]

@[simp] theorem doorShuts_maskedPending (s : State) (p : Fin 4) : (s.doorShuts p).maskedPending = s.maskedPending := by
  rw [doorShuts_frame]; rfl

/-- DOOR_SHUT at the head of the queue, from a station that exists: its door takes it, and the message leaves the queue. -/
theorem exec_doorShut_of_head {s : State} {p : Fin 4} {st : Fin 2}
    (hexists : s.stationExists p (BitVec.ofNat 8 st.val) = true)
    (hhead : (s.link (.panel p)).rx.head? = some (.message (doorMsg (BitVec.ofNat 8 st.val) false))) :
    exec (.doorShut p (BitVec.ofNat 8 st.val)) s =
      .next ((s.doorShuts p).setLink (.panel p) (s.delivered (.panel p) (doorMsg (BitVec.ofNat 8 st.val) false))) := by
  have harrived := arrived_of_head hhead
  refine congrArg Host.Outcome.next (deliverParty_of_quiet (stationAddress_ne_management st) (deliverable_of_head hhead)
    ?_ (by rw [harrived, doorShuts_links]) (by rw [harrived, doorShuts_maskedPending]))
  rw [harrived, fromStation_of_exists _ hexists]

/-- Settles O34: DOOR_SHUT is a quiet delivery, and the door's state says what it writes. -/
theorem doorShutLocksTheDoor : Obligations.DoorShutLocksTheDoor := by
  intro s p st hexists hhead
  refine ⟨_, exec_doorShut_of_head hexists hhead, ?links, fun hunlocked => ?unlocked, fun hlocked => ?locked⟩
  case links => exact deliversAndSends_nil_setLink (by rw [doorShuts_links, arrived_of_head hhead])
  case unlocked => rw [doorShuts_of_unlocked hunlocked]; rfl
  case locked => rw [doorShuts_of_locked hlocked]; rfl

/-! ### JOURNAL_READ (R140) -/

theorem judgeJournalRead_of_cons {s : State} {j : JournalRecord} {rest : List JournalRecord}
    (h : s.journal = j :: rest) :
    s.judgeJournalRead = .done { s with journal := rest } (j.octets ++ [BitVec.ofNat 8 rest.length]) := by
  simp [State.judgeJournalRead, h]

theorem judgeJournalRead_of_empty {s : State} (h : s.journal = []) : s.judgeJournalRead = .turnedDown .notFound := by
  simp [State.judgeJournalRead, h]

/-- JOURNAL_READ at the head of the queue of a link in the origin set, from its answer. -/
theorem exec_journalRead_of_quiet {s : State} {l : LinkId} {args : List Octet} {a : Answer}
    (horigin : s.inOrigin l = true) (hhead : (s.link l).rx.head? = some (.message (managementMsg 0x91#8 args)))
    (hjudge : s.judgeJournalRead = a) (hq : a.Quiet s) (hroom : s.Room [(l, a.result 0x91#8)]) :
    ∃ t, exec (.journalRead l args) s = .next t ∧
      DeliversAndSends s t l (managementMsg 0x91#8 args) [(l, a.result 0x91#8)] ∧
      t = { a.state s with links := t.links } := by
  have harrived : s.arrived l (managementMsg Request.journalRead.code args) = s := arrived_of_head hhead
  have htaken := takeRequest_of_quiet (k := .journalRead) (judge := State.judgeJournalRead) horigin
    (deliverable_of_head hhead) (by rwa [harrived]) (by rwa [harrived]) hroom
  rw [harrived] at htaken
  exact ⟨_, rfl, htaken⟩

/-- Settles O55: the two outcomes of `judgeJournalRead`, each answered quietly. -/
theorem journalReadTakesTheOldest : Obligations.JournalReadTakesTheOldest := by
  intro s l args horigin hhead
  refine ⟨fun j rest hjournal hroom => ?oldest, fun hempty hroom => ?empty⟩
  case oldest =>
    exact exec_journalRead_of_quiet horigin hhead (judgeJournalRead_of_cons hjournal) ⟨rfl, rfl⟩ hroom
  case empty =>
    exact exec_journalRead_of_quiet horigin hhead (judgeJournalRead_of_empty hempty) (quiet_turnedDown _ s) hroom

end Sys2Proof.Machine
end

section
/-!
PROOF. What the work on calls may write, said once for every function of Machine/Calls.lean: a chain of small moves, each
with the conditions under which it is made. The invariants that every step keeps are read off the moves.
-/

namespace Sys2Proof.Machine

/-! ### Small facts about lists and tables -/

@[simp] theorem tableMap_call (s : State) (f : CallRecord → CallRecord) (n : CallNo) :
    ({ s with calls := tableMap f s.calls } : State).call n = f (s.call n) := by simp [State.call]

/-- A property of states that each step of a fold keeps is kept by the fold. -/
theorem foldl_keeps {σ α : Type} {P : σ → Prop} {f : σ → α → σ} {as : List α} {s : σ}
    (hf : ∀ a ∈ as, ∀ t, P t → P (f t a)) (h : P s) : P (as.foldl f s) := by
  induction as generalizing s with
  | nil => exact h
  | cons a as ih =>
    exact ih (fun b hb => hf b (List.mem_cons_of_mem a hb)) (hf a List.mem_cons_self s h)

/-- A FREE channel written FREE. -/
theorem setChannel_none_of_none {s : State} {r : Fin 8} {c : Fin 4} (h : s.channel r c = none) :
    s.setChannel r c none = s := by
  have hrow : (s.channels[r]).set c none = s.channels[r] := by
    rw [← show (s.channels[r])[c] = none from h]; exact Vector.set_getElem_self c.isLt
  have htable : s.channels.set r ((s.channels[r]).set c none) = s.channels := by
    rw [hrow]; exact Vector.set_getElem_self r.isLt
  rw [State.setChannel, htable]

/-! ### Waiting -/

/-- A call waits on a seek queue, on the desk queue or on a watch list. -/
def State.Waits (s : State) (n : CallNo) : Prop :=
  (∃ r, n ∈ s.seekQueue r) ∨ n ∈ s.deskQueue ∨ ∃ r a, n ∈ (s.handset r a).watch

theorem waits_iff {s : State} {n : CallNo} : s.Waits n ↔ ¬ s.StandsNowhere n := by
  simp only [State.Waits, State.StandsNowhere, not_and_or, not_forall, not_not]

theorem standsNowhere_iff {s : State} {n : CallNo} : s.StandsNowhere n ↔ ¬ s.Waits n := by
  rw [waits_iff, not_not]

theorem waits_of_seekQueue {s : State} {n : CallNo} {r : Fin 8} (h : n ∈ s.seekQueue r) : s.Waits n := .inl ⟨r, h⟩
theorem waits_of_deskQueue {s : State} {n : CallNo} (h : n ∈ s.deskQueue) : s.Waits n := .inr (.inl h)
theorem waits_of_watch {s : State} {n : CallNo} {r : Fin 8} {a : Fin 63} (h : n ∈ (s.handset r a).watch) : s.Waits n :=
  .inr (.inr ⟨r, a, h⟩)

@[simp] theorem leavePlaces_seekQueue (s : State) (n : CallNo) (r : Fin 8) :
    (s.leavePlaces n).seekQueue r = (s.seekQueue r).filter (· ≠ n) := by simp [State.leavePlaces, State.seekQueue]
@[simp] theorem leavePlaces_deskQueue (s : State) (n : CallNo) :
    (s.leavePlaces n).deskQueue = s.deskQueue.filter (· ≠ n) := rfl
@[simp] theorem leavePlaces_handset (s : State) (n : CallNo) (r : Fin 8) (a : Fin 63) :
    (s.leavePlaces n).handset r a =
      { s.handset r a with watch := (s.handset r a).watch.filter (· ≠ n) } := by
  simp [State.leavePlaces, State.handset]
@[simp] theorem leavePlaces_call (s : State) (n m : CallNo) : (s.leavePlaces n).call m = s.call m := rfl

theorem leavePlaces_standsNowhere (s : State) (n : CallNo) : (s.leavePlaces n).StandsNowhere n := by
  simp [State.StandsNowhere]

theorem waits_leavePlaces {s : State} {n m : CallNo} (h : (s.leavePlaces n).Waits m) : s.Waits m := by
  rcases h with ⟨r, h⟩ | h | ⟨r, a, h⟩
  · rw [leavePlaces_seekQueue] at h; exact waits_of_seekQueue (List.mem_of_mem_filter h)
  · exact waits_of_deskQueue (List.mem_of_mem_filter h)
  · rw [leavePlaces_handset] at h; exact waits_of_watch (List.mem_of_mem_filter h)

/-! ### The moves -/

/-- A record holds its power-on values but for the last cause and the releases (R2). -/
def CallRecord.Blank (c : CallRecord) : Prop :=
  c = { CallRecord.blank with lastCause := c.lastCause, releases := c.releases }

theorem idle_of_blank {c : CallRecord} (h : c.Blank) : c.state = .idle := by rw [h]; rfl
theorem kind_of_blank {c : CallRecord} (h : c.Blank) : c.kind = none := by rw [h]; rfl
theorem reservations_of_blank {c : CallRecord} (h : c.Blank) : c.reservations = [] := by rw [h]; rfl
theorem stateCount_of_blank {c : CallRecord} (h : c.Blank) : c.stateCount = none := by rw [h]; rfl
theorem role_of_blank {c : CallRecord} (h : c.Blank) (x : Party) : c.role x = none := by rw [h]; rfl

/-- The record of a call that has ended with a cause (R2, R27). -/
def CallRecord.ended (c : CallRecord) (cause : Cause) : CallRecord :=
  { CallRecord.blank with lastCause := some cause, releases := c.releases }

/-- How the work on calls rewrites a record, short of its reservations and of its end: an IDLE record stays IDLE and a blank
one as it is, a call stays a call, and the releases and the voice are kept. -/
structure RecordMove (c c' : CallRecord) : Prop where
  releases : c'.releases = c.releases
  reservations : c'.reservations = c.reservations
  origin : c'.origin = c.origin
  idle : c'.state = .idle ↔ c.state = .idle
  blank : c.Blank → c' = c
  voice : c'.voice = c.voice
  lastPeriod : c'.lastPeriod = c.lastPeriod

/-- A call that is not IDLE, rewritten into another state than IDLE. -/
theorem recordMove_of_active {c c' : CallRecord} (hc : c.state ≠ .idle) (hc' : c'.state ≠ .idle)
    (h : c'.releases = c.releases ∧ c'.reservations = c.reservations ∧ c'.voice = c.voice ∧
      c'.lastPeriod = c.lastPeriod) (horigin : c'.origin = c.origin := by rfl) : RecordMove c c' :=
  ⟨h.1, h.2.1, horigin, by simp [hc, hc'], fun hb => absurd (idle_of_blank hb) hc, h.2.2.1, h.2.2.2⟩

/-- One write of the work on calls. `T` holds of the calls whose records and places it may touch, `K` of those whose
channels it may touch. -/
inductive CallMove (T K : CallNo → Prop) (s : State) : State → Prop where
  | put (l : LinkId) (m : Message) : CallMove T K s (s.put l m)
  | raise (c : AttentionClass) : CallMove T K s (s.raise c)
  | record (n : CallNo) (c : CallRecord) (hn : T n) (h : RecordMove (s.call n) c) : CallMove T K s (s.setCall n c)
  | retire (n : CallNo) (cause : Cause) (hn : T n) (h : (s.call n).reservations = [])
    (hx : ∀ p st, (s.call n).origin = some (.station p st) → s.station p st ≠ some n) :
    CallMove T K s (s.setCall n ((s.call n).ended cause))
  | reserve (n : CallNo) (r : Fin 8) (c : Fin 4) (rs : List (Fin 8 × Fin 4)) (hn : T n) (hk : K n)
    (hb : ¬ (s.call n).Blank) (h : s.channel r c = none)
    (hrs : rs = (s.call n).reservations ++ [(r, c)] ∨ rs = (r, c) :: (s.call n).reservations) :
    CallMove T K s ((s.setChannel r c (some n)).setCall n { s.call n with reservations := rs })
  | setAside (n : CallNo) (r : Fin 8) (c : Fin 4) (hn : T n) (hk : K n) (h : (r, c) ∈ (s.call n).reservations) :
    CallMove T K s
      ((s.setChannel r c none).setCall n { s.call n with reservations := (s.call n).reservations.erase (r, c) })
  | handset (r : Fin 8) (a : Fin 63) (e : Option CallNo) (w : List CallNo) (he : ∀ m, e = some m → T m ∨ (s.handset r a).engaged = some m)
    (hw : ∀ m ∈ w, m ∈ (s.handset r a).watch ∨ T m)
    (hl : w.length ≤ 2 ∨ w.length ≤ (s.handset r a).watch.length) :
    CallMove T K s (s.setHandset r a { s.handset r a with engaged := e, watch := w })
  | station (p : Fin 4) (st : Fin 2) : CallMove T K s (s.setStation p st none)
  | position (q : Fin 6) (e : Option CallNo) (he : ∀ m, e = some m → T m) :
    CallMove T K s (s.setPosition q { s.position q with engaged := e })
  | seekQueue (r : Fin 8) (q : List CallNo) (hq : ∀ m ∈ q, m ∈ s.seekQueue r ∨ T m) : CallMove T K s (s.setSeekQueue r q)
  | deskQueue (q : List CallNo) (hq : ∀ m ∈ q, m ∈ s.deskQueue ∨ T m)
    (hon : ∀ m ∈ q, m ∈ s.deskQueue ∨ s.loggedOnCount ≠ 0) : CallMove T K s { s with deskQueue := q }
  | leavePlaces (n : CallNo) : CallMove T K s (s.leavePlaces n)
  | idleOrder (o : List (Fin 6)) (ho : s.idleOrder.Nodup → o.Nodup)
    (hq : ∀ q ∈ o, q ∈ s.idleOrder ∨ (s.position q).loggedOn = true) : CallMove T K s { s with idleOrder := o }
  | endDrain : CallMove T K s s.endDrain

/-- Writes of the work on calls, one after another. -/
abbrev CallMoves (T K : CallNo → Prop) : State → State → Prop := Relation.ReflTransGen (CallMove T K)

/-- A fact that every move keeps is kept by a chain of them. -/
theorem CallMoves.keeps {T K : CallNo → Prop} {P : State → Prop} (hP : ∀ s t, CallMove T K s t → P s → P t) {s t : State}
    (h : CallMoves T K s t) (hs : P s) : P t := by
  induction h with
  | refl => exact hs
  | tail _ hm ih => exact hP _ _ hm ih

theorem endDrain_cases (s : State) :
    s.endDrain = s ∨
      (s.mode = .draining ∧ s.allIdle = true ∧ s.endDrain = State.raise { s with mode := .standby } .mode) := by
  unfold State.endDrain
  split
  · rename_i h; exact .inr ⟨h.1, h.2, rfl⟩
  · exact .inl rfl

/-- The end of a drain writes the mode and the pending set alone. -/
theorem endDrain_frame (s : State) : s.endDrain = { s with mode := s.endDrain.mode, attention := s.endDrain.attention } := by
  obtain e | ⟨-, -, e⟩ := endDrain_cases s
  · rw [e]
  · rw [e]; rfl

@[simp] theorem endDrain_call (s : State) (n : CallNo) : s.endDrain.call n = s.call n := by rw [endDrain_frame]; rfl
@[simp] theorem endDrain_link (s : State) (l : LinkId) : s.endDrain.link l = s.link l := by rw [endDrain_frame]; rfl
@[simp] theorem endDrain_handset (s : State) (r : Fin 8) (a : Fin 63) : s.endDrain.handset r a = s.handset r a := by
  rw [endDrain_frame]; rfl
@[simp] theorem endDrain_station (s : State) (p : Fin 4) (st : Fin 2) : s.endDrain.station p st = s.station p st := by
  rw [endDrain_frame]; rfl
@[simp] theorem endDrain_position (s : State) (q : Fin 6) : s.endDrain.position q = s.position q := by
  rw [endDrain_frame]; rfl
@[simp] theorem endDrain_channel (s : State) (r : Fin 8) (c : Fin 4) : s.endDrain.channel r c = s.channel r c := by
  rw [endDrain_frame]; rfl
@[simp] theorem endDrain_seekQueue (s : State) (r : Fin 8) : s.endDrain.seekQueue r = s.seekQueue r := by
  rw [endDrain_frame]; rfl
@[simp] theorem endDrain_deskQueue (s : State) : s.endDrain.deskQueue = s.deskQueue := by rw [endDrain_frame]
@[simp] theorem endDrain_idleOrder (s : State) : s.endDrain.idleOrder = s.idleOrder := by rw [endDrain_frame]

/-- A move brings no call to a place but those it may touch. -/
theorem CallMove.waits {T K : CallNo → Prop} {s t : State} (h : CallMove T K s t) (hs : ∀ m, s.Waits m → T m) :
    ∀ m, t.Waits m → T m := by
  intro m hm
  cases h with
  | handset r a e w he hw hl =>
    obtain ⟨r', hr⟩ | hd | ⟨r', a', hwatch⟩ := hm
    · exact hs m (waits_of_seekQueue hr)
    · exact hs m (waits_of_deskQueue hd)
    · rw [setHandset_handset] at hwatch
      split at hwatch
      · exact (hw m hwatch).elim (fun h => hs m (waits_of_watch h)) id
      · exact hs m (waits_of_watch hwatch)
  | seekQueue r q hq =>
    obtain ⟨r', hr⟩ | hd | ⟨r', a', hwatch⟩ := hm
    · rw [setSeekQueue_seekQueue] at hr
      split at hr
      · exact (hq m hr).elim (fun h => hs m (waits_of_seekQueue h)) id
      · exact hs m (waits_of_seekQueue hr)
    · exact hs m (waits_of_deskQueue hd)
    · exact hs m (waits_of_watch hwatch)
  | deskQueue q hq _ =>
    obtain ⟨r', hr⟩ | hd | ⟨r', a', hwatch⟩ := hm
    · exact hs m (waits_of_seekQueue hr)
    · exact (hq m hd).elim (fun h => hs m (waits_of_deskQueue h)) id
    · exact hs m (waits_of_watch hwatch)
  | leavePlaces n => exact hs m (waits_leavePlaces hm)
  | idleOrder o ho _ => exact hs m hm
  | _ => exact hs m (by simpa [State.Waits] using hm)

theorem CallMoves.waits {T K : CallNo → Prop} {s t : State} (h : CallMoves T K s t) (hs : ∀ m, s.Waits m → T m) :
    ∀ m, t.Waits m → T m :=
  h.keeps (P := fun u => ∀ m, u.Waits m → T m) (fun _ _ hm hs => hm.waits hs) hs

/-- From a state whose waiting calls may all be touched, the work that led to `t` was a chain of moves. -/
def Works (T K : CallNo → Prop) (s t : State) : Prop := (∀ m, s.Waits m → T m) → CallMoves T K s t

theorem Works.refl {T K : CallNo → Prop} (s : State) : Works T K s s := fun _ => .refl

theorem Works.trans {T K : CallNo → Prop} {s t u : State} (h : Works T K s t) (h' : Works T K t u) : Works T K s u :=
  fun hs => (h hs).trans (h' ((h hs).waits hs))

theorem CallMove.works {T K : CallNo → Prop} {s t : State} (h : CallMove T K s t) : Works T K s t := fun _ => .single h

/-- Each function of a fold works, so the fold does. -/
theorem works_foldl {T K : CallNo → Prop} {α : Type} {f : State → α → State} {as : List α} (s : State)
    (hf : ∀ a ∈ as, ∀ t, Works T K t (f t a)) : Works T K s (as.foldl f s) :=
  foldl_keeps (P := Works T K s) (fun a ha t h => h.trans (hf a ha t)) (.refl s)

/-! ### Calls that stand nowhere are spared -/

/-- The work that touches no record but those of other calls. -/
abbrev Spares (n : CallNo) : State → State → Prop := Works (· ≠ n) fun _ => True

/-- A move that may not touch a call leaves its record. -/
theorem CallMove.call_of_not {T K : CallNo → Prop} {s t : State} {n : CallNo} (h : CallMove T K s t) (hn : ¬ T n) :
    t.call n = s.call n := by
  have hne : ∀ {m}, T m → n ≠ m := fun hm e => hn (e ▸ hm)
  cases h with
  | record m c hm _ => simp [hne hm]
  | retire m c hm _ => simp [hne hm]
  | reserve m _ _ _ hm => simp [hne hm]
  | setAside m _ _ hm => simp [hne hm]
  | deskQueue | idleOrder => rfl
  | _ => simp

theorem CallMoves.call_of_not {T K : CallNo → Prop} {s t : State} {n : CallNo} (h : CallMoves T K s t) (hn : ¬ T n) :
    t.call n = s.call n :=
  h.keeps (P := fun u => u.call n = s.call n) (fun _ _ hm hu => (hm.call_of_not hn).trans hu) rfl

/-- The work on calls frees stations and engages none. -/
theorem CallMove.station_eq {T K : CallNo → Prop} {s t : State} (h : CallMove T K s t) (p : Fin 4) (st : Fin 2) :
    t.station p st = s.station p st ∨ t.station p st = none := by
  cases h with
  | station p' st' =>
    rw [setStation_station]
    split
    · exact .inr rfl
    · exact .inl rfl
  | deskQueue | idleOrder | leavePlaces => exact .inl rfl
  | _ => left; simp

theorem CallMoves.station_ne {T K : CallNo → Prop} {s t : State} {p : Fin 4} {st : Fin 2} {n : CallNo}
    (h : CallMoves T K s t) (hs : s.station p st ≠ some n) : t.station p st ≠ some n :=
  h.keeps (P := fun u => u.station p st ≠ some n) (fun _ _ hm hu => (hm.station_eq p st).elim (fun e => by rwa [e]) fun e => by
    rw [e]; exact nofun) hs

/-- A call that stands nowhere is left as it is by the work on the calls that wait, and still stands nowhere. -/
theorem Spares.spared {n : CallNo} {s t : State} (h : Spares n s t) (hs : s.StandsNowhere n) :
    t.call n = s.call n ∧ t.StandsNowhere n := by
  have hw : ∀ m, s.Waits m → m ≠ n := fun m hm e => standsNowhere_iff.mp hs (e ▸ hm)
  exact ⟨(h hw).call_of_not (by simp), standsNowhere_iff.mpr fun ht => (h hw).waits hw n ht rfl⟩

end Sys2Proof.Machine
end

section
/-!
PROOF. The functions of Machine/Calls.lean, in their order, each as a chain of moves (`Works`).
-/

namespace Sys2Proof.Machine

/-! ### One move each -/

section
variable {T K : CallNo → Prop}

theorem works_put (s : State) (l : LinkId) (m : Message) : Works T K s (s.put l m) := (CallMove.put l m).works
theorem works_raise (s : State) (c : AttentionClass) : Works T K s (s.raise c) := (CallMove.raise c).works

theorem works_record {s : State} {n : CallNo} {c : CallRecord} (hn : T n) (h : RecordMove (s.call n) c) :
    Works T K s (s.setCall n c) := (CallMove.record n c hn h).works

theorem works_endDrain (s : State) : Works T K s s.endDrain := CallMove.endDrain.works

theorem works_leavePlaces (s : State) (n : CallNo) : Works T K s (s.leavePlaces n) := (CallMove.leavePlaces n).works

/-- What `tellProgress` can do: nothing, or PROGRESS with the value due, noted in a record that is not IDLE. -/
theorem tellProgress_cases (s : State) (n : CallNo) :
    s.tellProgress n = s ∨ ∃ p st v, (s.call n).state ≠ .idle ∧ (s.call n).origin = some (.station p st) ∧
      (s.call n).state.due = some v ∧ (s.call n).lastProgress ≠ some v ∧
      s.tellProgress n = (s.sendProgress p st v).setCall n { s.call n with lastProgress := some v } := by
  unfold State.tellProgress
  split
  next p st v horigin hdue =>
    split
    · exact .inl rfl
    · refine .inr ⟨p, st, v, fun hidle => ?_, horigin, hdue, ‹_›, rfl⟩
      simp [hidle, CallState.due] at hdue
  next => exact .inl rfl

theorem works_tellProgress (s : State) {n : CallNo} (hn : T n) : Works T K s (s.tellProgress n) := by
  obtain e | ⟨p, st, v, hstate, -, -, -, e⟩ := tellProgress_cases s n
  · rw [e]; exact .refl s
  · rw [e]
    exact (works_put s _ _).trans (works_record hn
      (by rw [put_call]; exact recordMove_of_active hstate hstate ⟨rfl, rfl, rfl, rfl⟩))

/-- A call placed: its record written, and its station told. -/
theorem works_setCall_tell {s t : State} {n : CallNo} {c : CallRecord} (hn : T n) (ht : Works T K s t)
    (h : RecordMove (t.call n) c) : Works T K s ((t.setCall n c).tellProgress n) :=
  (ht.trans (works_record hn h)).trans (works_tellProgress _ hn)

theorem works_enterSeeking {s : State} {n : CallNo} (r : Fin 8) (hn : T n) (h : (s.call n).state ≠ .idle) :
    Works T K s (s.enterSeeking n r) :=
  works_setCall_tell hn
    (CallMove.seekQueue r _ (by simpa [or_imp, forall_and] using ⟨fun _ h => .inl h, .inr hn⟩)).works
    (recordMove_of_active h (by simp) ⟨rfl, rfl, rfl, rfl⟩)

theorem works_enterCamped {s : State} {n : CallNo} {r : Fin 8} {a : Fin 63} (hn : T n) (h : (s.call n).state ≠ .idle)
    (hroom : (s.handset r a).watch.length < 2) : Works T K s (s.enterCamped n r a) :=
  works_setCall_tell hn
    (CallMove.handset r a (s.handset r a).engaged _ (fun _ h => .inr h)
      (by simpa [or_imp, forall_and] using ⟨fun _ h => .inl h, .inr hn⟩) (.inl (by simp; omega))).works
    (recordMove_of_active h (by simp) ⟨rfl, rfl, rfl, rfl⟩)

theorem works_enterAlerting {s : State} {n : CallNo} (hn : T n) (h : (s.call n).state ≠ .idle) :
    Works T K s (s.enterAlerting n) :=
  works_setCall_tell hn (.refl s) (recordMove_of_active h (by simp) ⟨rfl, rfl, rfl, rfl⟩)

/-- The parties that the work on calls engages: a station is engaged by its own key alone. -/
theorem works_engageHandset (s : State) (r : Fin 8) (a : Fin 63) {n : CallNo} (hn : T n) :
    Works T K s (s.engage (.handset r a) n) :=
  (CallMove.handset r a (some n) (s.handset r a).watch (by simpa using .inl hn) (fun _ h => .inl h) (.inr le_rfl)).works

theorem works_engagePosition (s : State) (q : Fin 6) {n : CallNo} (hn : T n) : Works T K s (s.engage (.position q) n) :=
  (CallMove.position q (some n) (by simpa using hn)).works.trans
    (CallMove.idleOrder (s := s.setPosition q { s.position q with engaged := some n })
      (s.idleOrder.filter (· ≠ q)) (fun h => h.filter _) fun _ h => .inl (List.mem_filter.mp h).1).works

@[simp] theorem engage_call (s : State) (x : Party) (n m : CallNo) : (s.engage x n).call m = s.call m := by
  cases x <;> rfl
@[simp] theorem engage_link (s : State) (x : Party) (n : CallNo) (l : LinkId) : (s.engage x n).link l = s.link l := by
  cases x <;> rfl
@[simp] theorem engage_params (s : State) (x : Party) (n : CallNo) : (s.engage x n).params = s.params := by
  cases x <;> rfl

/-! ### The desk -/

theorem works_ringPosition {s : State} {n : CallNo} (q : Fin 6) (hn : T n) (h : (s.call n).state ≠ .idle) :
    Works T K s (s.ringPosition n q) :=
  works_setCall_tell hn ((works_engagePosition s q hn).trans (works_put _ _ _))
    (by rw [put_call, engage_call]; exact recordMove_of_active h (by simp) ⟨rfl, rfl, rfl, rfl⟩)

/-- The record of a call that hunts, its desk wait loaded. -/
def State.hunting (s : State) (n : CallNo) : State :=
  s.setCall n { s.call n with waitCount := huntingWait s.params (s.call n).waitCount }

/-- What the hunt does: nothing for an IDLE record; the head of the idle order is rung; or the call joins the desk queue. -/
theorem deskPlace_of_idle {s : State} {n : CallNo} (h : (s.call n).state = .idle) : s.deskPlace n = s := by
  simp [State.deskPlace, h]

theorem deskPlace_of_cons {s : State} {n : CallNo} {q : Fin 6} {rest : List (Fin 6)} (h : (s.call n).state ≠ .idle)
    (ho : s.idleOrder = q :: rest) :
    s.deskPlace n = State.ringPosition { s.hunting n with idleOrder := rest } n q := by
  simp [State.deskPlace, State.hunting, h, ho]

theorem deskPlace_of_nil {s : State} {n : CallNo} (h : (s.call n).state ≠ .idle) (ho : s.idleOrder = []) :
    s.deskPlace n =
      (State.setCall { s.hunting n with deskQueue := s.deskQueue ++ [n] } n
        { (s.hunting n).call n with state := .queued, stateCount := none }).tellProgress n := by
  simp [State.deskPlace, State.hunting, h, ho]

theorem works_hunting {s : State} {n : CallNo} (hn : T n) (h : (s.call n).state ≠ .idle) : Works T K s (s.hunting n) :=
  works_record hn (recordMove_of_active h h ⟨rfl, rfl, rfl, rfl⟩)

@[simp] theorem hunting_call_self (s : State) (n : CallNo) :
    (s.hunting n).call n = { s.call n with waitCount := huntingWait s.params (s.call n).waitCount } := by
  simp [State.hunting]

/-- A call joins the desk queue only while some position is logged on. -/
theorem works_deskPlace (s : State) {n : CallNo} (hn : T n) (hon : s.idleOrder = [] → s.loggedOnCount ≠ 0) :
    Works T K s (s.deskPlace n) := by
  by_cases h : (s.call n).state = .idle
  · rw [deskPlace_of_idle h]; exact .refl s
  · have hhunt : ((s.hunting n).call n).state ≠ .idle := by simpa using h
    cases ho : s.idleOrder with
    | nil =>
      rw [deskPlace_of_nil h ho]
      refine works_setCall_tell hn ((works_hunting hn h).trans (CallMove.deskQueue _ ?_ ?_).works)
        (recordMove_of_active hhunt (by simp) ⟨rfl, rfl, rfl, rfl⟩)
      · simpa [or_imp, forall_and, State.hunting] using ⟨fun _ h => .inl h, .inr hn⟩
      · exact fun _ _ => .inr (hon ho)
    | cons q rest =>
      rw [deskPlace_of_cons h ho]
      refine ((works_hunting hn h).trans (CallMove.idleOrder rest ?_ ?_).works).trans (works_ringPosition q hn hhunt)
      case refine_2 => exact fun p hp => .inl (by rw [State.hunting, setCall_idleOrder, ho]; exact List.mem_cons_of_mem q hp)
      intro hnodup
      rw [State.hunting, setCall_idleOrder, ho] at hnodup
      exact hnodup.of_cons

theorem works_wakeDesk {s : State} (horder : s.idleOrder ≠ []) : Works T K s s.wakeDesk := by
  unfold State.wakeDesk
  split
  next n rest hq =>
    intro hw
    have hn : T n := hw n (waits_of_deskQueue (by simp [hq]))
    exact ((CallMove.deskQueue rest (by simpa [hq] using fun m h => .inl (.inr h))
      (by simpa [hq] using fun m h => .inl (.inr h))).works.trans (works_deskPlace _ hn fun h => absurd h horder)) hw
  next => exact .refl s

/-- The idle order with a position appended, unless it stands there. -/
theorem works_joinIdle {s : State} {q : Fin 6} (hon : (s.position q).loggedOn = true) :
    Works T K s (if q ∈ s.idleOrder then s else { s with idleOrder := s.idleOrder ++ [q] }) := by
  split
  · exact .refl s
  · refine (CallMove.idleOrder _ (fun h => ?_) fun p hp => ?_).works
    · exact List.nodup_append'.mpr ⟨h, by simp, by simpa [List.disjoint_singleton] using ‹_›⟩
    · exact (List.mem_append.mp hp).imp_right fun h => by rw [List.mem_singleton.mp h]; exact hon

theorem works_appendIdle {s : State} {q : Fin 6} (hon : (s.position q).loggedOn = true) : Works T K s (s.appendIdle q) :=
  (works_joinIdle hon).trans (works_wakeDesk (by
    split
    next h => exact List.ne_nil_of_mem h
    next => exact List.append_ne_nil_of_right_ne_nil _ (List.cons_ne_nil _ _)))

/-! ### Channels -/

theorem lowestFree_none {s : State} {r : Fin 8} {c : Fin 4} (h : s.lowestFree r = some c) : s.channel r c = none := by
  simpa using List.find?_some h

theorem works_reserve (s : State) {n : CallNo} (r : Fin 8) (hn : T n) (hk : K n) (h : (s.call n).state ≠ .idle) :
    Works T K s (s.reserve n r) := by
  unfold State.reserve
  split
  · exact .refl s
  · split
    next c hc =>
      exact (CallMove.reserve n r c _ hn hk (fun hb => h (idle_of_blank hb)) (lowestFree_none hc) (.inl rfl)).works
    next => exact .refl s

/-- What `reserve` writes of a record: its reservations. -/
theorem reserve_call (s : State) (n m : CallNo) (r : Fin 8) :
    (s.reserve n r).call m = { s.call m with reservations := ((s.reserve n r).call m).reservations } := by
  unfold State.reserve
  split
  · rfl
  · split
    next c hc => by_cases h : m = n <;> simp [h]
    next => rfl

theorem works_setAside (s : State) {n : CallNo} (r : Fin 8) (c : Fin 4) (hn : T n) (hk : K n) :
    Works T K s (s.setAside n r c) := by
  unfold State.setAside
  split
  next h => exact (CallMove.setAside n r c hn hk h).works
  next => exact .refl s

theorem setAside_of_mem {s : State} {n : CallNo} {r : Fin 8} {c : Fin 4} (h : (r, c) ∈ (s.call n).reservations) :
    s.setAside n r c =
      (s.setChannel r c none).setCall n { s.call n with reservations := (s.call n).reservations.erase (r, c) } :=
  if_pos h

theorem setAside_of_not_mem {s : State} {n : CallNo} {r : Fin 8} {c : Fin 4} (h : (r, c) ∉ (s.call n).reservations) :
    s.setAside n r c = s := if_neg h

/-! ### Cascades -/

/-- What a cascade does with a channel that is set aside, and with a handset, is work. -/
structure Cascade.Works (k : Cascade) (T K : CallNo → Prop) : Prop where
  free : ∀ s r c, s.channel r c = none → Machine.Works T K s (k.free s r c)
  wake : ∀ s r a, Machine.Works T K s (k.wake s r a)

theorem cascadeWorks_bare : Cascade.bare.Works T K := ⟨fun s _ _ _ => .refl s, fun s _ _ => .refl s⟩

theorem works_handBack {k : Cascade} (hk : k.Works T K) (s : State) {n : CallNo} (x : Fin 8 × Fin 4) (hn : T n)
    (hK : K n) : Works T K s (s.handBackWith k n x) := by
  unfold State.handBackWith
  split
  next h =>
    refine (works_setAside s x.1 x.2 hn hK).trans (hk.free _ _ _ ?_)
    simp [setAside_of_mem h]
  next => exact .refl s

theorem works_handBackAll {k : Cascade} (hk : k.Works T K) (s : State) {n : CallNo} (hn : T n) (hK : K n) :
    Works T K s (s.handBackAllWith k n) :=
  works_foldl s fun x _ t => works_handBack hk t x hn hK

theorem works_disengage {k : Cascade} (hk : k.Works T K) (s : State) (n : CallNo) (x : Party) :
    Works T K s (s.disengageWith k n x) := by
  unfold State.disengageWith
  split
  · cases x with
    | station p st => exact (CallMove.station p st).works
    | handset r a =>
      exact (CallMove.handset r a none (s.handset r a).watch (by simp) (fun _ h => .inl h) (.inr le_rfl)).works.trans
        (hk.wake _ r a)
    | position q =>
      have hq : Works T K s (s.setPosition q { s.position q with engaged := none }) :=
        (CallMove.position q none (by simp)).works
      dsimp only
      split
      next hon => exact hq.trans (works_appendIdle (by rw [setPosition_position_self]; exact hon))
      next => exact hq
  · exact .refl s

theorem works_giveUp {k : Cascade} (hk : k.Works T K) (s : State) {n : CallNo} (hn : T n) (hK : K n) :
    Works T K s (s.giveUpWith k n) :=
  (works_handBackAll hk s hn hK).trans (works_foldl _ fun x _ t => works_disengage hk t n x)

/-! ### Clearing -/

theorem works_clearMessages (s : State) (c : CallRecord) (cause : Cause) : Works T K s (s.clearMessages c cause) := by
  unfold State.clearMessages
  have h1 : Works T K s (match c.origin, cause.progress with
    | some (.station p st), some v => s.sendProgress p st v
    | _, _ => s) := by
    split
    · exact works_put s _ _
    · exact .refl s
  have h2 := h1.trans (works_foldl (f := fun t x => State.sendRingStop t x .callerLeft) (as := c.alerted) _
    fun x _ t => works_put t _ _)
  dsimp only
  split
  · exact h2.trans (works_foldl _ fun x _ t => works_put t _ _)
  · exact h2

/-- The channels of a call that stands nowhere, handed back: it holds none, its record is the same otherwise, and it still
stands nowhere. -/
theorem foldl_handBack_spared {k : Cascade} {n : CallNo} (hk : k.Works (· ≠ n) fun _ => True) {s : State}
    {rs : List (Fin 8 × Fin 4)} (hrs : (s.call n).reservations = rs) (hs : s.StandsNowhere n) :
    (rs.foldl (State.handBackWith k n) s).call n = { s.call n with reservations := [] } ∧
      (rs.foldl (State.handBackWith k n) s).StandsNowhere n := by
  induction rs generalizing s with
  | nil => exact ⟨by rw [List.foldl_nil, ← hrs], hs⟩
  | cons x rs ih =>
    have hmem : (x.1, x.2) ∈ (s.call n).reservations := by simp [hrs]
    have hset : (s.setAside n x.1 x.2).call n = { s.call n with reservations := rs } := by
      rw [setAside_of_mem hmem]; simp [hrs]
    have hnowhere : (s.setAside n x.1 x.2).StandsNowhere n := by
      rw [setAside_of_mem hmem]; simpa [State.StandsNowhere] using hs
    have hfree : (s.setAside n x.1 x.2).channel x.1 x.2 = none := by rw [setAside_of_mem hmem]; simp
    obtain ⟨hcall, hn⟩ := Spares.spared (hk.free _ _ _ hfree) hnowhere
    have hstep : s.handBackWith k n x = k.free (s.setAside n x.1 x.2) x.1 x.2 := if_pos hmem
    rw [List.foldl_cons, hstep]
    rw [hset] at hcall
    obtain ⟨h1, h2⟩ := ih (s := k.free (s.setAside n x.1 x.2) x.1 x.2) (by rw [hcall]) hn
    exact ⟨by rw [h1, hcall], h2⟩

theorem handBackAll_spared {k : Cascade} {n : CallNo} (hk : k.Works (· ≠ n) fun _ => True) {s : State}
    (hs : s.StandsNowhere n) :
    (s.handBackAllWith k n).call n = { s.call n with reservations := [] } ∧
      (s.handBackAllWith k n).StandsNowhere n :=
  foldl_handBack_spared hk rfl hs

theorem giveUp_spared {k : Cascade} {n : CallNo} (hk : k.Works (· ≠ n) fun _ => True) {s : State}
    (hs : s.StandsNowhere n) :
    (s.giveUpWith k n).call n = { s.call n with reservations := [] } ∧ (s.giveUpWith k n).StandsNowhere n := by
  obtain ⟨h1, h2⟩ := handBackAll_spared hk hs
  obtain ⟨h3, h4⟩ := Spares.spared (works_foldl (s.handBackAllWith k n) (as := ((s.handBackAllWith k n).call n).parties)
    fun x _ t => works_disengage hk t n x) h2
  exact ⟨h3.trans h1, h4⟩

/-- A station among the parties that a call disengages is engaged by it no more. -/
theorem foldl_disengage_station {k : Cascade} {n : CallNo} (hk : k.Works (· ≠ n) fun _ => True) {p : Fin 4} {st : Fin 2}
    {xs : List Party} : ∀ {s : State}, s.StandsNowhere n → .station p st ∈ xs →
      (xs.foldl (State.disengageWith k n) s).station p st ≠ some n := by
  have hmoves : ∀ {s t : State}, Spares n s t → s.StandsNowhere n → CallMoves (· ≠ n) (fun _ => True) s t :=
    fun h hs => h fun m hm e => standsNowhere_iff.mp hs (e ▸ hm)
  induction xs with
  | nil => exact fun _ h => absurd h List.not_mem_nil
  | cons x xs ih =>
    intro s hs hx
    have hstep : Spares n s (s.disengageWith k n x) := works_disengage hk s n x
    rw [List.foldl_cons]
    by_cases hsame : x = .station p st
    · subst hsame
      have hfreed : (s.disengageWith k n (.station p st)).station p st ≠ some n := by
        unfold State.disengageWith
        split
        · simp
        next h => exact h
      exact CallMoves.station_ne (hmoves (works_foldl _ fun y _ t => works_disengage hk t n y) (hstep.spared hs).2) hfreed
    · exact ih (hstep.spared hs).2 ((List.mem_cons.mp hx).resolve_left (Ne.symm hsame))

theorem giveUp_station {k : Cascade} {n : CallNo} (hk : k.Works (· ≠ n) fun _ => True) {s : State} (hs : s.StandsNowhere n)
    {p : Fin 4} {st : Fin 2} (ho : (s.call n).origin = some (.station p st)) : (s.giveUpWith k n).station p st ≠ some n := by
  obtain ⟨h1, h2⟩ := handBackAll_spared hk hs
  refine foldl_disengage_station hk h2 ?_
  rw [h1]
  simp [CallRecord.parties, ho]

/-- The state of a clearing before the record is written: the call stands nowhere and holds no channel. -/
def State.clearing (k : Cascade) (s : State) (n : CallNo) (cause : Cause) : State :=
  (((s.clearMessages (s.call n) cause).giveUpWith k n).leavePlaces n).giveUpWith k n

theorem clearWith_of_active {k : Cascade} {s : State} {n : CallNo} {cause : Cause} (h : (s.call n).state ≠ .idle) :
    s.clearWith k n cause = (s.clearing k n cause).retire n cause (s.call n).releases := if_neg h

theorem clearWith_of_idle {k : Cascade} {s : State} {n : CallNo} {cause : Cause} (h : (s.call n).state = .idle) :
    s.clearWith k n cause = s := if_pos h

theorem works_clearing {k : Cascade} (hk : k.Works T K) (s : State) {n : CallNo} (cause : Cause) (hn : T n) (hK : K n) :
    Works T K s (s.clearing k n cause) :=
  (((works_clearMessages s _ cause).trans (works_giveUp hk _ hn hK)).trans (works_leavePlaces _ n)).trans
    (works_giveUp hk _ hn hK)

theorem clearing_call {k : Cascade} {n : CallNo} (hk : k.Works (· ≠ n) fun _ => True) (s : State) (cause : Cause) :
    ((s.clearing k n cause).call n).reservations = [] ∧ (s.clearing k n cause).StandsNowhere n := by
  obtain ⟨h1, h2⟩ := giveUp_spared hk
    (leavePlaces_standsNowhere ((s.clearMessages (s.call n) cause).giveUpWith k n) n)
  exact ⟨by rw [State.clearing, h1], h2⟩

/-- A call about to end does not engage its station. -/
theorem clearing_station {k : Cascade} {n : CallNo} (hk : k.Works (· ≠ n) fun _ => True) (s : State) (cause : Cause)
    {p : Fin 4} {st : Fin 2} (ho : ((s.clearing k n cause).call n).origin = some (.station p st)) :
    (s.clearing k n cause).station p st ≠ some n := by
  have hs := leavePlaces_standsNowhere ((s.clearMessages (s.call n) cause).giveUpWith k n) n
  rw [State.clearing, (giveUp_spared hk hs).1] at ho
  exact giveUp_station hk hs ho

/-- The releases of a call are kept by the work on calls. -/
theorem CallMove.releases {s t : State} (h : CallMove T K s t) (n : CallNo) :
    (t.call n).releases = (s.call n).releases := by
  cases h with
  | record m c _ h => rw [setCall_call]; split <;> simp_all [h.releases]
  | retire m c _ _ => rw [setCall_call]; split <;> simp_all [CallRecord.ended]
  | reserve m => rw [setCall_call]; split <;> simp_all
  | setAside m => rw [setCall_call]; split <;> simp_all
  | deskQueue | idleOrder => rfl
  | _ => simp

theorem CallMoves.releases {s t : State} (h : CallMoves T K s t) (n : CallNo) :
    (t.call n).releases = (s.call n).releases :=
  h.keeps (P := fun u => (u.call n).releases = (s.call n).releases) (fun _ _ hm hu => (hm.releases n).trans hu) rfl

theorem works_clear {k : Cascade} (hk : k.Works T K) {n : CallNo} (hsp : k.Works (· ≠ n) fun _ => True) (s : State)
    (cause : Cause) (hn : T n) (hK : K n) : Works T K s (s.clearWith k n cause) := by
  by_cases h : (s.call n).state = .idle
  · rw [clearWith_of_idle h]; exact .refl s
  · rw [clearWith_of_active h]
    intro hw
    have hmoves := works_clearing hk s cause hn hK hw
    have hrecord := CallMove.retire (K := K) n cause hn (clearing_call hsp s cause).1
      fun p st ho => clearing_station hsp s cause ho
    have hended : CallRecord.ended ((s.clearing k n cause).call n) cause =
        { CallRecord.blank with lastCause := some cause, releases := (s.call n).releases } := by
      rw [← hmoves.releases n]; rfl
    rw [hended] at hrecord
    exact (hmoves.tail hrecord).tail .endDrain

/-! ### Outcomes -/

/-- The state of an outcome before the call is forwarded or cleared. -/
def State.outcoming (k : Cascade) (s : State) (n : CallNo) (cause : Cause) : State :=
  let s2 := ((if cause = .congestion then s.raise .congestion else s).leavePlaces n).handBackAllWith k n
  s2.setCall n { s2.call n with stateCount := none, waitCount := stoppedSeek (s2.call n).waitCount }

/-- The state of an outcome that forwards the call, before it hunts: its station told WAIT, its record forwarded. -/
def State.forwarding (s : State) (c : CallRecord) (n : CallNo) : State :=
  let s4 := match c.origin with
    | some (.station p st) => s.sendProgress p st .wait
    | _ => s
  s4.setCall n (s4.call n).forwardedToDesk

theorem outcomeWith_of_idle {k : Cascade} {s : State} {n : CallNo} {cause : Cause} (h : (s.call n).state = .idle) :
    s.outcomeWith k n cause = s := if_pos h

theorem outcomeWith_of_active {k : Cascade} {s : State} {n : CallNo} {cause : Cause} (h : (s.call n).state ≠ .idle) :
    s.outcomeWith k n cause =
      if (s.call n).forwards cause then
        if ((s.outcoming k n cause).forwarding (s.call n) n).loggedOnCount = 0 then
          ((s.outcoming k n cause).forwarding (s.call n) n).clearWith k n .noDesk
        else ((s.outcoming k n cause).forwarding (s.call n) n).deskPlace n
      else (s.outcoming k n cause).clearWith k n cause := by
  rw [State.outcomeWith, if_neg h]; rfl

/-- The record of a call as it takes an outcome: its counts stopped, its channels handed back. -/
theorem outcoming_call {k : Cascade} {n : CallNo} (hsp : k.Works (· ≠ n) fun _ => True) (s : State) (cause : Cause) :
    (s.outcoming k n cause).call n =
        { s.call n with reservations := [], stateCount := none, waitCount := stoppedSeek (s.call n).waitCount } ∧
      (s.outcoming k n cause).StandsNowhere n := by
  obtain ⟨h1, h2⟩ := handBackAll_spared hsp
    (leavePlaces_standsNowhere (if cause = .congestion then s.raise .congestion else s) n)
  have hcall : ((if cause = .congestion then s.raise .congestion else s).leavePlaces n).call n = s.call n := by
    rw [leavePlaces_call]; split <;> rfl
  rw [hcall] at h1
  exact ⟨by simp [State.outcoming, h1], by simpa [State.outcoming, State.StandsNowhere] using h2⟩

theorem works_outcoming {k : Cascade} (hk : k.Works T K) {n : CallNo} (hsp : k.Works (· ≠ n) fun _ => True) {s : State}
    (cause : Cause) (hn : T n) (hK : K n) (h : (s.call n).state ≠ .idle) : Works T K s (s.outcoming k n cause) := by
  have h1 : Works T K s (if cause = .congestion then s.raise .congestion else s) := by
    split
    · exact works_raise s _
    · exact .refl s
  refine ((h1.trans (works_leavePlaces _ n)).trans (works_handBackAll hk _ hn hK)).trans (works_record hn ?_)
  have hstate : ((((if cause = .congestion then s.raise .congestion else s).leavePlaces n).handBackAllWith k n).call
      n).state ≠ .idle := by
    rw [(handBackAll_spared hsp (leavePlaces_standsNowhere _ n)).1, leavePlaces_call]
    split <;> exact h
  exact recordMove_of_active hstate hstate ⟨rfl, rfl, rfl, rfl⟩

theorem works_forwarding {s : State} (c : CallRecord) {n : CallNo} (hn : T n) (h : (s.call n).state ≠ .idle) :
    Works T K s (s.forwarding c n) := by
  unfold State.forwarding
  dsimp only
  split
  · refine (works_put s _ _).trans (works_record hn ?_)
    rw [State.sendProgress, put_call]
    exact recordMove_of_active h h ⟨rfl, rfl, rfl, rfl⟩
  · exact works_record hn (recordMove_of_active h h ⟨rfl, rfl, rfl, rfl⟩)

theorem works_outcome {k : Cascade} (hk : k.Works T K) {n : CallNo} (hsp : k.Works (· ≠ n) fun _ => True) (s : State)
    (cause : Cause) (hn : T n) (hK : K n) : Works T K s (s.outcomeWith k n cause) := by
  by_cases h : (s.call n).state = .idle
  · rw [outcomeWith_of_idle h]; exact .refl s
  · have hout := works_outcoming hk hsp cause hn hK h
    have hstate : ((s.outcoming k n cause).call n).state ≠ .idle := by rw [(outcoming_call hsp s cause).1]; exact h
    rw [outcomeWith_of_active h]
    split
    · have hfwd := hout.trans (works_forwarding (s.call n) hn hstate)
      split
      · exact hfwd.trans (works_clear hk hsp _ _ hn hK)
      next hon => exact hfwd.trans (works_deskPlace _ hn fun _ => hon)
    · exact hout.trans (works_clear hk hsp _ _ hn hK)

/-! ### The target check -/

theorem works_alertMember (s : State) {n : CallNo} (t : Fin 8 × Fin 63) (hn : T n) (h : (s.call n).state ≠ .idle) :
    Works T K s (State.alertMember n s t) :=
  ((works_put s _ _).trans (works_engageHandset _ _ _ hn)).trans (works_record hn
    (recordMove_of_active (by simpa [State.sendRing] using h) (by simpa [State.sendRing] using h) ⟨rfl, rfl, rfl, rfl⟩))

theorem alertMember_call_state (s : State) (n m : CallNo) (t : Fin 8 × Fin 63) :
    ((State.alertMember n s t).call m).state = (s.call m).state := by
  by_cases h : m = n <;> simp [State.alertMember, State.sendRing, h]

theorem works_seekAndAlert {s : State} {n : CallNo} (ms : List (Fin 8 × Fin 63)) (hn : T n) (hK : K n)
    (h : (s.call n).state ≠ .idle) : Works T K s (s.seekAndAlert n ms) := by
  have keep : Works T K s (ms.foldl (fun t m => t.reserve n m.1) s) ∧
      ((ms.foldl (fun t m => t.reserve n m.1) s).call n).state ≠ .idle :=
    foldl_keeps (P := fun u => Works T K s u ∧ (u.call n).state ≠ .idle)
      (fun m _ t ht => ⟨ht.1.trans (works_reserve t m.1 hn hK ht.2), by rw [reserve_call]; exact ht.2⟩) ⟨.refl s, h⟩
  obtain ⟨hworks, hstate⟩ := keep
  unfold State.seekAndAlert
  dsimp only
  split
  · split
    · exact hworks.trans (works_enterSeeking _ hn hstate)
    · exact hworks
  · have ring : ∀ rung : List (Fin 8 × Fin 63),
        Works T K s (rung.foldl (State.alertMember n) (ms.foldl (fun t m => t.reserve n m.1) s)) ∧
          ((rung.foldl (State.alertMember n) (ms.foldl (fun t m => t.reserve n m.1) s)).call n).state ≠ .idle :=
      fun rung => foldl_keeps (P := fun u => Works T K s u ∧ (u.call n).state ≠ .idle)
        (fun m _ t ht => ⟨ht.1.trans (works_alertMember t m hn ht.2), by rw [alertMember_call_state]; exact ht.2⟩)
        ⟨hworks, hstate⟩
    exact (ring _).1.trans (works_enterAlerting hn (ring _).2)

theorem works_targetCheck (s : State) {n : CallNo} (hn : T n) (hK : K n) : Works T K s (s.targetCheck n) := by
  have hout : ∀ cause, Works T K s (s.outcomeWith .bare n cause) := fun cause =>
    works_outcome cascadeWorks_bare cascadeWorks_bare s cause hn hK
  unfold State.targetCheck
  split
  · exact .refl s
  next h =>
    split
    next x hx =>
      split
      next ts hts =>
        split
        · exact works_seekAndAlert _ hn hK h
        · split
          · exact hout _
          · split
            · split
              next t ht => exact works_enterCamped hn h (by simpa [Config.watchPlaces] using List.find?_some ht)
              next => exact hout _
            · exact hout _
      next => exact .refl s
    next => exact .refl s

/-! ### Wakes and grants -/

theorem works_wakeCall (s : State) {n : CallNo} (hn : T n) (hK : K n) : Works T K s (s.wakeCall n) := by
  have hmove : RecordMove (s.call n) { s.call n with stateCount := none } :=
    ⟨rfl, rfl, rfl, Iff.rfl, fun hb => by rw [← stateCount_of_blank hb], rfl, rfl⟩
  exact (works_record hn hmove).trans (works_targetCheck _ hn hK)

theorem works_wakeHead (hTK : ∀ m, T m → K m) (s : State) (r : Fin 8) (a : Fin 63) : Works T K s (s.wakeHead r a) := by
  unfold State.wakeHead
  split
  next n rest hq =>
    intro hw
    have hn : T n := hw n (waits_of_watch (r := r) (a := a) (by simp [hq]))
    exact ((CallMove.handset r a (s.handset r a).engaged rest (fun _ h => .inr h)
      (by simpa [hq] using fun m h => .inl (.inr h)) (.inr (by simp [hq]))).works.trans (works_wakeCall _ hn (hTK n hn))) hw
  next => exact .refl s

theorem works_wakeAll (hTK : ∀ m, T m → K m) (s : State) (r : Fin 8) (a : Fin 63) : Works T K s (s.wakeAll r a) := by
  intro hw
  have hwatch : ∀ n ∈ (s.handset r a).watch, T n := fun n hn => hw n (waits_of_watch hn)
  refine works_foldl s (fun n hn t => ?_) hw
  exact (CallMove.handset r a (t.handset r a).engaged _ (fun _ h => .inr h)
    (fun m hm => .inl (List.mem_of_mem_filter hm)) (.inr (List.length_filter_le ..))).works.trans
      (works_wakeCall _ (hwatch n hn) (hTK n (hwatch n hn)))

theorem cascadeWorks_waking (hTK : ∀ m, T m → K m) : Cascade.waking.Works T K :=
  ⟨fun s _ _ _ => .refl s, works_wakeHead hTK⟩

theorem works_acceptResident {s : State} {n : CallNo} (hn : T n) (hon : s.loggedOnCount ≠ 0) :
    Works T K s (s.acceptResident n) := by
  unfold State.acceptResident
  split
  · exact (works_put s _ _).trans (works_deskPlace _ hn fun _ => by rw [put_frame]; exact hon)
  · exact works_deskPlace s hn fun _ => hon

/-- Whether call `n` holds a channel, or it is FREE. -/
def State.HoldsOrFree (s : State) (n : CallNo) (r : Fin 8) (c : Fin 4) : Prop :=
  s.channel r c = none ∨ (r, c) ∈ (s.call n).reservations

/-- Work that touches the channels of one call alone leaves each channel it holds with it, or FREE. -/
theorem CallMove.holdsOrFree {n : CallNo} {s t : State} {r : Fin 8} {c : Fin 4} (h : CallMove T (· = n) s t)
    (hs : s.HoldsOrFree n r c) : t.HoldsOrFree n r c := by
  cases h with
  | record m d _ hd =>
    refine hs.imp (by simp) fun hmem => ?_
    by_cases e : n = m
    · subst e; simpa [hd.reservations] using hmem
    · simpa [e] using hmem
  | retire m cause _ hnone =>
    by_cases e : n = m
    · subst e; exact .inl (by simpa using hs.resolve_right (by simp [hnone]))
    · simpa [State.HoldsOrFree, e] using hs
  | reserve m r' c' rs _ hm _ hfree hrs =>
    subst hm
    rcases hs with hchan | hmem
    · by_cases e : r = r' ∧ c = c'
      · obtain ⟨rfl, rfl⟩ := e
        refine .inr ?_
        rcases hrs with rfl | rfl <;> simp
      · exact .inl (by simpa [setChannel_channel, e] using hchan)
    · refine .inr ?_
      rcases hrs with rfl | rfl <;> simp [hmem]
  | setAside m r' c' _ hm hmem' =>
    subst hm
    by_cases e : r = r' ∧ c = c'
    · obtain ⟨rfl, rfl⟩ := e; exact .inl (by simp)
    · refine hs.imp (fun hchan => by simpa [setChannel_channel, e] using hchan) fun hmem => ?_
      simpa using (List.mem_erase_of_ne (by simpa using e)).mpr hmem
  | deskQueue | idleOrder | leavePlaces => exact hs
  | _ => simpa [State.HoldsOrFree] using hs

/-- A granted flat call that sets its channel aside leaves it FREE, whatever its target check did. -/
theorem setAside_channel_of_holdsOrFree {s : State} {n : CallNo} {r : Fin 8} {c : Fin 4} (h : s.HoldsOrFree n r c) :
    (s.setAside n r c).channel r c = none := by
  by_cases hmem : (r, c) ∈ (s.call n).reservations
  · simp [setAside_of_mem hmem]
  · rw [setAside_of_not_mem hmem]; exact h.resolve_right hmem

theorem targetCheck_holdsOrFree {s : State} {n : CallNo} {r : Fin 8} {c : Fin 4} (h : s.HoldsOrFree n r c) :
    (s.targetCheck n).HoldsOrFree n r c :=
  (works_targetCheck (T := fun _ => True) (K := (· = n)) s trivial rfl fun _ _ => trivial).keeps
    (P := fun u => u.HoldsOrFree n r c) (fun _ _ hm hs => hm.holdsOrFree hs) h

@[simp] theorem grant_call_self (s : State) (n : CallNo) (r : Fin 8) (c : Fin 4) :
    (s.grant n r c).call n = { s.call n with reservations := (r, c) :: (s.call n).reservations } := by
  simp [State.grant]

/-- A channel that is granted to a blank record, which has no use for it, and set aside again: the record has left the queue
and nothing else has changed. -/
theorem grant_setAside_of_blank {s : State} {n : CallNo} {r : Fin 8} {c : Fin 4} (hb : (s.call n).Blank)
    (hfree : s.channel r c = none) :
    (s.grant n r c).setAside n r c = s.setSeekQueue r ((s.seekQueue r).erase n) := by
  have hself : ({ s.call n with reservations := [] } : CallRecord) = s.call n := by
    conv_rhs => rw [show s.call n = { s.call n with reservations := (s.call n).reservations } from rfl]
    rw [reservations_of_blank hb]
  have hcalls : ∀ m, (((s.grant n r c).setAside n r c)).call m = s.call m := by
    intro m
    rw [setAside_of_mem (by simp)]
    by_cases e : m = n
    · subst e; simp [reservations_of_blank hb, hself]
    · simp [State.grant, e]
  have hchannel : ((s.setSeekQueue r ((s.seekQueue r).erase n)).setChannel r c (some n)).setChannel r c none =
      s.setSeekQueue r ((s.seekQueue r).erase n) := by
    have h2 : ∀ x y : Option CallNo, ∀ t : State, (t.setChannel r c x).setChannel r c y = t.setChannel r c y := by
      intro x y t
      simp [State.setChannel]
    rw [h2]
    exact setChannel_none_of_none (by simpa using hfree)
  have hframe : (s.grant n r c).setAside n r c =
      { s.setSeekQueue r ((s.seekQueue r).erase n) with calls := ((s.grant n r c).setAside n r c).calls } := by
    rw [setAside_of_mem (by simp), ← hchannel]
    rfl
  rw [hframe, calls_ext hcalls]
  rfl

theorem works_grant {s : State} {n : CallNo} {r : Fin 8} {c : Fin 4} (hn : T n) (hK : K n) (hb : ¬ (s.call n).Blank)
    (hfree : s.channel r c = none) : Works T K s (s.grant n r c) := by
  have hq : Works T K s (s.setSeekQueue r ((s.seekQueue r).erase n)) :=
    (CallMove.seekQueue r _ fun m hm => .inl (List.mem_of_mem_erase hm)).works
  exact hq.trans (CallMove.reserve (s := s.setSeekQueue r ((s.seekQueue r).erase n)) n r c _ hn hK hb hfree
    (.inr rfl)).works

theorem passDown_cons (r : Fin 8) (c : Fin 4) (n : CallNo) (rest : List CallNo) (s : State) :
    passDown r c (n :: rest) s =
      if (s.call n).kind = some .resident then
        if (s.grant n r c).loggedOnCount = 0 then
          (passDown r c rest ((s.grant n r c).setAside n r c)).clearWith .waking n .noDesk
        else (s.grant n r c).acceptResident n
      else if (((s.grant n r c).targetCheck n).call n).ringsOn r then (s.grant n r c).targetCheck n
      else passDown r c rest (((s.grant n r c).targetCheck n).setAside n r c) := by
  rw [passDown]; simp

theorem targetCheck_of_idle {s : State} {n : CallNo} (h : (s.call n).state = .idle) : s.targetCheck n = s := if_pos h

/-- A blank record that stands on a seek queue is passed over. -/
theorem passDown_of_blank {r : Fin 8} {c : Fin 4} {n : CallNo} (rest : List CallNo) {s : State}
    (hb : (s.call n).Blank) (hfree : s.channel r c = none) :
    passDown r c (n :: rest) s = passDown r c rest (s.setSeekQueue r ((s.seekQueue r).erase n)) := by
  have hidle : ((s.grant n r c).call n).state = .idle := by simp [idle_of_blank hb]
  rw [passDown_cons, if_neg (by simp [kind_of_blank hb]), targetCheck_of_idle hidle,
    if_neg (by simp [CallRecord.ringsOn, idle_of_blank hb]), grant_setAside_of_blank hb hfree]

theorem works_passDown (hTK : ∀ m, T m → K m) (r : Fin 8) (c : Fin 4) (ns : List CallNo) (s : State)
    (hns : ∀ n ∈ ns, T n) (hfree : s.channel r c = none) : Works T K s (passDown r c ns s) := by
  induction ns generalizing s with
  | nil => rw [passDown, setChannel_none_of_none hfree]; exact .refl s
  | cons n rest ih =>
    have hn : T n := hns n List.mem_cons_self
    have hK : K n := hTK n hn
    have hrest : ∀ m ∈ rest, T m := fun m hm => hns m (List.mem_cons_of_mem n hm)
    by_cases hb : (s.call n).Blank
    · rw [passDown_of_blank rest hb hfree]
      exact (CallMove.seekQueue r _ fun m hm => .inl (List.mem_of_mem_erase hm)).works.trans
        (ih _ hrest (by simpa using hfree))
    · have hgrant : Works T K s (s.grant n r c) := works_grant hn hK hb hfree
      have hset : ∀ t : State, t.HoldsOrFree n r c → Works T K t (passDown r c rest (t.setAside n r c)) := fun t ht =>
        (works_setAside t r c hn hK).trans (ih _ hrest (setAside_channel_of_holdsOrFree ht))
      have hholds : (s.grant n r c).HoldsOrFree n r c := .inr (by simp)
      rw [passDown_cons]
      split
      · split
        · exact (hgrant.trans (hset _ hholds)).trans
            (works_clear (cascadeWorks_waking hTK) (cascadeWorks_waking fun _ _ => trivial) _ _ hn hK)
        next hon => exact hgrant.trans (works_acceptResident hn hon)
      · have hcheck := hgrant.trans (works_targetCheck (s.grant n r c) hn hK)
        split
        · exact hcheck
        · exact hcheck.trans (hset _ (targetCheck_holdsOrFree hholds))

theorem works_free (hTK : ∀ m, T m → K m) (s : State) (r : Fin 8) (c : Fin 4) (hfree : s.channel r c = none) :
    Works T K s (s.free r c) := by
  intro hw
  exact works_passDown hTK r c _ s (fun n hn => hw n (waits_of_seekQueue hn)) hfree hw

theorem cascadeWorks_full (hTK : ∀ m, T m → K m) : Cascade.full.Works T K := ⟨works_free hTK, works_wakeHead hTK⟩

end

/-! ### The work of an event -/

section
variable {T : CallNo → Prop}

/-- The work of an event on the calls that `T` holds of. -/
abbrev EventWorks (T : CallNo → Prop) : State → State → Prop := Works T T

theorem fullWorks : Cascade.full.Works T T := cascadeWorks_full fun _ h => h
theorem fullSpares (n : CallNo) : Cascade.full.Works (· ≠ n) fun _ => True := cascadeWorks_full fun _ _ => trivial

theorem eventWorks_clear (s : State) {n : CallNo} (cause : Cause) (hn : T n) : EventWorks T s (s.clear n cause) :=
  works_clear fullWorks (fullSpares n) s cause hn hn

theorem eventWorks_outcome (s : State) {n : CallNo} (cause : Cause) (hn : T n) : EventWorks T s (s.outcome n cause) :=
  works_outcome fullWorks (fullSpares n) s cause hn hn

theorem eventWorks_handBack (s : State) {n : CallNo} (x : Fin 8 × Fin 4) (hn : T n) : EventWorks T s (s.handBack n x) :=
  works_handBack fullWorks s x hn hn

theorem eventWorks_disengage (s : State) (n : CallNo) (x : Party) : EventWorks T s (s.disengage n x) :=
  works_disengage fullWorks s n x

theorem eventWorks_hunt (s : State) {n : CallNo} (hn : T n) : EventWorks T s (s.hunt n) := by
  unfold State.hunt
  split
  · exact eventWorks_outcome s _ hn
  next hon => exact works_deskPlace s hn fun _ => hon

end

end Sys2Proof.Machine
end

section
/-!
PROOF. What one command may write: the moves of the work on calls, and beside them the writes of the link units, the turns,
the presences, the doors, the directory, the journal and the management agent, each with the conditions under which it is
made. The invariants that every step keeps are read off these writes.
-/

namespace Sys2Proof

/-- The commands that may write a door otherwise than by a release. -/
def Instr.movesDoor : Instr → Bool
  | .powerOn | .upstreamFrame _ _ | .doorOpen _ _ | .doorShut _ _ | .restart _ _ | .linkReset _ _
  | .releaseTimerExpiry _ | .heldOpenExpiry _ => true
  | _ => false

end Sys2Proof

namespace Sys2Proof.Machine

/-! ### Link units -/

/-- The queues and the counters of a link unit keep to their sizes (R154, R162, R166). -/
structure LinkUnit.Bounded (u : LinkUnit) : Prop where
  rx : u.rx.length ≤ 4
  tx : u.tx.length ≤ 8
  badFrames : u.badFrames ≤ 65535
  checkErrors : u.checkErrors ≤ 65535
  overruns : u.overruns ≤ 65535
  txDrops : u.txDrops ≤ 65535

/-- The queues of a DOWN link unit hold nothing but the LOST marker (R152, R153). -/
def LinkUnit.Quiet (u : LinkUnit) : Prop :=
  u.state = .down → (u.rx = [] ∨ u.rx = [.lost]) ∧ u.holding = none ∧ u.tx = [] ∧ u.sending = none ∧
    u.holdOffWait = none ∧ u.partnerHoldOff = false

/-- How a link unit is rewritten short of going DOWN: its bounds are kept, and a DOWN one stays quiet. -/
structure UnitMove (u u' : LinkUnit) : Prop where
  bounded : u.Bounded → u'.Bounded
  quiet : u.Quiet → u'.Quiet
  down : u'.state = .down → u.state = .down

theorem countUp_le (n : Nat) : countUp n ≤ 65535 := Nat.min_le_right _ _

theorem UnitMove.refl (u : LinkUnit) : UnitMove u u := ⟨id, id, id⟩

theorem UnitMove.trans {u v w : LinkUnit} (h : UnitMove u v) (h' : UnitMove v w) : UnitMove u w :=
  ⟨h'.bounded ∘ h.bounded, h'.quiet ∘ h.quiet, h.down ∘ h'.down⟩

/-- A rewriting that leaves the queues, and the counters within their sizes. -/
theorem unitMove_of_queues {u u' : LinkUnit} (hdown : u'.state = .down → u.state = .down)
    (hqueues : u'.rx = u.rx ∧ u'.holding = u.holding ∧ u'.tx = u.tx ∧ u'.sending = u.sending ∧
      u'.holdOffWait = u.holdOffWait ∧ u'.partnerHoldOff = u.partnerHoldOff)
    (hcounters : (u'.badFrames = u.badFrames ∨ u'.badFrames ≤ 65535) ∧
      (u'.checkErrors = u.checkErrors ∨ u'.checkErrors ≤ 65535) ∧ (u'.overruns = u.overruns ∨ u'.overruns ≤ 65535) ∧
      (u'.txDrops = u.txDrops ∨ u'.txDrops ≤ 65535)) : UnitMove u u' := by
  obtain ⟨hrx, hholding, htx, hsending, hwait, hhold⟩ := hqueues
  obtain ⟨hbad, hcheck, hover, hdrops⟩ := hcounters
  refine ⟨fun hb => ⟨hrx ▸ hb.rx, htx ▸ hb.tx, ?_, ?_, ?_, ?_⟩, fun hq hd => ?_, hdown⟩
  · exact hbad.elim (fun h => h ▸ hb.badFrames) id
  · exact hcheck.elim (fun h => h ▸ hb.checkErrors) id
  · exact hover.elim (fun h => h ▸ hb.overruns) id
  · exact hdrops.elim (fun h => h ▸ hb.txDrops) id
  · rw [hrx, hholding, htx, hsending, hwait, hhold]; exact hq (hdown hd)

/-- A rewriting that leaves the state, the queues and the counters. -/
theorem unitMove_of_kept {u u' : LinkUnit} (hstate : u'.state = u.state)
    (hqueues : u'.rx = u.rx ∧ u'.holding = u.holding ∧ u'.tx = u.tx ∧ u'.sending = u.sending ∧
      u'.holdOffWait = u.holdOffWait ∧ u'.partnerHoldOff = u.partnerHoldOff)
    (hcounters : u'.badFrames = u.badFrames ∧ u'.checkErrors = u.checkErrors ∧ u'.overruns = u.overruns ∧
      u'.txDrops = u.txDrops) : UnitMove u u' :=
  unitMove_of_queues (fun h => hstate ▸ h) hqueues
    ⟨.inl hcounters.1, .inl hcounters.2.1, .inl hcounters.2.2.1, .inl hcounters.2.2.2⟩

/-! ### Doors, the directory and the voice -/

/-- The timers of a door follow its state (R125, R129 to R134). -/
def Door.Kept (d : Door) : Prop :=
  match d.state with
  | .locked => d.releaseTimer = none ∧ d.heldOpenTimer = none
  | .released => (d.releaseTimer).isSome = true ∧ d.heldOpenTimer = none
  | .opened => d.releaseTimer = none

/-- A directory keeps to its size and its order, and its entries to Table 2-1 (R33, R34). -/
structure DirectoryKept (d : List Entry) : Prop where
  size : d.length ≤ 1024
  order : d.Pairwise fun x y => dialBefore x.code y.code = true
  entries : ∀ e ∈ d, e.wellKept

/-- A voice state keeps to its ranges (R114, R117, R119). -/
structure Voice.Bounded (v : Voice) : Prop where
  origin : v.originMeter ≤ 4032
  answerer : v.answererMeter ≤ 4032
  joined : ∀ j, v.joinedMeter = some j → j ≤ 4032
  hang : v.hang ≤ 4080
  mode : v.mode ≠ .switched → v.direction = .neutral
  neutral : v.direction = .neutral → v.hang = 0

/-- The voice states of a record keep to their ranges. -/
def CallRecord.VoiceKept (c : CallRecord) : Prop :=
  ∀ v, (c.voice = some v ∨ c.lastPeriod = some v) → v.Bounded

/-- How the crosspoint rewrites a record: its voice states alone, which keep to their ranges while the hang time does. -/
structure VoiceMove (hangTime : Nat) (c c' : CallRecord) : Prop where
  frame : c' = { c with voice := c'.voice, lastPeriod := c'.lastPeriod }
  blank : c.Blank → c' = c
  kept : hangTime ≤ 255 → c.VoiceKept → c'.VoiceKept

/-! ### The writes -/

/-- The turn of a riser link is none. -/
def State.cutTurn (s : State) (l : LinkId) : State :=
  match l with
  | .riser r => s.setTurn r none
  | _ => s

/-- One write of a command, short of a release. -/
inductive Writes (i : Instr) (s : State) : State → Prop where
  | call {t : State} (h : CallMove (fun _ => True) (fun _ => True) s t) : Writes i s t
  | unit (l : LinkId) (u : LinkUnit) (h : UnitMove (s.link l) u) : Writes i s (s.setLink l u)
  | goesDown (l : LinkId) (u : LinkUnit) (hb : (s.link l).Bounded → u.Bounded) (hq : u.Quiet) :
    Writes i s ((s.setLink l u).cutTurn l)
  | units (f : LinkUnit → LinkUnit) (h : ∀ u, UnitMove u (f u)) : Writes i s { s with links := tableMap f s.links }
  | scheduler (r : Fin 8) (x : Scheduler)
    (h : x.turn ≠ none → s.turn r ≠ none ∨ (s.link (.riser r)).state ≠ .down) : Writes i s (s.setScheduler r x)
  | handset (r : Fin 8) (a : Fin 63) (present : Bool) (misses : Nat) (quiet : Bool)
    (h : misses ≤ 3 ∨ misses = (s.handset r a).misses) :
    Writes i s (s.setHandset r a { s.handset r a with present := present, misses := misses, quiet := quiet })
  | riserAbsent (r : Fin 8) :
    Writes i s
      { s with
        handsets := s.handsets.set r (tableMap (fun h : Handset => { h with present := false, misses := 0 }) s.handsets[r]) }
  | logon (q : Fin 6) (on : Bool) : Writes i s (s.setPosition q { s.position q with loggedOn := on })
  | logoffAll :
    Writes i s { s with positions := tableMap (fun x : Position => { x with loggedOn := false }) s.positions, idleOrder := [] }
  | create (n : CallNo) (k : CallKind) (st : CallState) (x : Party) (digits : Code) (hmode : s.mode = .run)
    (hidle : (s.call n).state = .idle) (hst : st ≠ .idle) (hq : (s.call n).reservations = [] ∨ ¬ (s.call n).Blank) :
    Writes i s (s.setCall n (CallRecord.taken k st x digits))
  | engages (p : Fin 4) (st : Fin 2) (n : CallNo) : Writes i s (s.setStation p st (some n))
  | voice (n : CallNo) (c : CallRecord) (h : VoiceMove s.params.hangTime (s.call n) c) : Writes i s (s.setCall n c)
  | door (p : Fin 4) (d : Door) (hi : i.movesDoor = true) (h : (s.door p).Kept → d.Kept) : Writes i s (s.setDoor p d)
  | directory (d : List Entry) (h : DirectoryKept s.directory → DirectoryKept d) : Writes i s { s with directory := d }
  | journalRead (j : JournalRecord) (rest : List JournalRecord) (h : s.journal = j :: rest) :
    Writes i s { s with journal := rest }
  | params (x : ParamId) (v : BitVec 16) (hi : ∃ l args, i = .set l args) :
    Writes i s { s with params := s.params.write x (x.applied v) }
  | seconds (n k : Nat) (hi : i = .secondsTick ∨ ∃ l args, i = .setTime l args) (hn : n < 4294967296) :
    Writes i s { s with seconds := n, secondLeft := k }
  | refusals (n : Nat) (hi : (∃ l type args, i = .managementRefused l type args) ∨ ∃ l args, i = .clearCounts l args)
    (hn : n ≤ 65535) : Writes i s { s with refusals := n }
  | attention (x : BitVec 8) : Writes i s { s with attention := x }
  | start (hi : ∃ l args, i = .start l args) : Writes i s { s with mode := .run }
  | stop (hi : ∃ l args, i = .stop l args) (hmode : s.mode = .run) :
    Writes i s { s with mode := if s.allIdle then .standby else .draining }
  | freeIndex (k : Nat) : Writes i s { s with freeIndex := k }
  | restart (hi : ∃ l args, i = .restart l args) : Writes i s s.restartBlocks
  | powerOn (hi : i = .powerOn) : Writes i s { State.reset with pending := s.pending, freeIndex := s.freeIndex }
  | resetLow : Writes i s { s with resetLow := true }

/-- Writes of a command, one after another. -/
abbrev Chain (i : Instr) : State → State → Prop := Relation.ReflTransGen (Writes i)

/-- A release that starts on a LOCKED door, short of its UNLOCK (R127). -/
def State.released (s : State) (n : CallNo) (p : Fin 4) (st : Fin 2) (kind : ReleaseKind) (granting : Option Party)
    (code : Code) : State :=
  let s1 := (s.setDoor p
    { state := .released, releaseTimer := some (s.params.releaseTime * Config.framesPerStep),
      heldOpenTimer := none }).appendJournal p st kind granting code
  s1.setCall n { s1.call n with releases := min ((s1.call n).releases + 1) 255 }

/-- A release writes one state into another. -/
def Releases (s t : State) : Prop :=
  ∃ n p st kind granting code, (s.door p).state = .locked ∧ t = s.released n p st kind granting code

/-- The course of a command: its writes, with at most one release among them, and that only where no other write of the
command moves a door. -/
def Course (i : Instr) (s t : State) : Prop :=
  Chain i s t ∨ (i.movesDoor = false ∧ ∃ u v, Chain i s u ∧ Releases u v ∧ Chain i v t)

theorem Course.refl {i : Instr} (s : State) : Course i s s := .inl .refl

theorem Chain.course {i : Instr} {s t : State} (h : Chain i s t) : Course i s t := .inl h

theorem Chain.trans_course {i : Instr} {s t u : State} (h : Chain i s t) (h' : Course i t u) : Course i s u := by
  obtain h' | ⟨hi, v, w, hv, hr, hw⟩ := h'
  · exact .inl (h.trans h')
  · exact .inr ⟨hi, v, w, h.trans hv, hr, hw⟩

theorem Course.trans_chain {i : Instr} {s t u : State} (h : Course i s t) (h' : Chain i t u) : Course i s u := by
  obtain h | ⟨hi, v, w, hv, hr, hw⟩ := h
  · exact .inl (h.trans h')
  · exact .inr ⟨hi, v, w, hv, hr, hw.trans h'⟩

/-- A fact that every write and every release keeps is kept by a command's course. -/
theorem Course.keeps {i : Instr} {P : State → Prop} (hW : ∀ s t, Writes i s t → P s → P t)
    (hR : ∀ s t, Releases s t → P s → P t) {s t : State} (h : Course i s t) (hs : P s) : P t := by
  have chain : ∀ {u v}, Chain i u v → P u → P v := fun huv hu => by
    induction huv with
    | refl => exact hu
    | tail _ hw ih => exact hW _ _ hw ih
  obtain h | ⟨-, u, v, hu, hr, hv⟩ := h
  · exact chain h hs
  · exact chain hv (hR _ _ hr (chain hu hs))

/-! ### Chains from single writes -/

section
variable {i : Instr}

theorem Writes.chain {s t : State} (h : Writes i s t) : Chain i s t := .single h

/-- Work on calls is a chain of writes. -/
theorem Works.chain {s t : State} (h : Works (fun _ => True) (fun _ => True) s t) : Chain i s t :=
  Relation.ReflTransGen.mono (fun _ _ hm => .call hm) _ _ (h fun _ _ => trivial)

theorem chain_foldl {α : Type} {f : State → α → State} {as : List α} (s : State) (hf : ∀ a ∈ as, ∀ t, Chain i t (f t a)) :
    Chain i s (as.foldl f s) :=
  foldl_keeps (P := Chain i s) (fun a ha t h => h.trans (hf a ha t)) .refl

theorem chain_put (s : State) (l : LinkId) (m : Message) : Chain i s (s.put l m) := (works_put s l m).chain
theorem chain_raise (s : State) (c : AttentionClass) : Chain i s (s.raise c) := (works_raise s c).chain

theorem chain_unit {s : State} {l : LinkId} {u : LinkUnit} (h : UnitMove (s.link l) u) : Chain i s (s.setLink l u) :=
  (Writes.unit l u h).chain

theorem chain_record {s : State} {n : CallNo} {c : CallRecord} (h : RecordMove (s.call n) c) : Chain i s (s.setCall n c) :=
  (works_record trivial h).chain

theorem chain_settle (s before : State) : Chain i s (s.settle before) := by
  obtain e | e | e := settle_cases s before
  · rw [e]
  · rw [e]; exact chain_put ..
  · rw [e]; exact (chain_put ..).trans (chain_put ..)

/-! ### Deliveries -/

/-- A message that stands for delivery arrives on a link that is not DOWN, or stands at its head. -/
theorem chain_arrived {s : State} {l : LinkId} {m : Message} (h : s.deliverable l m = true) : Chain i s (s.arrived l m) := by
  unfold State.arrived
  split
  next hrx =>
    have hup : (s.link l).state ≠ .down := by simpa [State.deliverable, hrx] using h
    exact chain_unit ⟨fun hb => ⟨by simp, hb.tx, hb.badFrames, hb.checkErrors, hb.overruns, hb.txDrops⟩,
      fun _ hd => absurd hd hup, id⟩
  next => exact .refl

theorem unitMove_dropHead (u : LinkUnit) : UnitMove u u.dropHead := by
  refine ⟨fun hb => ?_, fun hq hd => ?_, by simp⟩
  · have hrx := dropHead_rx_length u hb.rx
    obtain ⟨-, htx, h1, h2, h3, h4⟩ := hb
    unfold LinkUnit.dropHead at hrx ⊢
    split at hrx <;> exact ⟨hrx, htx, h1, h2, h3, h4⟩
  · obtain ⟨hrx, hhold, htx, hs, hw, hp⟩ := hq (by simpa using hd)
    unfold LinkUnit.dropHead
    rw [hhold]
    exact ⟨.inl (by rcases hrx with h | h <;> simp [h]), rfl, htx, hs, hw, hp⟩

theorem chain_removeHead (s : State) (l : LinkId) (e : RxEntry) : Chain i s (s.removeHead l e) := by
  unfold State.removeHead
  split
  · exact chain_unit (unitMove_dropHead _)
  · exact .refl

theorem course_deliver (s : State) (l : LinkId) (m : Message) {f : State → State}
    (hf : ∀ t, Course i t (f t)) : Course i s (s.deliver l m f) := by
  unfold State.deliver
  split
  next h => exact ((chain_arrived h).trans_course (hf _)).trans_chain ((chain_settle ..).trans (chain_removeHead ..))
  next => exact .refl s

theorem course_deliverParty (s : State) (l : LinkId) (m : Message) {f : State → State}
    (hf : ∀ t, Course i t (f t)) : Course i s (s.deliverParty l m f) := by
  unfold State.deliverParty
  split
  · exact .refl s
  · exact course_deliver s l m hf

theorem course_fromStation (s : State) (p : Fin 4) (a : Octet) {f : Fin 2 → State → State}
    (hf : ∀ st t, Course i t (f st t)) : Course i s (s.fromStation p a f) := by
  unfold State.fromStation
  split
  · split
    · exact hf _ _
    · exact .refl s
  · exact .refl s

theorem chain_notePresence (s : State) (r : Fin 8) (a : Fin 63) : Chain i s (s.notePresence r a) := by
  have h : Chain i s (s.setHandset r a { s.handset r a with present := true, misses := 0 }) :=
    (Writes.handset r a true 0 (s.handset r a).quiet (.inl (by simp))).chain
  unfold State.notePresence
  dsimp only
  split
  · exact h
  · exact h.trans (chain_raise ..)

theorem course_fromHandset (s : State) (r : Fin 8) (a : Fin 63) {f : State → State}
    (hf : ∀ t, Course i t (f t)) : Course i s (s.fromHandset r a f) :=
  (chain_notePresence s r a).trans_course (hf _)

theorem course_fromPosition (s : State) (a : Octet) {f : Fin 6 → State → State}
    (hf : ∀ q t, Course i t (f q t)) : Course i s (s.fromPosition a f) := by
  unfold State.fromPosition
  split
  · exact hf _ _
  · exact .refl s

theorem course_fromTalker (s : State) (t : Talker) {f : Party → State → State}
    (hf : ∀ x u, Course i u (f x u)) : Course i s (s.fromTalker t f) := by
  cases t with
  | handset r a => exact course_fromHandset s r a (hf _)
  | position a => exact course_fromPosition s a fun q => hf _

theorem course_event (s : State) {f : State → State} (hf : Course i s (f s)) : Course i s (s.event f) :=
  hf.trans_chain (chain_settle ..)

/-- A request's effects, its RESULT and the ATTENTIONs. -/
theorem course_deliverRequest (s : State) (l : LinkId) (type : Octet) (args : List Octet) {judge : State → Answer}
    (hj : ∀ t, Chain i t ((judge t).state t)) : Course i s (s.deliverRequest l type args judge) := by
  unfold State.deliverRequest
  split
  next h =>
    refine Chain.course ((chain_arrived h.2).trans (Relation.ReflTransGen.trans ?_ (chain_removeHead ..)))
    exact (((hj _).trans (chain_settle ..)).trans (chain_put ..)).trans (chain_settle ..)
  next => exact .refl s

theorem course_takeRequest (s : State) (k : Request) (l : LinkId) (args : List Octet) {judge : State → Answer}
    (hj : ∀ t, Chain i t ((judge t).state t)) : Course i s (s.takeRequest k l args judge) :=
  course_deliverRequest s l _ args hj

end

end Sys2Proof.Machine
end

section
/-!
PROOF. The writes of the crosspoint and of the link units: the work of a frame period, connecting a call, an upstream frame
with all it brings, and a downstream frame, each as a chain of writes.
-/

namespace Sys2Proof.Machine

/-! ### Voice states -/

theorem meterAfter_le {level x b : Nat} (hl : level ≤ b) (hx : x ≤ b) : meterAfter level x ≤ b := by
  unfold meterAfter
  split
  · omega
  · split
    · omega
    · split <;> omega

theorem natAbs_sampleOf_le (s : State) (c : CallRecord) (x : Option Party) : (s.sampleOf c x).natAbs ≤ 4032 := by
  unfold State.sampleOf
  split
  · exact natAbs_decodeSample_le _
  · simp

/-- A decided direction keeps to the hang counter's range, and NEUTRAL comes with a hang counter of 0 (R115 to R117). -/
theorem directionDecision_kept {p : Params} {d : Direction} {lent lin hang : Nat} (hp : p.hangTime ≤ 255)
    (hhang : hang ≤ 4080) :
    (directionDecision p d lent lin hang).2 ≤ 4080 ∧
      ((directionDecision p d lent lin hang).1 = .neutral → (directionDecision p d lent lin hang).2 = 0) := by
  have hload : hangLoad p ≤ 4080 := by unfold hangLoad; omega
  have hold : ∀ (held taken : Direction) (own other : Nat), held ≠ .neutral → taken ≠ .neutral →
      (holdDecision p held taken own other hang).2 ≤ 4080 ∧
        ((holdDecision p held taken own other hang).1 = .neutral → (holdDecision p held taken own other hang).2 = 0) := by
    intro held taken own other hheld htaken
    unfold holdDecision
    split
    · exact ⟨hload, fun h => absurd h htaken⟩
    · split
      · exact ⟨hload, fun h => absurd h hheld⟩
      · split
        · exact ⟨by simp; omega, fun h => absurd h hheld⟩
        · simp
  cases d with
  | neutral =>
    unfold directionDecision
    dsimp only
    split
    · simp [hload]
    · split <;> simp [hload]
  | entrance => exact hold _ _ _ _ (by decide) (by decide)
  | inside => exact hold _ _ _ _ (by decide) (by decide)

/-- The voice state of a call after a frame period keeps to its ranges. -/
theorem voicePeriodOf_bounded {s : State} (c : CallRecord) {v : Voice} (hp : s.params.hangTime ≤ 255) (hv : v.Bounded) :
    (s.voicePeriodOf c v).1.Bounded := by
  obtain ⟨ho, ha, hj, hhang, -, -⟩ := hv
  have hso := meterAfter_le ho (natAbs_sampleOf_le s c c.origin)
  have hsa := meterAfter_le ha (natAbs_sampleOf_le s c c.answerer)
  have hsj : ∀ j, (v.joinedMeter.map fun x => meterAfter x (s.sampleOf c (c.joined.map Party.position)).natAbs) = some j →
      j ≤ 4032 := by
    intro j hmap
    obtain ⟨x, hx, rfl⟩ := Option.map_eq_some_iff.mp hmap
    exact meterAfter_le (hj x hx) (natAbs_sampleOf_le ..)
  obtain ⟨hdir, hneutral⟩ := directionDecision_kept (d := v.direction)
    (lent := meterAfter v.originMeter (s.sampleOf c c.origin).natAbs)
    (lin := meterAfter v.answererMeter (s.sampleOf c c.answerer).natAbs) hp hhang
  unfold State.voicePeriodOf
  dsimp only
  split
  next hmode => exact ⟨hso, hsa, hsj, hdir, fun h => absurd hmode h, hneutral⟩
  next hmode => exact ⟨hso, hsa, hsj, Nat.zero_le _, fun _ => rfl, fun _ => rfl⟩
  next hmode => exact ⟨hso, hsa, hsj, Nat.zero_le _, fun _ => rfl, fun _ => rfl⟩

theorem freshVoice_bounded (c : CallRecord) : c.freshVoice.Bounded :=
  ⟨Nat.zero_le _, Nat.zero_le _, by simp [CallRecord.freshVoice], Nat.zero_le _, fun _ => rfl, fun _ => rfl⟩

theorem voice_of_blank {c : CallRecord} (h : c.Blank) : c.voice = none := by rw [h]; rfl

/-- A record whose voice alone is rewritten, by a function that keeps it to its ranges. -/
theorem voiceMove_map {k : Nat} {c : CallRecord} {f : Voice → Voice} (hf : ∀ v, v.Bounded → (f v).Bounded) :
    VoiceMove k c { c with voice := c.voice.map f } := by
  refine ⟨rfl, fun hb => ?_, fun _ hk v hv => ?_⟩
  · rw [voice_of_blank hb, Option.map_none, ← voice_of_blank hb]
  · obtain hv | hv := hv
    · obtain ⟨w, hw, rfl⟩ := Option.map_eq_some_iff.mp hv
      exact hf w (hk w (.inl hw))
    · exact hk v (.inr hv)

section
variable {i : Instr}

theorem chain_handVoice (s : State) (x : VoiceOut) : Chain i s (s.handVoice x) :=
  chain_unit (unitMove_of_kept rfl ⟨rfl, rfl, rfl, rfl, rfl, rfl⟩ ⟨rfl, rfl, rfl, rfl⟩)

@[simp] theorem foldl_handVoice_call (s : State) (xs : List VoiceOut) (n : CallNo) :
    (xs.foldl State.handVoice s).call n = s.call n :=
  foldl_keeps (P := fun t : State => t.call n = s.call n) (fun _ _ _ h => h) rfl

@[simp] theorem foldl_handVoice_params (s : State) (xs : List VoiceOut) :
    (xs.foldl State.handVoice s).params = s.params :=
  foldl_keeps (P := fun t : State => t.params = s.params) (fun _ _ _ h => h) rfl

/-- What the work of a call in a frame period leaves: the other records and the parameters. -/
theorem voiceStep_call_ne (start s : State) {n m : CallNo} (h : m ≠ n) :
    (State.voiceStep start s n).call m = s.call m := by
  unfold State.voiceStep
  split
  · split <;> simp [h]
  · rfl

theorem voiceStep_params (start s : State) (n : CallNo) : (State.voiceStep start s n).params = s.params := by
  unfold State.voiceStep
  split
  · split <;> simp
  · rfl

theorem chain_voiceStep {start s : State} {n : CallNo} (hcall : s.call n = start.call n) (hp : s.params = start.params) :
    Chain i s (State.voiceStep start s n) := by
  unfold State.voiceStep
  split
  next hstate =>
    split
    next v hv =>
      refine Relation.ReflTransGen.trans (Writes.voice n _ ⟨rfl, fun hb => ?_, fun hh hk w hw => ?_⟩).chain
        (chain_foldl _ fun x _ t => chain_handVoice t x)
      · rw [hcall] at hb; rw [idle_of_blank hb] at hstate; cases hstate
      · have hout := voicePeriodOf_bounded (s := start) (start.call n) (hp ▸ hh) (hk v (.inl (hcall ▸ hv)))
        rcases hw with hw | hw <;> exact Option.some.inj hw ▸ hout
    next => exact .refl
  next => exact .refl

/-- The crosspoint takes each call once, so each finds its record as the frame period found it. -/
theorem chain_voiceSteps {start : State} {ns : List CallNo} {s : State} (hnodup : ns.Nodup)
    (hcall : ∀ n ∈ ns, s.call n = start.call n) (hp : s.params = start.params) :
    Chain i s (ns.foldl (State.voiceStep start) s) := by
  induction ns generalizing s with
  | nil => exact .refl
  | cons n ns ih =>
    obtain ⟨hn, hnodup⟩ := List.nodup_cons.mp hnodup
    refine (chain_voiceStep (hcall n List.mem_cons_self) hp).trans (ih hnodup (fun m hm => ?_) ?_)
    · have hne : m ≠ n := fun e => hn (e ▸ hm)
      rw [voiceStep_call_ne start s hne]
      exact hcall m (List.mem_cons_of_mem n hm)
    · rw [voiceStep_params, hp]

theorem allCalls_nodup : allCalls.Nodup := by decide

theorem chain_silence (s : State) : Chain i s s.silence :=
  (Writes.units (fun u => { u with handed := u.handed.map fun _ => 0#8 }) fun _ =>
    unitMove_of_kept rfl ⟨rfl, rfl, rfl, rfl, rfl, rfl⟩ ⟨rfl, rfl, rfl, rfl⟩).chain

theorem chain_voicePeriod (s : State) : Chain i s s.voicePeriod :=
  (chain_silence s).trans (chain_voiceSteps (s := s.silence) allCalls_nodup (fun _ _ => rfl) rfl)

theorem chain_hangRunsOut (s : State) (n : CallNo) : Chain i s (s.hangRunsOut n) := by
  unfold State.hangRunsOut
  split
  next v hstate hv =>
    split
    next h =>
      refine (Writes.voice n _ ⟨rfl, fun hb => ?_, fun _ hk w hw => ?_⟩).chain
      · rw [idle_of_blank hb] at hstate; cases hstate
      · obtain hw | hw := hw
        · obtain ⟨ho, ha, hj, hh, -, -⟩ := hk v (.inl hv)
          exact Option.some.inj hw ▸ ⟨ho, ha, hj, hh, fun _ => rfl, fun _ => h.2.2.1⟩
        · exact hk w (.inr hw)
    next => exact .refl
  next => exact .refl

theorem chain_connectChannel (s : State) (ch : Option (LinkId × Nat)) : Chain i s (s.connectChannel ch) := by
  unfold State.connectChannel
  split
  · exact chain_unit (unitMove_of_kept rfl ⟨rfl, rfl, rfl, rfl, rfl, rfl⟩ ⟨rfl, rfl, rfl, rfl⟩)
  · exact .refl

@[simp] theorem connectChannel_call (s : State) (ch : Option (LinkId × Nat)) (n : CallNo) :
    (s.connectChannel ch).call n = s.call n := by unfold State.connectChannel; split <;> rfl

theorem chain_connectVoice {s : State} {n : CallNo} (h : (s.call n).state ≠ .idle) : Chain i s (s.connectVoice n) := by
  refine ((chain_connectChannel s _).trans (chain_connectChannel _ _)).trans (Writes.voice n _ ?_).chain
  simp only [connectChannel_call]
  refine ⟨rfl, fun hb => absurd (idle_of_blank hb) h, fun _ _ v hv => ?_⟩
  obtain hv | hv := hv
  · exact Option.some.inj hv ▸ freshVoice_bounded _
  · cases hv

theorem chain_joinVoice (s : State) (n : CallNo) (q : Fin 6) : Chain i s (s.joinVoice n q) := by
  refine (chain_connectChannel s _).trans (Writes.voice n _ ?_).chain
  rw [connectChannel_call]
  refine voiceMove_map fun v hv => ⟨hv.origin, hv.answerer, fun j hj => ?_, Nat.zero_le _, fun _ => rfl, fun _ => rfl⟩
  exact Option.some.inj hj ▸ Nat.zero_le _

theorem chain_unjoinVoice (s : State) (n : CallNo) : Chain i s (s.unjoinVoice n) :=
  (Writes.voice n _ (voiceMove_map fun _ _ => freshVoice_bounded _)).chain

/-! ### Turns, assembly and the receive path -/

theorem chain_scheduler_keep {s : State} {r : Fin 8} {x : Scheduler} (h : x.turn ≠ none → s.turn r ≠ none) :
    Chain i s (s.setScheduler r x) := (Writes.scheduler r x fun hx => .inl (h hx)).chain

theorem chain_setTurn_none (s : State) (r : Fin 8) : Chain i s (s.setTurn r none) :=
  chain_scheduler_keep fun h => absurd rfl h

theorem chain_messageBegan (s : State) (l : LinkId) : Chain i s (s.messageBegan l) := by
  unfold State.messageBegan
  split
  · split
    next t ht =>
      split
      · exact chain_scheduler_keep fun _ => by simp [ht]
      · exact .refl
    next => exact .refl
  · exact .refl

theorem chain_endAnsweredTurn (s : State) (l : LinkId) : Chain i s (s.endAnsweredTurn l) := by
  unfold State.endAnsweredTurn
  split
  · split
    · split
      · exact chain_setTurn_none ..
      · exact .refl
    · exact .refl
  · exact .refl

@[simp] theorem setTurn_link (s : State) (r : Fin 8) (t : Option Turn) (l : LinkId) : (s.setTurn r t).link l = s.link l := rfl

@[simp] theorem messageBegan_link (s : State) (l k : LinkId) : (s.messageBegan l).link k = s.link k := by
  unfold State.messageBegan
  split
  · split
    · split <;> rfl
    · rfl
  · rfl

@[simp] theorem endAnsweredTurn_link (s : State) (l k : LinkId) : (s.endAnsweredTurn l).link k = s.link k := by
  unfold State.endAnsweredTurn
  split
  · split
    · split <;> rfl
    · rfl
  · rfl

theorem chain_setAssembly (s : State) (l : LinkId) (a : Assembly) : Chain i s (s.setAssembly l a) :=
  chain_unit (unitMove_of_kept rfl ⟨rfl, rfl, rfl, rfl, rfl, rfl⟩ ⟨rfl, rfl, rfl, rfl⟩)

theorem chain_countCheckError (s : State) (l : LinkId) : Chain i s (s.countCheckError l) :=
  chain_unit (unitMove_of_queues id ⟨rfl, rfl, rfl, rfl, rfl, rfl⟩
    ⟨.inl rfl, .inr (countUp_le _), .inl rfl, .inl rfl⟩)

theorem chain_enqueue {s : State} {l : LinkId} (m : Message) (h : (s.link l).state ≠ .down) :
    Chain i s (s.enqueue l m) := by
  obtain ⟨hlen, e⟩ | ⟨-, -, e⟩ | ⟨-, -, e⟩ := enqueue_cases s l m
  · rw [e]
    exact chain_unit ⟨fun hb => ⟨by simp; omega, hb.tx, hb.badFrames, hb.checkErrors, hb.overruns, hb.txDrops⟩,
      fun _ hd => absurd hd h, id⟩
  · rw [e]
    exact chain_unit ⟨fun hb => ⟨hb.rx, hb.tx, hb.badFrames, hb.checkErrors, hb.overruns, hb.txDrops⟩,
      fun _ hd => absurd hd h, id⟩
  · rw [e]
    refine Relation.ReflTransGen.trans (chain_unit ?_) (chain_raise ..)
    exact ⟨fun hb => ⟨hb.rx, hb.tx, hb.badFrames, hb.checkErrors, countUp_le _, hb.txDrops⟩,
      fun _ hd => absurd hd h, id⟩

theorem enqueue_link_state (s : State) (l k : LinkId) (m : Message) :
    ((s.enqueue l m).link k).state = (s.link k).state := by
  by_cases hk : k = l
  · subst hk
    obtain ⟨-, e⟩ | ⟨-, -, e⟩ | ⟨-, -, e⟩ := enqueue_cases s k m <;> simp [e]
  · obtain ⟨-, e⟩ | ⟨-, -, e⟩ | ⟨-, -, e⟩ := enqueue_cases s l m <;> simp [e, hk]

theorem countCheckError_link_state (s : State) (l k : LinkId) :
    ((s.countCheckError l).link k).state = (s.link k).state := by
  by_cases hk : k = l
  · subst hk; simp [State.countCheckError]
  · simp [State.countCheckError, hk]

theorem setAssembly_link_state (s : State) (l k : LinkId) (a : Assembly) :
    ((s.setAssembly l a).link k).state = (s.link k).state := by
  by_cases hk : k = l
  · subst hk; simp [State.setAssembly]
  · simp [State.setAssembly, hk]

theorem chain_takeBody {s : State} {l : LinkId} (body : List Octet) (escape : Bool) (h : (s.link l).state ≠ .down) :
    Chain i s (s.takeBody l body escape) := by
  unfold State.takeBody
  split
  · split
    · exact chain_enqueue _ h
    · exact chain_countCheckError ..
  · exact chain_countCheckError ..

theorem takeBody_link_state (s : State) (l k : LinkId) (body : List Octet) (escape : Bool) :
    ((s.takeBody l body escape).link k).state = (s.link k).state := by
  unfold State.takeBody
  split
  · split
    · exact enqueue_link_state ..
    · exact countCheckError_link_state ..
  · exact countCheckError_link_state ..

theorem chain_takeSignalling {s : State} {l : LinkId} (o : Octet) (h : (s.link l).state ≠ .down) :
    Chain i s (s.takeSignalling l o) := by
  refine (chain_setAssembly s l ((s.link l).assembly.feed o).1).trans ?_
  unfold State.takeSignalling
  dsimp only
  split
  · exact .refl
  · exact chain_messageBegan ..
  · exact (chain_countCheckError ..).trans (chain_endAnsweredTurn ..)
  · exact (chain_takeBody _ _ (by rwa [setAssembly_link_state])).trans (chain_endAnsweredTurn ..)

theorem takeSignalling_link_state (s : State) (l k : LinkId) (o : Octet) :
    ((s.takeSignalling l o).link k).state = (s.link k).state := by
  unfold State.takeSignalling
  dsimp only
  split
  · exact setAssembly_link_state ..
  · rw [messageBegan_link, setAssembly_link_state]
  · rw [endAnsweredTurn_link, countCheckError_link_state, setAssembly_link_state]
  · rw [endAnsweredTurn_link, takeBody_link_state, setAssembly_link_state]

theorem chain_strike (s : State) (l : LinkId) : Chain i s (s.strike l) := by
  unfold State.strike
  dsimp only
  split
  · exact ((chain_setAssembly ..).trans (chain_countCheckError ..)).trans (chain_endAnsweredTurn ..)
  · exact chain_setAssembly ..

/-! ### Link states -/

theorem chain_handOverQueue (s : State) : Chain i s s.handOverQueue := by
  refine Relation.ReflTransGen.trans (Works.chain (CallMove.deskQueue [] (by simp) (by simp)).works) (chain_foldl _ fun n _ t => ?_)
  exact (eventWorks_outcome t _ trivial).chain

theorem chain_wakeAll (s : State) (r : Fin 8) (a : Fin 63) : Chain i s (s.wakeAll r a) :=
  (works_wakeAll (fun _ h => h) s r a).chain

/-- The riser unit's work at the loss of its link, its turn being ended already. -/
theorem chain_riserLost (s : State) (r : Fin 8) : Chain i s (s.riserLost r) := by
  have h := (chain_setTurn_none s r).trans (Writes.riserAbsent (i := i) r).chain
  unfold State.riserLost
  dsimp only
  split
  · exact (h.trans (chain_raise ..)).trans (chain_foldl _ fun a _ t => chain_wakeAll t r a)
  · exact h.trans (chain_foldl _ fun a _ t => chain_wakeAll t r a)

theorem chain_trunkLost (s : State) : Chain i s s.trunkLost := by
  have h : Chain i s _ := Writes.logoffAll.chain
  unfold State.trunkLost
  dsimp only
  split
  · exact (h.trans (chain_raise ..)).trans (chain_handOverQueue _)
  · exact h.trans (chain_handOverQueue _)

theorem lockedShut_kept : Door.lockedShut.Kept := ⟨rfl, rfl⟩

theorem chain_linkLost (hi : i.movesDoor = true) (s : State) (l : LinkId) : Chain i s (s.linkLost l) := by
  cases l with
  | panel p => exact (Writes.door p _ hi fun _ => lockedShut_kept).chain
  | riser r => exact chain_riserLost s r
  | trunk => exact chain_trunkLost s

/-- The link unit of a link that has just gone DOWN (R151 to R153). -/
def LinkUnit.lost (u : LinkUnit) : LinkUnit :=
  { u.flushed with
    state := .down
    rx := [.lost]
    partnerHoldOff := false
    alignment := none
    acquiring := false
    gathered := []
    candidate := none
    markerRun := 0
    lostRun := 0 }

theorem goDown_eq (s : State) (l : LinkId) : s.goDown l = ((s.setLink l (s.link l).lost).raise .link).linkLost l := rfl

/-- The turn of a riser that has gone DOWN is ended with its queues, whatever is told first. -/
theorem linkLost_cutTurn (s : State) (l : LinkId) : (s.cutTurn l).linkLost l = s.linkLost l := by
  cases l with
  | panel p => rfl
  | trunk => rfl
  | riser r =>
    have h : (s.setTurn r none).setScheduler r { (s.setTurn r none).scheduler r with turn := none } =
        s.setScheduler r { s.scheduler r with turn := none } := by
      simp [State.setTurn, State.setScheduler, State.scheduler]
    simp only [State.linkLost, State.cutTurn, State.riserLost, h]
    rfl

theorem chain_goDown (hi : i.movesDoor = true) (s : State) (l : LinkId) : Chain i s (s.goDown l) := by
  have hraise : ((s.setLink l (s.link l).lost).cutTurn l).raise .link =
      ((s.setLink l (s.link l).lost).raise .link).cutTurn l := by cases l <;> rfl
  have hdown : Writes i s ((s.setLink l (s.link l).lost).cutTurn l) :=
    .goesDown l _ (fun hb => ⟨by simp [LinkUnit.lost], by simp [LinkUnit.lost, LinkUnit.flushed], hb.badFrames,
      hb.checkErrors, hb.overruns, hb.txDrops⟩) fun _ => ⟨.inr rfl, rfl, rfl, rfl, rfl, rfl⟩
  rw [goDown_eq, ← linkLost_cutTurn, ← hraise]
  exact (hdown.chain.trans (chain_raise ..)).trans (chain_linkLost hi _ l)

theorem chain_goUp (s : State) (l : LinkId) (n : Nat) (start : Int) : Chain i s (s.goUp l n start) := by
  refine Relation.ReflTransGen.trans (chain_unit ?_) (chain_raise ..)
  exact unitMove_of_queues (fun h => LinkState.noConfusion h) ⟨rfl, rfl, rfl, rfl, rfl, rfl⟩
    ⟨.inl rfl, .inl rfl, .inl rfl, .inl rfl⟩

/-- The hunt writes the candidate and the marker run alone (R145). -/
theorem huntOctet_frame (frame : Nat) (u : LinkUnit) (o : Octet) :
    u.huntOctet frame o =
      { u with candidate := (u.huntOctet frame o).candidate, markerRun := (u.huntOctet frame o).markerRun } := by
  unfold LinkUnit.huntOctet
  split
  · split <;> rfl
  · split
    · rfl
    · split <;> rfl

theorem unitMove_huntOctet (frame : Nat) (u : LinkUnit) (o : Octet) : UnitMove u (u.huntOctet frame o) := by
  rw [huntOctet_frame]
  exact unitMove_of_kept rfl ⟨rfl, rfl, rfl, rfl, rfl, rfl⟩ ⟨rfl, rfl, rfl, rfl⟩

theorem chain_hunt16 (l : LinkId) (n : Nat) (as : List Arrival) (s : State) : Chain i s (State.hunt16 l n as s) := by
  induction as generalizing s with
  | nil => exact .refl
  | cons a as ih =>
    have h : Chain i s (s.setLink l ((s.link l).huntOctet l.frameOctets a.octet)) := chain_unit (unitMove_huntOctet ..)
    unfold State.hunt16
    dsimp only
    split
    · exact h.trans (chain_goUp ..)
    · exact h.trans (ih _)

theorem unitMove_presentSilence (u : LinkUnit) : UnitMove u u.presentSilence :=
  unitMove_of_kept rfl ⟨rfl, rfl, rfl, rfl, rfl, rfl⟩ ⟨rfl, rfl, rfl, rfl⟩

/-- A frame period that is classed takes no link DOWN by itself, and moves no queue. -/
theorem unitMove_classed (u : LinkUnit) (k : FrameClass) : UnitMove u (u.classed k) := by
  unfold LinkUnit.classed
  cases k with
  | good =>
    dsimp only
    generalize (if decide (u.state = .impaired) = true then u.goodRun + 1 else u.goodRun) = run
    split
    · exact unitMove_of_queues (fun h => LinkState.noConfusion h) ⟨rfl, rfl, rfl, rfl, rfl, rfl⟩
        ⟨.inl rfl, .inl rfl, .inl rfl, .inl rfl⟩
    · exact unitMove_of_kept rfl ⟨rfl, rfl, rfl, rfl, rfl, rfl⟩ ⟨rfl, rfl, rfl, rfl⟩
  | bad =>
    refine unitMove_of_queues (fun h => ?_) ⟨rfl, rfl, rfl, rfl, rfl, rfl⟩
      ⟨.inr (countUp_le _), .inl rfl, .inl rfl, .inl rfl⟩
    dsimp only at h
    split at h
    · cases h
    · exact h
  | lost => exact unitMove_of_kept rfl ⟨rfl, rfl, rfl, rfl, rfl, rfl⟩ ⟨rfl, rfl, rfl, rfl⟩

theorem classed_up {u : LinkUnit} {k : FrameClass} (h : u.state ≠ .down) : (u.classed k).state ≠ .down :=
  fun hd => h ((unitMove_classed u k).down hd)

theorem unitMove_takeVoice (u : LinkUnit) (good : Option (List Octet)) : UnitMove u (u.takeVoice good) :=
  unitMove_of_kept rfl ⟨rfl, rfl, rfl, rfl, rfl, rfl⟩ ⟨rfl, rfl, rfl, rfl⟩

theorem chain_takeGoodFrame {s : State} {l : LinkId} (octets : List Octet) (h : (s.link l).state ≠ .down) :
    Chain i s (s.takeGoodFrame l octets) := by
  have hunit : UnitMove (s.link l)
      { (s.link l).takeVoice (some ((octets.drop 4).take l.voiceChannels)) with
        partnerHoldOff := if isRiser l then ((s.link l).takeVoice (some ((octets.drop 4).take l.voiceChannels))).partnerHoldOff
          else holdOffMark (octets.getD 1 0#8) } :=
    ⟨fun hb => ⟨hb.rx, hb.tx, hb.badFrames, hb.checkErrors, hb.overruns, hb.txDrops⟩, fun _ hd => absurd hd h, id⟩
  have hfold : ∀ (os : List Octet) (t : State), (t.link l).state ≠ .down →
      Chain i t (os.foldl (State.takeSignalling l) t) := by
    intro os
    induction os with
    | nil => exact fun _ _ => .refl
    | cons o os ih =>
      exact fun t ht => (chain_takeSignalling o ht).trans (ih _ (by rwa [takeSignalling_link_state]))
  exact (chain_unit hunit).trans (hfold _ _ (by simpa [LinkUnit.takeVoice] using h))

theorem chain_noteChange (s : State) (l : LinkId) (before : LinkState) : Chain i s (s.noteChange l before) := by
  unfold State.noteChange
  split
  · exact .refl
  · exact chain_raise ..

@[simp] theorem noteChange_link (s : State) (l k : LinkId) (before : LinkState) :
    (s.noteChange l before).link k = s.link k := by unfold State.noteChange; split <;> rfl

theorem chain_takeFrame (hi : i.movesDoor = true) {s : State} {l : LinkId} (octets : List Octet)
    (h : (s.link l).state ≠ .down) : Chain i s (s.takeFrame l octets) := by
  have hclassed : Chain i s ((s.setLink l ((s.link l).classed (frameClass l octets))).noteChange l (s.link l).state) :=
    (chain_unit (unitMove_classed ..)).trans (chain_noteChange ..)
  have hvoice : ∀ t : State, Chain i t ((t.setLink l ((t.link l).takeVoice none)).strike l) := fun t =>
    (chain_unit (unitMove_takeVoice ..)).trans (chain_strike ..)
  unfold State.takeFrame
  dsimp only
  split
  · exact hclassed.trans (chain_takeGoodFrame _ (by simpa using classed_up h))
  · exact hclassed.trans (hvoice _)
  · split
    · exact (hclassed.trans (chain_unit (unitMove_presentSilence _))).trans (chain_goDown hi _ l)
    · exact hclassed.trans (hvoice _)

theorem chain_upstream (hi : i.movesDoor = true) (s : State) (l : LinkId) (n : Nat) (as : List Arrival) :
    Chain i s (s.upstream l n as) := by
  unfold State.upstream
  dsimp only
  split
  · exact (chain_unit (unitMove_presentSilence _)).trans (chain_hunt16 ..)
  next hup =>
    have hgather : Chain i s (s.setLink l ((s.link l).gather n ((s.link l).frameEnd n) as)) :=
      chain_unit (unitMove_of_kept rfl ⟨rfl, rfl, rfl, rfl, rfl, rfl⟩ ⟨rfl, rfl, rfl, rfl⟩)
    split
    · exact hgather
    · have hframe := hgather.trans (chain_takeFrame hi (placedOctets n ((s.link l).frameEnd n) ((s.link l).gathered ++ as))
        (by rw [setLink_link_self]; exact hup))
      split
      · exact hframe.trans (chain_hunt16 ..)
      · exact hframe

theorem chain_settleUpstream (s before : State) (l : LinkId) : Chain i s (s.settleUpstream before l) := by
  unfold State.settleUpstream
  split
  · split
    · exact .refl
    · exact chain_put ..
  · exact chain_settle ..

/-! ### The downstream frame -/

theorem tail_length_le {α : Type} (xs : List α) {b : Nat} (h : xs.length ≤ b) : xs.tail.length ≤ b := by
  rw [List.length_tail]; omega

/-- A link unit that sends an octet of a message keeps to its sizes, and a DOWN one sends none. -/
theorem unitMove_sendOctets {u : LinkUnit} (hup : u.Quiet → u.state ≠ .down) (os : List Octet) :
    UnitMove u (u.sendOctets os).2 := by
  have hquiet : ∀ {v : LinkUnit}, v.state = u.state → u.Quiet → v.Quiet := fun hv hq hd => absurd (hv ▸ hd) (hup hq)
  match os with
  | [] =>
    exact ⟨fun hb => ⟨hb.rx, tail_length_le _ hb.tx, hb.badFrames, hb.checkErrors, hb.overruns, hb.txDrops⟩,
      hquiet rfl, id⟩
  | [_] =>
    exact ⟨fun hb => ⟨hb.rx, tail_length_le _ hb.tx, hb.badFrames, hb.checkErrors, hb.overruns, hb.txDrops⟩,
      hquiet rfl, id⟩
  | _ :: _ :: _ =>
    exact ⟨fun hb => ⟨hb.rx, hb.tx, hb.badFrames, hb.checkErrors, hb.overruns, hb.txDrops⟩, hquiet rfl, id⟩

theorem unitMove_nextOctet (u : LinkUnit) : UnitMove u u.nextOctet.2 := by
  unfold LinkUnit.nextOctet
  split
  next os hos =>
    refine unitMove_sendOctets (fun hq hd => ?_) os
    obtain ⟨-, -, -, hsending, -⟩ := hq hd
    rw [hos] at hsending; cases hsending
  next =>
    split
    next => exact unitMove_of_kept rfl ⟨rfl, rfl, rfl, rfl, rfl, rfl⟩ ⟨rfl, rfl, rfl, rfl⟩
    next m ms htx =>
      have hup : u.Quiet → u.state ≠ .down := fun hq hd => by
        obtain ⟨-, -, hnone, -⟩ := hq hd
        rw [htx] at hnone; cases hnone
      have hkept : ∀ {v : LinkUnit}, v.state = u.state → v.rx = u.rx → v.tx = u.tx →
          (v.badFrames = u.badFrames ∧ v.checkErrors = u.checkErrors ∧ v.overruns = u.overruns ∧ v.txDrops = u.txDrops) →
          UnitMove u v := by
        intro v hs hrx htx' hc
        obtain ⟨h1, h2, h3, h4⟩ := hc
        exact ⟨fun hb => ⟨hrx ▸ hb.rx, htx' ▸ hb.tx, h1 ▸ hb.badFrames, h2 ▸ hb.checkErrors, h3 ▸ hb.overruns,
          h4 ▸ hb.txDrops⟩, fun hq hd => absurd (hs ▸ hd) (hup hq), fun hd => hs ▸ hd⟩
      split
      · exact hkept rfl rfl rfl ⟨rfl, rfl, rfl, rfl⟩
      · split
        · refine (hkept (v := { u with holdOffWait := none }) rfl rfl rfl ⟨rfl, rfl, rfl, rfl⟩).trans
            (unitMove_sendOctets (fun hq hd => ?_) _)
          obtain ⟨-, -, hnone, -⟩ := hq hd
          rw [htx] at hnone; cases hnone
        · exact hkept rfl rfl rfl ⟨rfl, rfl, rfl, rfl⟩

theorem chain_countTurnFrame (s : State) (l : LinkId) : Chain i s (s.countTurnFrame l) := by
  unfold State.countTurnFrame
  split
  · split
    next t ht => exact chain_scheduler_keep fun _ => by simp [ht]
    next => exact .refl
  · exact .refl

theorem chain_downstream (s : State) (l : LinkId) : Chain i s (s.downstream l) := by
  unfold State.downstream
  split
  · exact .refl
  · refine Relation.ReflTransGen.trans (chain_unit ?_) (chain_countTurnFrame ..)
    exact ((unitMove_nextOctet _).trans (unitMove_nextOctet _)).trans
      (unitMove_of_kept rfl ⟨rfl, rfl, rfl, rfl, rfl, rfl⟩ ⟨rfl, rfl, rfl, rfl⟩)

end

end Sys2Proof.Machine
end

section
/-!
PROOF. The course of every command: creation, resolution, answering, leaving, the management requests and the expiries, each
as writes with at most one release; and `exec_course` for all of them.
-/

namespace Sys2Proof.Machine

/-! ### Roles -/

theorem not_blank_of_role {c : CallRecord} {x : Party} {ro : Role} (h : c.role x = some ro) : ¬ c.Blank := fun hb => by
  rw [role_of_blank hb] at h; cases h

theorem roleOf_eq_some {s : State} {x : Party} {n : CallNo} {ro : Role} (h : s.roleOf x = some (n, ro)) :
    s.engagedBy x = some n ∧ (s.call n).role x = some ro := by
  obtain ⟨m, hm, hrole⟩ := Option.bind_eq_some_iff.mp h
  obtain ⟨ro', hro, heq⟩ := Option.map_eq_some_iff.mp hrole
  obtain ⟨rfl, rfl⟩ := Prod.mk.inj heq
  exact ⟨hm, hro⟩

/-- A record rewritten without its state, its releases, its reservations and its voice. -/
theorem recordMove_of_kept {c c' : CallRecord} (hb : c.Blank → c' = c)
    (h : c'.state = c.state ∧ c'.releases = c.releases ∧ c'.reservations = c.reservations ∧ c'.voice = c.voice ∧
      c'.lastPeriod = c.lastPeriod) (horigin : c'.origin = c.origin := by rfl) : RecordMove c c' :=
  ⟨h.2.1, h.2.2.1, horigin, by rw [h.1], hb, h.2.2.2.1, h.2.2.2.2⟩

theorem alerted_of_blank {c : CallRecord} (h : c.Blank) : c.alerted = [] := by rw [h]; rfl
theorem joined_of_blank {c : CallRecord} (h : c.Blank) : c.joined = none := by rw [h]; rfl
theorem waitCount_of_blank {c : CallRecord} (h : c.Blank) : c.waitCount = none := by rw [h]; rfl

theorem recordMove_alerted {c : CallRecord} {xs : List Party} (h : c.alerted = [] → xs = []) :
    RecordMove c { c with alerted := xs } :=
  recordMove_of_kept (fun hb => by rw [h (alerted_of_blank hb), ← alerted_of_blank hb]) ⟨rfl, rfl, rfl, rfl, rfl⟩

theorem recordMove_stopRing (c : CallRecord) : RecordMove c { c with alerted := [], stateCount := none } := by
  refine recordMove_of_kept (fun hb => ?_) ⟨rfl, rfl, rfl, rfl, rfl⟩
  conv_rhs => rw [hb]
  conv_lhs => rw [hb]
  rfl

theorem recordMove_stopState (c : CallRecord) : RecordMove c { c with stateCount := none } :=
  recordMove_of_kept (fun hb => by rw [← stateCount_of_blank hb]) ⟨rfl, rfl, rfl, rfl, rfl⟩

theorem recordMove_stopWait (c : CallRecord) : RecordMove c { c with waitCount := none } :=
  recordMove_of_kept (fun hb => by rw [← waitCount_of_blank hb]) ⟨rfl, rfl, rfl, rfl, rfl⟩

theorem recordMove_unjoin (c : CallRecord) : RecordMove c { c with joined := none } :=
  recordMove_of_kept (fun hb => by rw [← joined_of_blank hb]) ⟨rfl, rfl, rfl, rfl, rfl⟩

section
variable {i : Instr}

theorem chain_clear (s : State) (n : CallNo) (cause : Cause) : Chain i s (s.clear n cause) :=
  (eventWorks_clear s cause trivial).chain
theorem chain_outcome (s : State) (n : CallNo) (cause : Cause) : Chain i s (s.outcome n cause) :=
  (eventWorks_outcome s cause trivial).chain
theorem chain_handBack (s : State) (n : CallNo) (x : Fin 8 × Fin 4) : Chain i s (s.handBack n x) :=
  (eventWorks_handBack s x trivial).chain
theorem chain_disengage (s : State) (n : CallNo) (x : Party) : Chain i s (s.disengage n x) :=
  (eventWorks_disengage s n x).chain
theorem chain_hunt (s : State) (n : CallNo) : Chain i s (s.hunt n) := (eventWorks_hunt s trivial).chain
theorem chain_engage (s : State) (x : Party) (n : CallNo) : Chain i s (s.engage x n) := by
  cases x with
  | station p st => exact .single (.engages p st n)
  | handset r a => exact (works_engageHandset s r a trivial).chain
  | position q => exact (works_engagePosition s q trivial).chain
theorem chain_targetCheck (s : State) (n : CallNo) : Chain i s (s.targetCheck n) :=
  (works_targetCheck s trivial trivial).chain
theorem chain_wakeDesk {s : State} (h : s.idleOrder ≠ []) : Chain i s s.wakeDesk := (works_wakeDesk h).chain

/-! ### Creation and resolution -/

/-- What a creation can be (R3): in RUN, the lowest IDLE record taken and its origin engaged. -/
theorem create_eq_some {s t : State} {k : CallKind} {st : CallState} {x : Party} {digits : Code} {n : CallNo}
    (h : s.create k st x digits = some (n, t)) :
    s.mode = .run ∧ s.lowestIdle = some n ∧ (s.call n).state = .idle ∧
      t = (s.setCall n (CallRecord.taken k st x digits)).engage x n := by
  unfold State.create at h
  split at h
  next hmode =>
    obtain ⟨m, hm, heq⟩ := Option.map_eq_some_iff.mp h
    obtain ⟨rfl, rfl⟩ := Prod.mk.inj heq
    exact ⟨hmode, hm, by simpa using List.find?_some hm, rfl⟩
  next => cases h

theorem chain_create {s t : State} {k : CallKind} {st : CallState} {x : Party} {digits : Code} {n : CallNo}
    (hst : st ≠ .idle) (h : s.create k st x digits = some (n, t)) : Chain i s t := by
  obtain ⟨hmode, -, hidle, rfl⟩ := create_eq_some h
  refine (Writes.create n k st x digits hmode hidle hst ?_).chain.trans (chain_engage ..)
  by_cases hb : (s.call n).Blank
  · exact .inl (reservations_of_blank hb)
  · exact .inr hb

theorem create_call {s t : State} {k : CallKind} {st : CallState} {x : Party} {digits : Code} {n : CallNo}
    (h : s.create k st x digits = some (n, t)) : t.call n = CallRecord.taken k st x digits := by
  obtain ⟨-, -, -, rfl⟩ := create_eq_some h
  simp

theorem chain_takeCopy {s : State} {n : CallNo} (x : Resolved) (h : (s.call n).state ≠ .idle) :
    Chain i s (s.takeCopy n x) := chain_record (recordMove_of_active h h ⟨rfl, rfl, rfl, rfl⟩)

theorem chain_startRelease {s : State} {n : CallNo} {p : Fin 4} (hi : i.movesDoor = false)
    (h : (s.door p).state = .locked) (st : Fin 2) (kind : ReleaseKind) (granting : Option Party) (code : Code) :
    Course i s (s.startRelease n p st kind granting code) := by
  refine .inr ⟨hi, _, _, chain_put s (.panel p) (unlockMsg (Party.station p st).addr s.params.releaseTime), ?_, .refl⟩
  exact ⟨n, p, st, kind, granting, code, by simpa using h, by simp [State.startRelease, State.released]⟩

theorem course_requestRelease (hi : i.movesDoor = false) (s : State) (n : CallNo) (p : Fin 4) (st : Fin 2)
    (kind : ReleaseKind) (granting : Option Party) (code : Code) :
    Course i s (s.requestRelease n p st kind granting code).2 := by
  unfold State.requestRelease
  split
  next hlocked =>
    split
    · exact .refl s
    · exact chain_startRelease hi hlocked st kind granting code
  next => exact .refl s
  next => exact .refl s

/-- An entry whose uses count has fallen, where it is the ACCESS entry with code `c` (R46). -/
def Entry.usedOnce (c : Code) (e : Entry) : Entry :=
  if e.code = c then
    match e.body with
    | .access uses => if 1 ≤ uses ∧ uses ≤ 254 then { e with body := .access (uses - 1) } else e
    | _ => e
  else e

theorem usedOnce_code (c : Code) (e : Entry) : (e.usedOnce c).code = e.code := by
  unfold Entry.usedOnce
  split
  · split
    · split <;> rfl
    · rfl
  · rfl

theorem decrementUses_eq_map (c : Code) (d : List Entry) : decrementUses c d = d.map (Entry.usedOnce c) := by
  unfold decrementUses Entry.usedOnce
  rfl

/-- The uses count that falls keeps the directory (R46). -/
theorem directoryKept_decrementUses {d : List Entry} (c : Code) (h : DirectoryKept d) :
    DirectoryKept (decrementUses c d) := by
  refine ⟨by simpa [decrementUses] using h.size, ?_, ?_⟩
  · refine List.pairwise_map.mpr (h.order.imp fun {x y} hxy => ?_)
    have hcode : ∀ e : Entry, (e.usedOnce c).code = e.code := usedOnce_code c
    exact (hcode x).symm ▸ (hcode y).symm ▸ hxy
  · intro e he
    obtain ⟨e, hmem, rfl⟩ := List.mem_map.mp he
    have hkept := h.entries e hmem
    split
    · split
      next uses hbody =>
        split
        · obtain ⟨h1, h2, h3, h4, h5⟩ := hkept
          rw [hbody] at h5
          exact ⟨h1, h2, h3, h4, by simp only at h5 ⊢; omega⟩
        · exact hkept
      next => exact hkept
    · exact hkept

theorem chain_finishAccess (s : State) (n : CallNo) (p : Fin 4) (st : Fin 2) (e : Entry) (uses : Nat)
    (a : ReleaseAnswer) : Chain i s (s.finishAccess n p st e uses a) := by
  cases a with
  | started =>
    have hdir : Chain i s (if uses = 255 then s else { s with directory := decrementUses e.code s.directory }) := by
      split
      · exact .refl
      · exact (Writes.directory _ (directoryKept_decrementUses e.code)).chain
    exact (hdir.trans (chain_put ..)).trans (chain_clear ..)
  | already => exact Relation.ReflTransGen.trans (chain_put s _ _) (chain_clear ..)
  | refused => exact (Writes.freeIndex (s.freeIndex + 1)).chain.trans (chain_clear ..)

theorem course_resolveAccess (hi : i.movesDoor = false) (s : State) (n : CallNo) (p : Fin 4) (st : Fin 2) (e : Entry)
    (uses : Nat) : Course i s (s.resolveAccess n p st e uses) := by
  unfold State.resolveAccess
  split
  · exact Chain.course ((chain_put s _ _).trans (chain_clear ..))
  · exact (course_requestRelease hi ..).trans_chain (chain_finishAccess ..)

theorem course_resolveEntrance (hi : i.movesDoor = false) {s : State} {n : CallNo} (p : Fin 4) (st : Fin 2) (e : Entry)
    (h : (s.call n).state ≠ .idle) : Course i s (s.resolveEntrance n p st e) := by
  unfold State.resolveEntrance
  split
  · exact (chain_outcome ..).course
  · split
    · exact Chain.course ((chain_takeCopy _ h).trans (chain_targetCheck ..))
    · exact Chain.course ((chain_takeCopy _ h).trans (chain_hunt ..))
    · exact course_resolveAccess hi ..
    · exact (chain_outcome ..).course

theorem chain_resolveDesk {s : State} {n : CallNo} (e : Entry) (h : (s.call n).state ≠ .idle) :
    Chain i s (s.resolveDesk n e) := by
  unfold State.resolveDesk
  split
  · exact (chain_takeCopy _ h).trans (chain_targetCheck ..)
  · exact chain_outcome ..

theorem course_resolveExact (hi : i.movesDoor = false) {s : State} {n : CallNo} (h : (s.call n).state ≠ .idle) :
    Course i s (s.resolveExact n) := by
  unfold State.resolveExact
  split
  · split
    · exact course_resolveEntrance hi _ _ _ h
    · exact (chain_resolveDesk _ h).course
  · exact (chain_outcome ..).course

theorem course_afterDigit (hi : i.movesDoor = false) {s : State} {n : CallNo} (h : (s.call n).state ≠ .idle) :
    Course i s (s.afterDigit n) := by
  unfold State.afterDigit
  split
  · exact Chain.course (chain_record (by exact recordMove_of_active h h ⟨rfl, rfl, rfl, rfl⟩))
  · exact course_resolveExact hi h

theorem chain_refuseStation (s : State) (p : Fin 4) (st : Fin 2) : Chain i s (s.refuseStation p st) := by
  unfold State.refuseStation
  split
  · exact (chain_put s _ _).trans (chain_raise ..)
  · exact chain_put s _ _

theorem chain_refuseCaller (s : State) (x : Party) : Chain i s (s.refuseCaller x) := by
  unfold State.refuseCaller
  split
  · exact (chain_put s _ _).trans (chain_raise ..)
  · exact chain_put s _ _

/-! ### Answering and leaving -/

theorem chain_connectParty (s : State) (n : CallNo) (x : Party) : Chain i s (s.connectParty n x) := by
  unfold State.connectParty
  split
  · exact chain_put s _ _
  · exact .refl

theorem chain_connectOrigin (s : State) (n : CallNo) : Chain i s (s.connectOrigin n) := by
  unfold State.connectOrigin
  split
  · exact .refl
  · split
    · exact chain_put s _ _
    · exact .refl
  · exact .refl

@[simp] theorem connectOrigin_call (s : State) (n m : CallNo) : (s.connectOrigin n).call m = s.call m := by
  unfold State.connectOrigin
  split
  · rfl
  · split
    · exact put_call ..
    · rfl
  · rfl

@[simp] theorem connectParty_call (s : State) (n m : CallNo) (x : Party) : (s.connectParty n x).call m = s.call m := by
  unfold State.connectParty
  split
  · exact put_call ..
  · rfl

theorem tellProgress_call_state (s : State) (n m : CallNo) : ((s.tellProgress n).call m).state = (s.call m).state := by
  obtain e | ⟨p, st, v, -, -, -, -, e⟩ := tellProgress_cases s n
  · rw [e]
  · rw [e]
    by_cases hm : m = n
    · subst hm; simp
    · simp [hm, State.sendProgress]

theorem chain_beginTalk (s : State) (n : CallNo) : Chain i s (s.beginTalk n) := by
  unfold State.beginTalk
  split
  · exact .refl
  next h =>
    have htalk : Chain i s (s.enterTalking n) := (works_setCall_tell trivial (.refl s)
      (by exact recordMove_of_active h CallState.noConfusion ⟨rfl, rfl, rfl, rfl⟩)).chain
    refine Relation.ReflTransGen.trans (htalk.trans (chain_connectOrigin ..)) (chain_connectVoice ?_)
    rw [connectOrigin_call, State.enterTalking, tellProgress_call_state, setCall_call_self]
    exact CallState.noConfusion

theorem chain_stopMember (n : CallNo) (s : State) (x : Party) : Chain i s (State.stopMember n s x) :=
  (chain_put s _ _).trans (chain_disengage ..)

theorem chain_answerHandset {s : State} {n : CallNo} (r : Fin 8) (a : Fin 63) (h : (s.call n).state ≠ .idle) :
    Chain i s (s.answerHandset n r a) := by
  have hrecord := chain_record (i := i) (recordMove_of_active (c := s.call n)
    (c' := { s.call n with answerer := some (.handset r a), alerted := [], stateCount := none }) h h ⟨rfl, rfl, rfl, rfl⟩)
  exact (((hrecord.trans (chain_connectParty ..)).trans (chain_foldl _ fun y _ t => chain_handBack t n y)).trans
    (chain_foldl _ fun x _ t => chain_stopMember n t x)).trans (chain_beginTalk ..)

theorem chain_answerPosition {s : State} {n : CallNo} (q : Fin 6) (h : (s.call n).state ≠ .idle) :
    Chain i s (s.answerPosition n q) := by
  have hrecord := chain_record (i := i) (recordMove_of_active (c := s.call n)
    (c' := { s.call n with answerer := some (.position q), alerted := [] }) h h ⟨rfl, rfl, rfl, rfl⟩)
  exact (hrecord.trans (chain_connectParty ..)).trans (chain_beginTalk ..)

/-- The channel of a riser on which a call rings nobody any more is handed back (R20, R82). -/
def State.handBackUnrung (s : State) (n : CallNo) (r : Fin 8) : State :=
  if (s.call n).ringsOn r then s
  else
    match (s.call n).channelOn r with
    | some c => s.handBack n (r, c)
    | none => s

/-- A handset off the alerted list of its call, disengaged, and its riser's channel handed back (R20, R82). -/
def State.memberGone (s : State) (n : CallNo) (r : Fin 8) (a : Fin 63) : State :=
  ((s.setCall n { s.call n with alerted := (s.call n).alerted.filter (· ≠ .handset r a) }).disengage n
    (.handset r a)).handBackUnrung n r

/-- A member leaves its call in three parts: its RING_STOP, its going, and the outcome where it was the last. -/
theorem memberLeaves_eq (s : State) (n : CallNo) (r : Fin 8) (a : Fin 63) (stop : Option StopReason) (cause : Cause) :
    s.memberLeaves n r a stop cause =
      let s1 := stop.elim s fun y => s.sendRingStop (.handset r a) y
      if ((s1.memberGone n r a).call n).alerted = [] then (s1.memberGone n r a).outcome n cause
      else s1.memberGone n r a := by
  cases stop <;> rfl

theorem chain_handBackUnrung (s : State) (n : CallNo) (r : Fin 8) : Chain i s (s.handBackUnrung n r) := by
  unfold State.handBackUnrung
  split
  · exact .refl
  · split
    · exact chain_handBack ..
    · exact .refl

theorem chain_memberGone (s : State) (n : CallNo) (r : Fin 8) (a : Fin 63) : Chain i s (s.memberGone n r a) :=
  ((chain_record (recordMove_alerted fun h => by rw [h]; rfl)).trans (chain_disengage ..)).trans
    (chain_handBackUnrung ..)

theorem chain_memberLeaves (s : State) (n : CallNo) (r : Fin 8) (a : Fin 63) (stop : Option StopReason) (cause : Cause) :
    Chain i s (s.memberLeaves n r a stop cause) := by
  have hstop : Chain i s (stop.elim s fun y => s.sendRingStop (.handset r a) y) := by
    cases stop with
    | none => exact .refl
    | some y => exact chain_put s _ _
  rw [memberLeaves_eq]
  dsimp only
  split
  · exact (hstop.trans (chain_memberGone ..)).trans (chain_outcome ..)
  · exact hstop.trans (chain_memberGone ..)

theorem chain_positionReturns (s : State) (n : CallNo) (q : Fin 6) (reason : StopReason) :
    Chain i s (s.positionReturns n q reason) :=
  (((chain_put s _ _).trans (chain_record (recordMove_stopRing _))).trans (chain_disengage ..)).trans (chain_hunt ..)

theorem chain_joinedLeaves (s : State) (n : CallNo) (q : Fin 6) : Chain i s (s.joinedLeaves n q) :=
  (((chain_record (recordMove_unjoin _)).trans (chain_put ..)).trans (chain_disengage ..)).trans (chain_unjoinVoice ..)

theorem chain_handOver {s : State} {n : CallNo} (r : Fin 8) (a : Fin 63) (q : Fin 6) (hb : ¬ (s.call n).Blank) :
    Chain i s (s.handOver n r a q) := by
  have hrecord := chain_record (i := i) (recordMove_of_kept (c := s.call n)
    (c' := { s.call n with answerer := some (.position q), joined := none }) (fun h => absurd h hb)
    ⟨rfl, rfl, rfl, rfl, rfl⟩)
  have hleft := (hrecord.trans (chain_put _ (Party.handset r a).link (clearMsg (Party.handset r a).addr .normal))).trans
    (chain_disengage _ n (.handset r a))
  unfold State.handOver
  dsimp only
  split
  · exact (hleft.trans (chain_handBack ..)).trans (chain_unjoinVoice ..)
  · exact hleft.trans (chain_unjoinVoice ..)

theorem chain_hangupHandset (s : State) (r : Fin 8) (a : Fin 63) : Chain i s (s.hangupHandset r a) := by
  unfold State.hangupHandset
  split
  next => exact chain_memberLeaves ..
  next h =>
    split
    · exact chain_handOver _ _ _ (not_blank_of_role (roleOf_eq_some h).2)
    · exact chain_clear ..
  next => exact chain_clear ..
  next => exact .refl
  next => exact .refl

theorem chain_hangupPosition (s : State) (q : Fin 6) : Chain i s (s.hangupPosition q) := by
  unfold State.hangupPosition
  split
  · exact chain_positionReturns ..
  · exact chain_clear ..
  · exact chain_joinedLeaves ..
  · exact chain_clear ..
  · exact .refl

theorem chain_becomeAbsent (s : State) (r : Fin 8) (a : Fin 63) : Chain i s (s.becomeAbsent r a) := by
  have habsent : Chain i s ((s.setHandset r a { s.handset r a with present := false }).raise .party) :=
    (Writes.handset r a false (s.handset r a).misses (s.handset r a).quiet (.inr rfl)).chain.trans (chain_raise ..)
  unfold State.becomeAbsent
  dsimp only
  split
  · exact (habsent.trans (chain_memberLeaves ..)).trans (chain_wakeAll ..)
  · exact (habsent.trans (chain_hangupHandset ..)).trans (chain_wakeAll ..)

/-! ### Messages of stations, handsets and positions -/

theorem chain_goToDesk {s : State} {n : CallNo} (h : (s.call n).state ≠ .idle) : Chain i s (s.goToDesk n) :=
  ((chain_record (by exact recordMove_of_active h h ⟨rfl, rfl, rfl, rfl⟩)).trans (chain_takeCopy _ (by simpa using h))).trans
    (chain_hunt ..)

theorem course_keysDigit (hi : i.movesDoor = false) (d : Fin 10) (p : Fin 4) (st : Fin 2) (s : State) :
    Course i s (s.keysDigit d p st) := by
  unfold State.keysDigit
  split
  next n hn =>
    split
    next hd =>
      have h : (s.call n).state ≠ .idle := by simp [hd]
      exact Chain.trans_course (chain_record (by exact recordMove_of_active h h ⟨rfl, rfl, rfl, rfl⟩))
        (course_afterDigit hi (by simp [hd]))
    next => exact .refl s
  next =>
    split
    next hc =>
      exact (chain_create (by decide) hc).trans_course
        (course_afterDigit hi (by rw [create_call hc]; exact CallState.noConfusion))
    next => exact (chain_refuseStation ..).course

theorem course_keysCall (hi : i.movesDoor = false) (p : Fin 4) (st : Fin 2) (s : State) :
    Course i s (s.keysCall p st) := by
  unfold State.keysCall
  split
  · split
    next hd => exact course_resolveExact hi (by simp [hd])
    next => exact .refl s
  · exact .refl s

theorem chain_keysCancel (p : Fin 4) (st : Fin 2) (s : State) : Chain i s (s.keysCancel p st) := by
  unfold State.keysCancel
  split
  · exact chain_clear ..
  · exact .refl

theorem chain_keysDesk (p : Fin 4) (st : Fin 2) (s : State) : Chain i s (s.keysDesk p st) := by
  unfold State.keysDesk
  split
  · split
    next hd => exact chain_goToDesk (by simp [hd])
    next => exact .refl
  · split
    next hc =>
      exact (chain_create (by decide) hc).trans
        (chain_goToDesk (by rw [create_call hc]; exact CallState.noConfusion))
    next => exact chain_refuseStation ..

theorem heldOpenLoad_kept (p : Params) :
    ({ state := .opened, releaseTimer := none, heldOpenTimer := heldOpenLoad p } : Door).Kept := rfl

theorem chain_doorOpens (hi : i.movesDoor = true) (s : State) (p : Fin 4) : Chain i s (s.doorOpens p) := by
  unfold State.doorOpens
  split
  · exact (Writes.door p _ hi fun _ => heldOpenLoad_kept _).chain
  · exact (Writes.door p _ hi fun _ => heldOpenLoad_kept _).chain.trans (chain_raise ..)
  · exact .refl

theorem chain_doorShuts (hi : i.movesDoor = true) (s : State) (p : Fin 4) : Chain i s (s.doorShuts p) := by
  unfold State.doorShuts
  split
  · exact (Writes.door p _ hi fun _ => lockedShut_kept).chain
  · exact (Writes.door p _ hi fun _ => lockedShut_kept).chain
  · exact .refl

theorem chain_setQuiet (s : State) (r : Fin 8) (a : Fin 63) (quiet : Bool) : Chain i s (s.setQuiet r a quiet) :=
  (Writes.handset r a (s.handset r a).present (s.handset r a).misses quiet (.inr rfl)).chain

theorem chain_reconcile (s : State) (r : Fin 8) (a : Fin 63) (report : HandsetReport) :
    Chain i s (s.reconcile r a report) := by
  unfold State.reconcile
  split
  · exact .refl
  · exact chain_put s _ _
  · exact chain_hangupHandset ..
  · exact chain_hangupHandset ..
  · exact .refl
  · exact chain_put s _ _
  · exact .refl
  · exact chain_connectParty ..
  · split
    · exact chain_connectParty ..
    · exact .refl
  · exact .refl
  · exact chain_put s _ _
  · exact .refl

theorem chain_answers (x : Party) (s : State) : Chain i s (s.answers x) := by
  unfold State.answers
  split
  · split
    next h =>
      split
      · exact chain_answerHandset _ _ (by simp [h])
      · exact chain_answerPosition _ (by simp [h])
      · exact .refl
    next => exact chain_put s _ _
  · exact chain_put s _ _

theorem chain_hangsUp (x : Party) (s : State) : Chain i s (s.hangsUp x) := by
  cases x with
  | station p st => exact .refl
  | handset r a => exact chain_hangupHandset ..
  | position q => exact chain_hangupPosition ..

theorem chain_tellRelease (s : State) (p : Fin 4) (st : Fin 2) (x : Party) (y : ReleaseAnswer) :
    Chain i s (s.tellRelease p st x y) := by
  cases y with
  | started => exact (chain_put s _ _).trans (chain_put ..)
  | already => exact chain_put s _ _
  | refused => exact chain_put s _ _

theorem course_opensDoor (hi : i.movesDoor = false) (x : Party) (s : State) : Course i s (s.opensDoor x) := by
  unfold State.opensDoor
  split
  · exact (course_requestRelease hi ..).trans_chain (chain_tellRelease ..)
  · exact (chain_put s _ _).course

theorem chain_placeResident {s : State} {n : CallNo} (r : Fin 8) (h : (s.call n).state ≠ .idle) :
    Chain i s (s.placeResident n r) := by
  have hcopy : ((s.takeCopy n (deskCopy true [])).call n).state ≠ .idle := by simpa [State.takeCopy] using h
  have hreserve := (chain_takeCopy (i := i) (deskCopy true []) h).trans
    (works_reserve (T := fun _ => True) (K := fun _ => True) (s.takeCopy n (deskCopy true [])) r trivial trivial
      hcopy).chain
  unfold State.placeResident
  dsimp only
  split
  · split
    · exact hreserve.trans (chain_outcome ..)
    next hon => exact hreserve.trans (works_acceptResident trivial hon).chain
  · exact hreserve.trans (works_enterSeeking r trivial (by rw [reserve_call]; exact hcopy)).chain

theorem chain_callsDesk (r : Fin 8) (a : Fin 63) (s : State) : Chain i s (s.callsDesk r a) := by
  unfold State.callsDesk
  split
  · exact chain_put s _ _
  · split
    next hc =>
      exact (chain_create (by decide) hc).trans
        (chain_placeResident _ (by rw [create_call hc]; exact CallState.noConfusion))
    next => exact chain_refuseCaller ..

theorem extendCall_state {s : State} {x : Party} {n : CallNo} (h : s.extendCall x = some n) :
    (s.call n).state = .talking := by
  unfold State.extendCall at h
  split at h
  · split at h
    next hstate => exact Option.some.inj h ▸ hstate.1
    next => cases h
  · cases h

theorem chain_extends (x : Party) (s : State) : Chain i s (s.extends x) := by
  unfold State.extends
  split
  next n hn =>
    have h : (s.call n).state ≠ .idle := by simp [extendCall_state hn]
    exact Relation.ReflTransGen.trans (chain_record (by exact recordMove_of_active h h ⟨rfl, rfl, rfl, rfl⟩)) (chain_put ..)
  next => exact chain_put s _ _

theorem chain_joinIdleOrder {s : State} {q : Fin 6} (hon : (s.position q).loggedOn = true) :
    Chain i s (s.joinIdleOrder q) := (works_joinIdle hon).chain

theorem setLoggedOn_self (s : State) (q : Fin 6) (on : Bool) : ((s.setLoggedOn q on).position q).loggedOn = on := by
  rw [State.setLoggedOn, setPosition_position_self]

theorem joinIdleOrder_ne_nil (s : State) (q : Fin 6) : (s.joinIdleOrder q).idleOrder ≠ [] := by
  unfold State.joinIdleOrder
  split
  next h => exact List.ne_nil_of_mem h
  next => exact List.append_ne_nil_of_right_ne_nil _ (List.cons_ne_nil _ _)

theorem chain_logsOn (q : Fin 6) (s : State) : Chain i s (s.logsOn q) := by
  unfold State.logsOn
  split
  · exact chain_put s _ _
  · exact ((((Writes.logon q true).chain.trans (chain_joinIdleOrder (setLoggedOn_self s q true))).trans (chain_raise ..)).trans
      (chain_put ..)).trans (chain_wakeDesk (by
      show (State.put _ _ _).idleOrder ≠ []
      rw [put_frame]
      exact joinIdleOrder_ne_nil (s.setLoggedOn q true) q))

theorem chain_leaveDesk (s : State) (q : Fin 6) : Chain i s (s.leaveDesk q) := by
  have hoff : Chain i s (s.setLoggedOn q false) := (Writes.logon q false).chain
  have horder := hoff.trans
    (Works.chain (CallMove.idleOrder ((s.setLoggedOn q false).idleOrder.filter (· ≠ q)) (fun h => h.filter _)
      fun _ h => .inl (List.mem_filter.mp h).1).works)
  have hsent := (horder.trans (chain_raise _ .party)).trans
    (chain_put _ (Party.position q).link (replyMsg (Party.position q).addr .accepted))
  unfold State.leaveDesk
  dsimp only
  split
  · exact hsent.trans (chain_handOverQueue _)
  · exact hsent

theorem chain_logsOff (q : Fin 6) (s : State) : Chain i s (s.logsOff q) := by
  unfold State.logsOff
  split
  · exact chain_put s _ _
  · split
    · exact chain_leaveDesk ..
    · exact chain_put s _ _

theorem chain_acceptDial (s : State) (n : CallNo) (q : Fin 6) : Chain i s (s.acceptDial n q) := by
  unfold State.acceptDial
  cases (s.call n).state with
  | seeking | camped | alerting => exact chain_put s _ _
  | _ => exact .refl

theorem course_dials (hi : i.movesDoor = false) (code : CodeField) (q : Fin 6) (s : State) :
    Course i s (s.dials code q) := by
  unfold State.dials
  split
  · split
    · split
      next hc =>
        exact ((chain_create (by decide) hc).trans_course
          (course_resolveExact hi (by rw [create_call hc]; exact CallState.noConfusion))).trans_chain (chain_acceptDial ..)
      next => exact (chain_refuseCaller ..).course
    · exact (chain_put s _ _).course
  · exact (chain_put s _ _).course

theorem joinCall_state {s : State} {call : Octet} {n : CallNo} (h : s.joinCall call = some n) :
    (s.call n).state = .talking := by
  unfold State.joinCall at h
  split at h
  · split at h
    next hj =>
      obtain rfl := Option.some.inj h
      simp only [CallRecord.joinable, Bool.and_eq_true, decide_eq_true_eq] at hj
      exact hj.1.1.2
    next => cases h
  · cases h

theorem chain_joins (call : Octet) (q : Fin 6) (s : State) : Chain i s (s.joins call q) := by
  unfold State.joins
  split
  · split
    next n hn =>
      have h : ((s.engage (.position q) n).call n).state ≠ .idle := by rw [engage_call, joinCall_state hn]; simp
      exact (((chain_engage s (.position q) n).trans
        (chain_record (by exact recordMove_of_active h h ⟨rfl, rfl, rfl, rfl⟩))).trans
        (chain_put ..)).trans (chain_joinVoice ..)
    next => exact chain_put s _ _
  · exact chain_put s _ _

/-! ### Expiries and turns -/

theorem chain_stopState (s : State) (n : CallNo) : Chain i s (s.stopState n) := chain_record (recordMove_stopState _)
theorem chain_stopWait (s : State) (n : CallNo) : Chain i s (s.stopWait n) := chain_record (recordMove_stopWait _)

theorem course_digitExpires (hi : i.movesDoor = false) (n : CallNo) (s : State) : Course i s (s.digitExpires n) := by
  unfold State.digitExpires
  split
  next h =>
    exact (chain_stopState s n).trans_course (course_resolveExact hi (by simp [State.stopState, h.1]))
  next => exact .refl s

theorem chain_seekExpires (n : CallNo) (s : State) : Chain i s (s.seekExpires n) := by
  unfold State.seekExpires
  split
  · exact (chain_stopWait ..).trans (chain_outcome ..)
  · exact .refl

theorem chain_campExpires (n : CallNo) (s : State) : Chain i s (s.campExpires n) := by
  unfold State.campExpires
  split
  · exact (chain_stopState ..).trans (chain_outcome ..)
  · exact .refl

theorem chain_stopRinging (s : State) (n : CallNo) : Chain i s (s.stopRinging n) := by
  have hstops := chain_foldl (i := i) (f := fun t x => State.sendRingStop t x .timeout) (as := (s.call n).alerted) s
    fun x _ t => chain_put t _ _
  have hback := hstops.trans (chain_foldl (as := (s.call n).reservations) _ fun x _ t => chain_handBack t n x)
  have hgone := hback.trans (chain_foldl (as := (s.call n).alerted) _ fun x _ t => chain_disengage t n x)
  exact (hgone.trans (chain_record (recordMove_alerted fun _ => rfl))).trans (chain_outcome ..)

theorem chain_alertExpires (n : CallNo) (s : State) : Chain i s (s.alertExpires n) := by
  unfold State.alertExpires
  split
  · exact (chain_stopState ..).trans (chain_stopRinging ..)
  · exact .refl

theorem chain_deskRingExpires (n : CallNo) (s : State) : Chain i s (s.deskRingExpires n) := by
  unfold State.deskRingExpires
  split
  · split
    · exact chain_positionReturns ..
    · exact .refl
  · exact .refl

theorem chain_endHunt (s : State) (n : CallNo) : Chain i s (s.endHunt n) := by
  unfold State.endHunt
  split
  · exact (((chain_put s _ _).trans (chain_record (recordMove_stopRing _))).trans (chain_disengage ..)).trans
      (chain_outcome ..)
  · exact chain_outcome ..

theorem chain_deskWaitExpires (n : CallNo) (s : State) : Chain i s (s.deskWaitExpires n) := by
  unfold State.deskWaitExpires
  split
  · exact (chain_stopWait ..).trans (chain_endHunt ..)
  · exact .refl

theorem chain_warn (s : State) (c : CallRecord) : Chain i s (s.warn c) := by
  have hstation : Chain i s (match c.origin with
    | some (.station p st) => s.sendProgress p st .warn
    | _ => s) := by
    split
    · exact chain_put s _ _
    · exact .refl
  exact hstation.trans (chain_foldl _ fun x _ t => chain_put t _ _)

theorem chain_talkWarns (n : CallNo) (s : State) : Chain i s (s.talkWarns n) := by
  unfold State.talkWarns
  split
  next hstate _ _ =>
    split
    · have h : (s.call n).state ≠ .idle := by simp [hstate]
      exact Relation.ReflTransGen.trans (chain_record (by exact recordMove_of_active h h ⟨rfl, rfl, rfl, rfl⟩)) (chain_warn ..)
    · exact .refl
  next => exact .refl

theorem chain_talkEnds (n : CallNo) (s : State) : Chain i s (s.talkEnds n) := by
  unfold State.talkEnds
  split
  · split
    · exact chain_clear ..
    · exact .refl
  · exact .refl

theorem chain_releaseExpires (hi : i.movesDoor = true) (p : Fin 4) (s : State) : Chain i s (s.releaseExpires p) := by
  unfold State.releaseExpires
  split
  · exact (Writes.door p _ hi fun _ => lockedShut_kept).chain
  · exact .refl

theorem chain_heldOpenExpires (hi : i.movesDoor = true) (p : Fin 4) (s : State) : Chain i s (s.heldOpenExpires p) := by
  unfold State.heldOpenExpires
  split
  next h =>
    refine Relation.ReflTransGen.trans (Writes.door p _ hi fun hkept => ?_).chain (chain_raise ..)
    unfold Door.Kept at hkept ⊢
    rw [h.1] at hkept
    rw [show ({ s.door p with heldOpenTimer := none } : Door).state = .opened from h.1]
    exact hkept
  next => exact .refl

theorem chain_holdOffExpires (l : LinkId) (s : State) : Chain i s (s.holdOffExpires l) := by
  unfold State.holdOffExpires
  split
  next h =>
    have hunit : UnitMove (s.link l) (s.link l).discardHead := by
      refine ⟨fun hb => ?_, fun hq hd => ?_, id⟩
      · exact ⟨hb.rx, tail_length_le _ hb.tx, hb.badFrames, hb.checkErrors, hb.overruns, countUp_le _⟩
      · obtain ⟨-, -, -, -, hnone, -⟩ := hq hd
        rw [h] at hnone; cases hnone
    exact (chain_unit hunit).trans (chain_raise ..)
  next => exact .refl

theorem chain_beginTurn (r : Fin 8) (s : State) : Chain i s (s.beginTurn r) := by
  unfold State.beginTurn
  split
  next h =>
    have hup : (s.link (.riser r)).state ≠ .down := by
      simp only [State.mayBeginTurn, Bool.and_eq_true, decide_eq_true_eq] at h
      exact h.1.2
    have hroll : ∀ k, Chain i s (s.beginRoll r k) := fun k => (Writes.scheduler r _ fun _ => .inr hup).chain
    split
    · exact hroll _
    · split
      · exact (Writes.scheduler r _ fun _ => .inr hup).chain
      · exact hroll _
  next => exact .refl

theorem chain_timeoutTurn (r : Fin 8) (s : State) : Chain i s (s.timeoutTurn r) := by
  unfold State.timeoutTurn
  split
  next t ht =>
    split
    · have hmiss : Chain i s _ := (chain_setTurn_none s r).trans
        (Writes.handset r t.addr ((s.setTurn r none).handset r t.addr).present
          (min (((s.setTurn r none).handset r t.addr).misses + 1) 3) ((s.setTurn r none).handset r t.addr).quiet
          (.inl (Nat.min_le_right _ _))).chain
      unfold State.turnUnanswered
      dsimp only
      split
      · exact hmiss.trans (chain_becomeAbsent ..)
      · exact hmiss
    · exact .refl
  next => exact .refl

theorem chain_limitTurn (r : Fin 8) (s : State) : Chain i s (s.limitTurn r) := by
  unfold State.limitTurn
  split
  · split
    · exact ((chain_setTurn_none ..).trans (chain_setAssembly ..)).trans (chain_countCheckError ..)
    · exact .refl
  · exact .refl

theorem chain_secondPasses (hi : i = .secondsTick) (s : State) : Chain i s s.secondPasses := by
  unfold State.secondPasses
  split
  · exact (Writes.seconds _ _ (.inl hi) (Nat.mod_lt _ (by decide))).chain
  · exact .refl

theorem chain_grantWaiting (r : Fin 8) (c : Fin 4) (s : State) : Chain i s (s.grantWaiting r c) := by
  unfold State.grantWaiting
  split
  next h => exact (works_free (fun _ h => h) s r c (by simpa using h.1)).chain
  next => exact .refl

theorem chain_wakeWaiting (r : Fin 8) (a : Fin 63) (s : State) : Chain i s (s.wakeWaiting r a) := by
  unfold State.wakeWaiting
  split
  · exact (works_wakeHead (fun _ h => h) s r a).chain
  · exact .refl

theorem chain_wakeQueued (s : State) : Chain i s s.wakeQueued := by
  unfold State.wakeQueued
  split
  · exact .refl
  next h => exact chain_wakeDesk fun e => h (by rw [e]; rfl)

theorem chain_clearLost (l : LinkId) (s : State) : Chain i s (s.clearLost l) :=
  chain_foldl s fun n _ t => by
    split
    · exact chain_clear ..
    · exact .refl

end

end Sys2Proof.Machine
end

section
/-!
PROOF. The management requests, and the course of every command: `exec_course`.
-/

namespace Sys2Proof.Machine

/-! ### The management requests -/

/-- A range of Table 10-2 holds what is clamped to it. -/
theorem clampTo_mem {lo hi : Nat} (h : lo ≤ hi) (v : Nat) : lo ≤ clampTo lo hi v ∧ clampTo lo hi v ≤ hi := by
  unfold clampTo
  split
  · exact ⟨le_rfl, h⟩
  · split <;> omega

theorem dialBefore_trans {a b c : Code} (h : dialBefore a b = true) (h' : dialBefore b c = true) :
    dialBefore a c = true := by
  induction a generalizing b c with
  | nil => cases b <;> cases c <;> simp_all [dialBefore]
  | cons x xs ih =>
    cases b with
    | nil => simp [dialBefore] at h
    | cons y ys =>
      cases c with
      | nil => simp [dialBefore] at h'
      | cons z zs =>
        simp only [dialBefore] at h h' ⊢
        split at h
        next hxy =>
          split at h'
          · rw [if_pos (by omega)]
          · split at h'
            · cases h'
            · rw [if_pos (by omega)]
        next hxy =>
          split at h
          · cases h
          · obtain rfl : x = y := by omega
            split at h'
            · rw [if_pos ‹_›]
            · split at h'
              · cases h'
              · rw [if_neg ‹_›, if_neg ‹_›]; exact ih h h'

/-- Of two codes one comes before the other, or they are the same (R33). -/
theorem dialBefore_trichotomy (a b : Code) : dialBefore a b = true ∨ a = b ∨ dialBefore b a = true := by
  induction a generalizing b with
  | nil => cases b <;> simp [dialBefore]
  | cons x xs ih =>
    cases b with
    | nil => simp [dialBefore]
    | cons y ys =>
      simp only [dialBefore]
      rcases lt_trichotomy x y with h | rfl | h
      · simp [h]
      · simpa using ih ys
      · exact .inr (.inr (by simp [h]))

/-- A replaced entry keeps its code, so the order of the directory (R37). -/
theorem directoryKept_replace {d : List Entry} {e : Entry} (he : e.wellKept) (h : DirectoryKept d) :
    DirectoryKept (replaceEntry e d) := by
  refine ⟨by simpa [replaceEntry] using h.size, ?_, ?_⟩
  · refine List.pairwise_map.mpr (h.order.imp fun {x y} hxy => ?_)
    have hcode : ∀ x : Entry, (if x.code = e.code then e else x).code = x.code := fun x => by
      split
      · exact Eq.symm ‹_›
      · rfl
    rw [hcode, hcode]; exact hxy
  · intro x hx
    obtain ⟨y, hy, rfl⟩ := List.mem_map.mp hx
    split
    · exact he
    · exact h.entries y hy

theorem insertEntry_perm (e : Entry) (d : List Entry) : (insertEntry e d).Perm (e :: d) := by
  induction d with
  | nil => exact .refl _
  | cons x xs ih =>
    unfold insertEntry
    split
    · exact .refl _
    · exact (ih.cons x).trans (.swap e x xs)

theorem mem_insertEntry {e x : Entry} {d : List Entry} : x ∈ insertEntry e d ↔ x = e ∨ x ∈ d :=
  (insertEntry_perm e d).mem_iff.trans List.mem_cons

/-- An entry whose code is absent, inserted, takes its place in dial order (R37). -/
theorem insertEntry_ordered {e : Entry} {d : List Entry} (habsent : ∀ x ∈ d, x.code ≠ e.code)
    (h : d.Pairwise fun x y => dialBefore x.code y.code = true) :
    (insertEntry e d).Pairwise fun x y => dialBefore x.code y.code = true := by
  induction d with
  | nil => exact List.pairwise_singleton ..
  | cons x xs ih =>
    obtain ⟨hx, hxs⟩ := List.pairwise_cons.mp h
    unfold insertEntry
    split
    next hbefore =>
      refine List.pairwise_cons.mpr ⟨fun y hy => ?_, h⟩
      obtain rfl | hy := List.mem_cons.mp hy
      · exact hbefore
      · exact dialBefore_trans hbefore (hx y hy)
    next hnot =>
      refine List.pairwise_cons.mpr ⟨fun y hy => ?_, ih (fun y hy => habsent y (List.mem_cons_of_mem x hy)) hxs⟩
      obtain rfl | hy := mem_insertEntry.mp hy
      · exact ((dialBefore_trichotomy x.code y.code).resolve_right fun h =>
          h.elim (habsent x List.mem_cons_self) hnot)
      · exact hx y hy

theorem directoryKept_insert {d : List Entry} {e : Entry} (he : e.wellKept) (habsent : ∀ x ∈ d, x.code ≠ e.code)
    (hroom : d.length < 1024) (h : DirectoryKept d) : DirectoryKept (insertEntry e d) := by
  refine ⟨by rw [(insertEntry_perm e d).length_eq, List.length_cons]; omega, insertEntry_ordered habsent h.order, ?_⟩
  intro x hx
  obtain rfl | hx := mem_insertEntry.mp hx
  · exact he
  · exact h.entries x hx

theorem directoryKept_delete {d : List Entry} (c : Code) (h : DirectoryKept d) : DirectoryKept (deleteEntry c d) :=
  ⟨(List.length_filter_le ..).trans h.size, h.order.filter _, fun e he => h.entries e (List.mem_of_mem_filter he)⟩

theorem targetsOf_length {k : Nat} {os : List Octet} {ts : List (Fin 8 × Fin 63)} (h : targetsOf k os = some ts) :
    ts.length = k := by
  induction k generalizing os ts with
  | zero => simp [targetsOf] at h; simp [h.symm]
  | succ k ih =>
    match os, h with
    | [], h | [_], h => simp [targetsOf] at h
    | r :: a :: rest, h =>
      unfold targetsOf at h
      split at h
      next t ts' _ hrest => obtain rfl := Option.some.inj h; simp [ih hrest]
      next => cases h

theorem flatBodyOf_eq_some {f c d alert count : Octet} {rest : List Octet} {b : EntryBody}
    (h : flatBodyOf f c d alert count rest = some b) :
    ∃ ts fb cmp dup, b = .flat ts fb cmp dup alert.toNat ∧ 1 ≤ ts.length ∧ ts.length ≤ 4 ∧ ts.Nodup ∧
      (alert.toNat = 0 ∨ (5 ≤ alert.toNat ∧ alert.toNat ≤ 120)) := by
  unfold flatBodyOf at h
  split at h
  next hcheck =>
    split at h
    next ts _ _ _ hts _ _ _ =>
      split at h
      next hnodup =>
        have hlen := targetsOf_length hts
        exact ⟨ts, _, _, _, (Option.some.inj h).symm, by omega, by omega, hnodup, hcheck.2.2⟩
      next => cases h
    next => cases h
  next => cases h

theorem code_eq_some {f : CodeField} {c : Code} (h : f.code = some c) :
    c = f.digits ∧ 1 ≤ c.length ∧ c.length ≤ 6 ∧ ∀ d ∈ c, d ≤ 9 := by
  unfold CodeField.code at h
  split at h
  next hgood =>
    obtain rfl := (Option.some.inj h).symm
    have hlen : f.digits.length = f.length.toNat := by simp [CodeField.digits, CodeField.places]; omega
    exact ⟨rfl, by omega, by omega, (digitsOk_iff _).mp hgood.2.2⟩
  next => cases h

/-- An entry that a payload holds keeps to Table 2-1 (R36, Table 2-3). -/
theorem entryOfOctets_wellKept {args : List Octet} {e : Entry} (h : entryOfOctets args = some e) : e.wellKept := by
  unfold entryOfOctets at h
  split at h
  next c0 c1 c2 c3 kind entrances fallback camp duplex alert uses count rest =>
    dsimp only at h
    split at h
    next c b hc hb =>
      split at h
      next hent =>
        obtain rfl := Option.some.inj h
        obtain ⟨-, h1, h2, h3⟩ := code_eq_some hc
        refine ⟨h1, h2, h3, ?_, ?_⟩
        · intro hzero
          have hz := congrArg BitVec.toNat hzero
          simp at hz
          omega
        · split at hb
          · obtain ⟨ts, fb, cmp, dup, rfl, hbody⟩ := flatBodyOf_eq_some hb
            exact hbody
          · split at hb
            · obtain rfl := Option.some.inj hb; trivial
            · split at hb
              · obtain rfl := Option.some.inj hb
                have := uses.isLt
                simp only; omega
              · split at hb
                · obtain rfl := Option.some.inj hb; trivial
                · cases hb
      next => cases h
    next => cases h
  next => cases h

theorem putEntry_kept {e : Entry} {d d' : List Entry} {inserted : Bool} (he : e.wellKept)
    (h : putEntry e d = some (d', inserted)) (hd : DirectoryKept d) : DirectoryKept d' := by
  unfold putEntry at h
  split at h
  · obtain ⟨rfl, -⟩ := Prod.mk.inj (Option.some.inj h)
    exact directoryKept_replace he hd
  next habsent =>
    split at h
    next hroom =>
      obtain ⟨rfl, -⟩ := Prod.mk.inj (Option.some.inj h)
      have hnone : entryOf e.code d = none := by simpa using habsent
      exact directoryKept_insert he ((entryOf_eq_none_iff _ _).mp hnone) hroom hd
    next => cases h

section
variable {i : Instr}

theorem chain_judgeDirPut (s : State) (args : List Octet) : Chain i s ((s.judgeDirPut args).state s) := by
  unfold State.judgeDirPut
  split
  next e he =>
    split
    next hput => exact (Writes.directory _ (putEntry_kept (entryOfOctets_wellKept he) hput)).chain
    next => exact .refl
  next => exact .refl

theorem chain_judgeDirDel (s : State) (f : CodeField) : Chain i s ((s.judgeDirDel f).state s) := by
  unfold State.judgeDirDel
  split
  next c _ =>
    split
    · exact (Writes.directory _ (directoryKept_delete c)).chain
    · exact .refl
  next => exact .refl

theorem entryAnswer_state (s : State) (e : Option Entry) : (s.entryAnswer e).state s = s := by
  cases e <;> rfl

theorem chain_judgeSet (hi : ∃ l args, i = .set l args) (s : State) (number index hi' lo : Octet) :
    Chain i s ((s.judgeSet number index hi' lo).state s) := by
  unfold State.judgeSet
  split
  · exact (Writes.params _ _ hi).chain
  · exact .refl

theorem judgeGet_state (s : State) (number index : Octet) : (s.judgeGet number index).state s = s := by
  unfold State.judgeGet; split <;> rfl

theorem judgeDirGet_state (s : State) (f : CodeField) : (s.judgeDirGet f).state s = s := by
  unfold State.judgeDirGet; split
  · exact entryAnswer_state ..
  · rfl

theorem judgeDirNext_state (s : State) (f : CodeField) : (s.judgeDirNext f).state s = s := by
  unfold State.judgeDirNext; split
  · exact entryAnswer_state ..
  · rfl

theorem judgePartyGet_state (s : State) (code a : Octet) : (s.judgePartyGet code a).state s = s := by
  unfold State.judgePartyGet; split <;> rfl

theorem judgeLinkGet_state (s : State) (code : Octet) : (s.judgeLinkGet code).state s = s := by
  unfold State.judgeLinkGet; split <;> rfl

theorem chain_judgePartySet (s : State) (code a quiet : Octet) : Chain i s ((s.judgePartySet code a quiet).state s) := by
  unfold State.judgePartySet
  split
  · exact chain_setQuiet ..
  · exact .refl

theorem chain_judgeCallGet (s : State) (number part : Octet) : Chain i s ((s.judgeCallGet number part).state s) := by
  unfold State.judgeCallGet
  split
  · dsimp only
    split
    · exact .refl
    · split
      · exact .refl
      · exact (Writes.freeIndex _).chain
    · exact .refl
    · exact .refl
    · exact .refl
  · exact .refl

theorem chain_judgeCallClear (s : State) (number : Octet) : Chain i s ((s.judgeCallClear number).state s) := by
  unfold State.judgeCallClear
  split
  · split
    · exact .refl
    · exact chain_clear ..
  · exact .refl

theorem unitMove_zeroCounters (u : LinkUnit) : UnitMove u u.zeroCounters :=
  unitMove_of_queues id ⟨rfl, rfl, rfl, rfl, rfl, rfl⟩
    ⟨.inr (Nat.zero_le _), .inr (Nat.zero_le _), .inr (Nat.zero_le _), .inr (Nat.zero_le _)⟩

theorem chain_linkReset (hi : i.movesDoor = true) (s : State) (l : LinkId) : Chain i s (s.linkReset l) := by
  have hzero : Chain i s (s.setLink l (s.link l).zeroCounters) := chain_unit (unitMove_zeroCounters _)
  unfold State.linkReset
  dsimp only
  split
  · exact hzero.trans (chain_unit (unitMove_of_kept rfl ⟨rfl, rfl, rfl, rfl, rfl, rfl⟩ ⟨rfl, rfl, rfl, rfl⟩))
  · exact hzero.trans (chain_goDown hi ..)

theorem chain_judgeLinkReset (hi : i.movesDoor = true) (s : State) (code : Octet) :
    Chain i s ((s.judgeLinkReset code).state s) := by
  unfold State.judgeLinkReset
  split
  · exact chain_linkReset hi ..
  · exact .refl

theorem chain_judgeClearCounts (hi : ∃ l args, i = .clearCounts l args) (s : State) (code : Octet) :
    Chain i s ((s.judgeClearCounts code).state s) := by
  unfold State.judgeClearCounts
  split
  · exact (Writes.units _ unitMove_zeroCounters).chain.trans (Writes.refusals 0 (.inr hi) (Nat.zero_le _)).chain
  · split
    · exact chain_unit (unitMove_zeroCounters _)
    · exact .refl

theorem chain_judgeJournalRead (s : State) : Chain i s (s.judgeJournalRead.state s) := by
  unfold State.judgeJournalRead
  split
  next h => exact (Writes.journalRead _ _ h).chain
  next => exact .refl

theorem chain_judgeAckAttention (s : State) (set : Octet) : Chain i s ((s.judgeAckAttention set).state s) := by
  unfold State.judgeAckAttention
  split
  · exact .refl
  · exact (Writes.attention _).chain

theorem ofBe16_lt (a b : Octet) : ofBe16 a b < 65536 := by
  have := a.isLt
  have := b.isLt
  unfold ofBe16
  omega

theorem chain_judgeSetTime (hi : ∃ l args, i = .setTime l args) (s : State) (a b c d : Octet) :
    Chain i s ((s.judgeSetTime a b c d).state s) := by
  have := ofBe16_lt a b
  have := ofBe16_lt c d
  exact (Writes.seconds _ _ (.inr hi) (by omega)).chain

theorem chain_judgeStop (hi : ∃ l args, i = .stop l args) (s : State) : Chain i s (s.judgeStop.state s) := by
  unfold State.judgeStop
  split
  next h => exact (Writes.stop hi h).chain
  next => exact .refl
  next => exact .refl

theorem chain_restartMessages (s : State) : Chain i s s.restartMessages := by
  have hrisers : Chain i s (allRisers.foldl (fun t r => t.put (.riser r) (clearMsg Config.managementAddress .restart)) s) :=
    chain_foldl s fun r _ t => chain_put ..
  refine Relation.ReflTransGen.trans (Relation.ReflTransGen.trans hrisers (chain_put ..)) (chain_foldl _ fun p _ t => ?_)
  refine chain_foldl t fun st _ u => ?_
  split
  · exact chain_put ..
  · exact .refl

theorem chain_refuseManagement {l : LinkId} {type : Octet} (hi : ∃ l type args, i = .managementRefused l type args)
    (s : State) : Chain i s (s.refuseManagement l type) :=
  ((chain_put ..).trans (Writes.refusals _ (.inl hi) (countUp_le _)).chain).trans (chain_raise ..)

end

/-! ### Every command -/

/-- Every command answers a next state, by its course: its writes, with at most one release among them. -/
theorem exec_course {i : Instr} {s t : State} (h : exec i s = .next t) : Course i s t := by
  cases i with
  | powerOn => cases h; exact (Writes.powerOn rfl).chain.course
  | upstreamFrame l bits =>
    cases h
    refine Chain.course (((chain_unit ?_).trans (chain_upstream rfl ..)).trans (chain_settleUpstream ..))
    exact unitMove_of_kept rfl ⟨rfl, rfl, rfl, rfl, rfl, rfl⟩ ⟨rfl, rfl, rfl, rfl⟩
  | downstreamFrame l => cases h; exact (chain_downstream s l).course
  | voiceFramePeriod => cases h; exact (chain_voicePeriod s).course
  | hangCounterExpiry n => cases h; exact (chain_hangRunsOut s n).course
  | turnBegin r => cases h; exact (chain_beginTurn r s).course
  | turnTimeout r => cases h; exact course_event s (chain_timeoutTurn r s).course
  | turnLimit r => cases h; exact course_event s (chain_limitTurn r s).course
  | keyDigit p a d =>
    cases h
    exact course_deliverParty s _ _ fun t => course_fromStation t p a (course_keysDigit rfl d p)
  | keyCall p a =>
    cases h
    exact course_deliverParty s _ _ fun t => course_fromStation t p a (course_keysCall rfl p)
  | keyCancel p a =>
    cases h
    exact course_deliverParty s _ _ fun t => course_fromStation t p a fun st u => (chain_keysCancel p st u).course
  | keyDesk p a =>
    cases h
    exact course_deliverParty s _ _ fun t => course_fromStation t p a fun st u => (chain_keysDesk p st u).course
  | doorOpen p a =>
    cases h
    exact course_deliverParty s _ _ fun t => course_fromStation t p a fun _ u => (chain_doorOpens rfl u p).course
  | doorShut p a =>
    cases h
    exact course_deliverParty s _ _ fun t => course_fromStation t p a fun _ u => (chain_doorShuts rfl u p).course
  | hello r a report q =>
    cases h
    exact course_deliverParty s _ _ fun t => course_fromHandset t r a fun u =>
      Chain.course ((chain_setQuiet ..).trans (chain_reconcile ..))
  | answer x =>
    cases h
    exact course_deliverParty s _ _ fun t => course_fromTalker t x fun y u => (chain_answers y u).course
  | hangup x =>
    cases h
    exact course_deliverParty s _ _ fun t => course_fromTalker t x fun y u => (chain_hangsUp y u).course
  | openDoor x =>
    cases h
    exact course_deliverParty s _ _ fun t => course_fromTalker t x fun y u => course_opensDoor rfl y u
  | callDesk r a =>
    cases h
    exact course_deliverParty s _ _ fun t => course_fromHandset t r a fun u => (chain_callsDesk r a u).course
  | quiet r a on =>
    cases h
    exact course_deliverParty s _ _ fun t => course_fromHandset t r a fun u =>
      Chain.course ((chain_setQuiet ..).trans (chain_put ..))
  | extend x =>
    cases h
    exact course_deliverParty s _ _ fun t => course_fromTalker t x fun y u => (chain_extends y u).course
  | logon a =>
    cases h
    exact course_deliverParty s _ _ fun t => course_fromPosition t a fun q u => (chain_logsOn q u).course
  | logoff a =>
    cases h
    exact course_deliverParty s _ _ fun t => course_fromPosition t a fun q u => (chain_logsOff q u).course
  | dial a code =>
    cases h
    exact course_deliverParty s _ _ fun t => course_fromPosition t a (course_dials rfl code)
  | join a call =>
    cases h
    exact course_deliverParty s _ _ fun t => course_fromPosition t a fun q u => (chain_joins call q u).course
  | catalogueDiscard l m =>
    cases h
    split
    · exact .refl s
    · exact course_deliverParty s _ _ fun t => (chain_countCheckError t l).course
  | lostMarker l =>
    cases h
    split
    · exact Chain.course (((chain_clearLost l s).trans (chain_settle ..)).trans (chain_removeHead ..))
    · exact .refl s
  | managementRefused l type args =>
    cases h
    split
    · exact .refl s
    · exact course_deliver s _ _ fun t => (chain_refuseManagement ⟨l, type, args, rfl⟩ t).course
  | unknownRequest l type args =>
    cases h
    split
    · exact .refl s
    · exact course_deliverRequest s _ _ _ fun t => .refl
  | start l args => cases h; exact course_takeRequest s _ _ _ fun t => (Writes.start ⟨l, args, rfl⟩).chain
  | stop l args => cases h; exact course_takeRequest s _ _ _ fun t => chain_judgeStop ⟨l, args, rfl⟩ t
  | restart l args =>
    cases h
    refine course_takeRequest s _ _ _ fun t => ?_
    have hblocks : Chain (.restart l args) t t.restartBlocks := (Writes.restart ⟨l, args, rfl⟩).chain
    have hsent : Chain (.restart l args) t.restartBlocks t.restartBlocks.restartMessages := chain_restartMessages _
    rw [Answer.state]
    exact hblocks.trans hsent
  | status l args => cases h; exact course_takeRequest s _ _ _ fun t => .refl
  | set l args =>
    cases h
    refine course_takeRequest s _ _ _ fun t => ?_
    split
    · exact chain_judgeSet ⟨l, _, rfl⟩ ..
    · exact .refl
  | get l args =>
    cases h
    refine course_takeRequest s _ _ _ fun t => ?_
    split
    · rw [judgeGet_state]
    · exact .refl
  | dirPut l args => cases h; exact course_takeRequest s _ _ _ fun t => chain_judgeDirPut t args
  | dirDel l args =>
    cases h
    refine course_takeRequest s _ _ _ fun t => ?_
    split
    · exact chain_judgeDirDel ..
    · exact .refl
  | dirGet l args =>
    cases h
    refine course_takeRequest s _ _ _ fun t => ?_
    split
    · rw [judgeDirGet_state]
    · exact .refl
  | dirNext l args =>
    cases h
    refine course_takeRequest s _ _ _ fun t => ?_
    split
    · rw [judgeDirNext_state]
    · exact .refl
  | partyGet l args =>
    cases h
    refine course_takeRequest s _ _ _ fun t => ?_
    split
    · rw [judgePartyGet_state]
    · exact .refl
  | partySet l args =>
    cases h
    refine course_takeRequest s _ _ _ fun t => ?_
    split
    · exact chain_judgePartySet ..
    · exact .refl
  | callGet l args =>
    cases h
    refine course_takeRequest s _ _ _ fun t => ?_
    split
    · exact chain_judgeCallGet ..
    · exact .refl
  | callClear l args =>
    cases h
    refine course_takeRequest s _ _ _ fun t => ?_
    split
    · exact chain_judgeCallClear ..
    · exact .refl
  | linkGet l args =>
    cases h
    refine course_takeRequest s _ _ _ fun t => ?_
    split
    · rw [judgeLinkGet_state]
    · exact .refl
  | linkReset l args =>
    cases h
    refine course_takeRequest s _ _ _ fun t => ?_
    split
    · exact chain_judgeLinkReset rfl ..
    · exact .refl
  | clearCounts l args =>
    cases h
    refine course_takeRequest s _ _ _ fun t => ?_
    split
    · exact chain_judgeClearCounts ⟨l, _, rfl⟩ ..
    · exact .refl
  | journalRead l args => cases h; exact course_takeRequest s _ _ _ fun t => chain_judgeJournalRead t
  | ackAttention l args =>
    cases h
    refine course_takeRequest s _ _ _ fun t => ?_
    split
    · exact chain_judgeAckAttention ..
    · exact .refl
  | setTime l args =>
    cases h
    refine course_takeRequest s _ _ _ fun t => ?_
    split
    · exact chain_judgeSetTime ⟨l, _, rfl⟩ ..
    · exact .refl
  | digitTimerExpiry n => cases h; exact course_event s (course_digitExpires rfl n s)
  | seekTimerExpiry n => cases h; exact course_event s (chain_seekExpires n s).course
  | campTimerExpiry n => cases h; exact course_event s (chain_campExpires n s).course
  | alertTimerExpiry n => cases h; exact course_event s (chain_alertExpires n s).course
  | deskRingExpiry n => cases h; exact course_event s (chain_deskRingExpires n s).course
  | deskWaitExpiry n => cases h; exact course_event s (chain_deskWaitExpires n s).course
  | talkCountWarning n => cases h; exact course_event s (chain_talkWarns n s).course
  | timeLimit n => cases h; exact course_event s (chain_talkEnds n s).course
  | releaseTimerExpiry p => cases h; exact course_event s (chain_releaseExpires rfl p s).course
  | heldOpenExpiry p => cases h; exact course_event s (chain_heldOpenExpires rfl p s).course
  | holdOffWaitExpiry l => cases h; exact course_event s (chain_holdOffExpires l s).course
  | secondsTick => cases h; exact (chain_secondPasses rfl s).course
  | channelGrant r c => cases h; exact course_event s (chain_grantWaiting r c s).course
  | campWake r a => cases h; exact course_event s (chain_wakeWaiting r a s).course
  | deskQueueWake => cases h; exact course_event s (chain_wakeQueued s).course
  | drainEnd => cases h; exact course_event s (works_endDrain s).chain.course
  | resetAsserted =>
    cases h
    have hlines : Chain .resetAsserted s { s with links := tableMap (fun u : LinkUnit => { u with line := none }) s.links } :=
      (Writes.units (fun u => { u with line := none }) fun u =>
        unitMove_of_kept rfl ⟨rfl, rfl, rfl, rfl, rfl, rfl⟩ ⟨rfl, rfl, rfl, rfl⟩).chain
    exact Chain.course (hlines.tail .resetLow)

end Sys2Proof.Machine
end

section
/-!
PROOF. The invariants that every step keeps, read off the writes of a command (O6 to O13, O15), and what only some commands
write (O16, O17).
-/

namespace Sys2Proof.Machine

/-! ### Tables rewritten place by place -/

@[simp] theorem tableMap_link (s : State) (f : LinkUnit → LinkUnit) (l : LinkId) :
    ({ s with links := tableMap f s.links } : State).link l = f (s.link l) := by simp [State.link]

@[simp] theorem tableMap_door (s : State) (f : Door → Door) (p : Fin 4) :
    ({ s with doors := tableMap f s.doors } : State).door p = f (s.door p) := by simp [State.door]

theorem elapse_link (s : State) (l : LinkId) : s.elapse.link l = (s.link l).elapse := by
  simp [State.elapse, State.link]
theorem elapse_call (s : State) (n : CallNo) : s.elapse.call n = (s.call n).elapse := by
  simp [State.elapse, State.call]
theorem elapse_door (s : State) (p : Fin 4) : s.elapse.door p = (s.door p).elapse := by
  simp [State.elapse, State.door]

/-- A frame period keeps what the passing of time and the queue of commands keep. -/
theorem framePeriod_keeps {P : State → Prop} (hpending : ∀ s c, P s → P { s with pending := c })
    (htime : ∀ s, P s → P s.elapse) {s : State} (h : P s) : P s.framePeriod := by
  unfold State.framePeriod
  split
  · exact h
  · exact hpending s.elapse _ (htime s h)

/-- Every step keeps a fact about the state that the writes of every command, every release and the passing of time keep. -/
theorem step_keeps {P : State → Prop} (hpending : ∀ s c, P s → P { s with pending := c })
    (hW : ∀ i s t, Writes i s t → P s → P t) (hR : ∀ s t, Releases s t → P s → P t) (htime : ∀ s, P s → P s.elapse)
    {s t : State} (hs : P s) (h : step s = .next t) : P t := by
  unfold step at h
  split at h
  · cases h; exact framePeriod_keeps hpending htime hs
  next c rest hq => exact (exec_course h).keeps (hW c) hR (hpending s rest hs)

/-- The work on calls writes nothing but calls, parties, places, channels, messages, the mode and the pending set. -/
theorem CallMove.frame {T K : CallNo → Prop} {s t : State} (h : CallMove T K s t) :
    t = { s with
          links := t.links, calls := t.calls, handsets := t.handsets, stations := t.stations, positions := t.positions,
          channels := t.channels, seekQueues := t.seekQueues, deskQueue := t.deskQueue, idleOrder := t.idleOrder,
          mode := t.mode, attention := t.attention } := by
  cases h with
  | put l m => rw [put_frame]
  | endDrain => rw [endDrain_frame]
  | _ => rfl

/-! ### O8: the directory -/

theorem directoryOrdered_iff {s : State} : DirectoryOrdered s ↔ DirectoryKept s.directory :=
  ⟨fun h => ⟨h.size, h.order, h.entries⟩, fun h => ⟨h.size, h.order, h.entries⟩⟩

theorem Writes.directoryKept {i : Instr} {s t : State} (h : Writes i s t) (hs : DirectoryKept s.directory) :
    DirectoryKept t.directory := by
  cases h with
  | call h => rw [h.frame]; exact hs
  | goesDown l u => cases l <;> exact hs
  | directory d h => exact h hs
  | powerOn => exact ⟨Nat.zero_le _, .nil, by simp [State.reset]⟩
  | _ => exact hs

theorem ite_raise (s : State) (c : Prop) [Decidable c] (x : AttentionClass) :
    (if c then s.raise x else s) = { s with attention := if c then (s.raise x).attention else s.attention } := by
  split <;> rfl

/-- The classes raised when a record is appended are all that the append writes beside the journal and its counters. -/
theorem appendJournal_cases (s : State) (p : Fin 4) (st : Fin 2) (kind : ReleaseKind) (granting : Option Party)
    (code : Code) :
    ∃ x, s.appendJournal p st kind granting code =
      { s with
        journal := (if 64 ≤ s.journal.length then s.journal.tail else s.journal) ++
          [{ sequence := s.journalSeq, stamp := s.seconds, panel := p, station := st, kind := kind,
             granting := granting, code := code }]
        journalSeq := (s.journalSeq + 1) % 65536
        overwrites := if 64 ≤ s.journal.length then countUp s.overwrites else s.overwrites
        attention := x } := by
  unfold State.appendJournal
  by_cases hfull : 64 ≤ s.journal.length
  · simp only [Config.journalPlaces, hfull, decide_true, if_true]
    exact ⟨_, ite_raise ..⟩
  · simp only [Config.journalPlaces, hfull, decide_false, if_false, Bool.false_eq_true]
    exact ⟨_, ite_raise ..⟩

/-- A release writes a door, the journal, its counters and a record, and raises at most one class. -/
theorem Releases.frame {s t : State} (h : Releases s t) :
    t = { s with
          doors := t.doors, journal := t.journal, journalSeq := t.journalSeq, overwrites := t.overwrites,
          calls := t.calls, attention := t.attention } := by
  obtain ⟨n, p, st, kind, granting, code, -, rfl⟩ := h
  simp only [State.released]
  obtain ⟨x, hx⟩ := appendJournal_cases (s.setDoor p _) p st kind granting code
  rw [hx]
  rfl

theorem Releases.directory {s t : State} (h : Releases s t) : t.directory = s.directory := by rw [h.frame]

/-- Settles O8: every edit keeps the directory in order, and nothing else writes it but POWER_ON. -/
theorem directoryStaysOrdered : Obligations.DirectoryStaysOrdered := by
  intro s t hs h
  exact directoryOrdered_iff.mpr (step_keeps (P := fun u => DirectoryKept u.directory) (fun _ _ h => h)
    (fun _ _ _ hw => hw.directoryKept) (fun _ _ hr hu => hr.directory ▸ hu) (fun _ h => h)
    (directoryOrdered_iff.mp hs) h)

/-! ### O9: the journal -/

theorem journalConsecutive_congr {s t : State} (hj : t.journal = s.journal) (hseq : t.journalSeq = s.journalSeq)
    (h : JournalConsecutive s) : JournalConsecutive t :=
  ⟨hj ▸ h.size, hseq ▸ h.counter, hj ▸ h.rising, by rw [hj, hseq]; exact h.newest⟩

/-- An append to the journal takes the next sequence number, and the oldest record gives way when it is full (R137). -/
theorem appendJournal_consecutive {s : State} (h : JournalConsecutive s) (p : Fin 4) (st : Fin 2) (kind : ReleaseKind)
    (granting : Option Party) (code : Code) : JournalConsecutive (s.appendJournal p st kind granting code) := by
  have hkept : ∀ js : List JournalRecord, js = s.journal ∨ js = s.journal.tail → js.length < 64 →
      ∀ t : State, t.journal = js ++
        [{ sequence := s.journalSeq, stamp := s.seconds, panel := p, station := st, kind := kind,
           granting := granting, code := code }] →
      t.journalSeq = (s.journalSeq + 1) % 65536 →
      JournalConsecutive t := by
    intro js hjs hlen t hj hseq
    have hrising : js.IsChain fun x y => y.sequence = (x.sequence + 1) % 65536 := by
      rcases hjs with rfl | rfl
      · exact h.rising
      · exact h.rising.tail
    have hlast : ∀ x, js.getLast? = some x → s.journalSeq = (x.sequence + 1) % 65536 := by
      rcases hjs with rfl | rfl
      · exact h.newest
      · intro x hx
        refine h.newest x ?_
        rw [List.getLast?_tail] at hx
        split at hx
        · cases hx
        · exact hx
    refine ⟨by simp [hj]; omega, hseq ▸ Nat.mod_lt _ (by decide), ?_, ?_⟩
    · rw [hj]
      refine List.isChain_append.mpr ⟨hrising, .singleton _, fun x hx y hy => ?_⟩
      obtain rfl := (by simpa using hy : _ = y)
      exact hlast x hx
    · intro x hx
      obtain rfl := (by simpa [hj] using hx : _ = x)
      exact hseq
  obtain ⟨x, hx⟩ := appendJournal_cases s p st kind granting code
  rw [hx]
  have hsize := h.size
  by_cases hfull : 64 ≤ s.journal.length
  · rw [if_pos hfull, if_pos hfull]
    exact hkept _ (.inr rfl) (by rw [List.length_tail]; omega) _ rfl rfl
  · rw [if_neg hfull, if_neg hfull]
    exact hkept _ (.inl rfl) (by omega) _ rfl rfl

theorem Writes.journalConsecutive {i : Instr} {s t : State} (h : Writes i s t) (hs : JournalConsecutive s) :
    JournalConsecutive t := by
  cases h with
  | call h => rw [h.frame]; exact journalConsecutive_congr (s := s) rfl rfl hs
  | goesDown l u => cases l <;> exact journalConsecutive_congr (s := s) rfl rfl hs
  | journalRead j rest hj =>
    have hrising := hs.rising
    have hsize := hs.size
    rw [hj] at hrising hsize
    refine ⟨by simp at hsize ⊢; omega, hs.counter, hrising.tail, fun x hx => hs.newest x ?_⟩
    cases rest with
    | nil => cases hx
    | cons y ys => rw [hj, List.getLast?_cons_cons]; exact hx
  | powerOn => exact ⟨Nat.zero_le _, show 0 < 65536 by decide, .nil, by simp [State.reset]⟩
  | _ => exact journalConsecutive_congr (s := s) rfl rfl hs

theorem Releases.journalConsecutive {s t : State} (h : Releases s t) (hs : JournalConsecutive s) :
    JournalConsecutive t := by
  obtain ⟨n, p, st, kind, granting, code, -, rfl⟩ := h
  have hdoor : ∀ d, JournalConsecutive (s.setDoor p d) := fun d => journalConsecutive_congr (s := s) rfl rfl hs
  exact journalConsecutive_congr (s := (s.setDoor p _).appendJournal p st kind granting code) rfl rfl
    (appendJournal_consecutive (hdoor _) p st kind granting code)

/-- Settles O9: a release appends the next record, JOURNAL_READ takes the oldest, and nothing else writes the journal but
POWER_ON. -/
theorem journalStaysConsecutive : Obligations.JournalStaysConsecutive := by
  intro s t hs h
  exact step_keeps (P := JournalConsecutive) (fun s _ hs => journalConsecutive_congr (s := s) rfl rfl hs)
    (fun _ _ _ hw => hw.journalConsecutive) (fun _ _ hr => hr.journalConsecutive)
    (fun s hs => journalConsecutive_congr (s := s) rfl rfl hs) hs h

/-! ### O10: the parameters -/

theorem paramsInRange_congr {s t : State} (h : t.params = s.params) (hs : ParamsInRange s) : ParamsInRange t :=
  ⟨h ▸ hs.ranges, h ▸ hs.trunkStays, h ▸ hs.originSpare, h ▸ hs.maskSpare⟩

theorem range_le {x : ParamId} {lo hi : Nat} (h : x.range = some (lo, hi)) : lo ≤ hi := by
  cases x <;> simp only [ParamId.range, Option.some.injEq, Prod.mk.injEq, reduceCtorEq] at h <;>
    obtain ⟨rfl, rfl⟩ := h <;> decide

theorem getLsbD_of_small {w k i : Nat} {x : BitVec w} (hi : k ≤ i) (h : x.toNat < 2 ^ k) : x.getLsbD i = false :=
  Nat.testBit_lt_two_pow (h.trans_le (Nat.pow_le_pow_right (by decide) hi))

/-- The value of a parameter once another, or itself, has been written. -/
theorem value_write (p : Params) (x y : ParamId) (v : Nat) (hy : y.range ≠ none) :
    (p.write x v).value y = p.value y ∨
      (y = x ∧ ((p.write x v).value y = v ∨ (y.range = some (0, 3) ∧ (p.write x v).value y = v % 4))) := by
  have hset : ∀ {n : Nat} (w : Vector Nat n) (i j : Fin n), (w.set i v)[j] = if i = j then v else w[j] := by
    intro n w i j
    by_cases h : i = j
    · subst h; simp
    · rw [if_neg h]; exact Vector.getElem_set_ne _ _ fun e => h (Fin.ext e)
  cases x <;> cases y <;> try exact .inl rfl
  all_goals try exact .inr ⟨rfl, .inl rfl⟩
  case panelGain.panelGain i j | riserGain.riserGain i j | stations.stations i j =>
    simp only [Params.write, Params.value, hset]
    split
    next h => subst h; exact .inr ⟨rfl, .inl rfl⟩
    next => exact .inl rfl
  case cadence.cadence i j =>
    by_cases h : i = j
    · subst h; exact .inr ⟨rfl, .inr ⟨rfl, by simp [Params.write, Params.value]⟩⟩
    · refine .inl ?_
      have : (i : Nat) ≠ j := fun e => h (Fin.ext e)
      simp [Params.write, Params.value, Vector.getElem_set_ne, this]
  case originSet.originSet | noticeMask.noticeMask => exact absurd rfl hy

/-- SET writes a parameter within its range and leaves the others (R186, R187). -/
theorem write_applied_inRange {s : State} (hs : ParamsInRange s) (x : ParamId) (v : BitVec 16) :
    ParamsInRange { s with params := s.params.write x (x.applied v) } := by
  have hsets : ∀ i, ((BitVec.ofNat 16 ((v &&& 0x1FFF#16) ||| 0x1000#16).toNat)).getLsbD i =
      ((v &&& 0x1FFF#16) ||| 0x1000#16).getLsbD i := by simp
  have horigin : ((v &&& 0x1FFF#16) ||| 0x1000#16).getLsbD 12 = true := by simp
  have hspare : ∀ i, 13 ≤ i → ((v &&& 0x1FFF#16) ||| 0x1000#16).getLsbD i = false := by
    intro i hi
    have h1 : (0x1FFF#16).getLsbD i = false := getLsbD_of_small hi (by decide)
    have h2 : (0x1000#16).getLsbD i = false := getLsbD_of_small hi (by decide)
    rw [BitVec.getLsbD_or, BitVec.getLsbD_and, h1, h2]; simp
  have hmask : ∀ i, 7 ≤ i → (v &&& 0x007F#16).getLsbD i = false := by
    intro i hi
    have h1 : (0x007F#16).getLsbD i = false := getLsbD_of_small hi (by decide)
    rw [BitVec.getLsbD_and, h1]; simp
  refine ⟨fun y lo hi hy => ?_, ?_, ?_, ?_⟩
  · obtain e | ⟨rfl, hval⟩ := value_write s.params x y (x.applied v) (by simp [hy])
    · exact e ▸ hs.ranges y lo hi hy
    · show lo ≤ (s.params.write y (y.applied v)).value y ∧ (s.params.write y (y.applied v)).value y ≤ hi
      have happlied : y.applied v = clampTo lo hi v.toNat := by simp [ParamId.applied, hy]
      have hmem := clampTo_mem (range_le hy) v.toNat
      rw [← happlied] at hmem
      obtain e | ⟨h03, e⟩ := hval
      · rw [e]; exact hmem
      · rw [hy] at h03
        obtain ⟨rfl, rfl⟩ := Prod.mk.inj (Option.some.inj h03)
        exact ⟨Nat.zero_le _, by omega⟩
  · cases x with
    | originSet => exact (hsets 12).trans horigin
    | _ => exact hs.trunkStays
  · intro i hi
    cases x with
    | originSet => exact (hsets i).trans (hspare i hi)
    | _ => exact hs.originSpare i hi
  · intro i hi
    cases x with
    | noticeMask =>
      have hsame : (BitVec.ofNat 16 (v &&& 0x007F#16).toNat) = v &&& 0x007F#16 := by simp
      exact (congrArg (BitVec.getLsbD · i) hsame).trans (hmask i hi)
    | _ => exact hs.maskSpare i hi

theorem reset_paramsInRange : ParamsInRange State.reset := by
  refine ⟨fun x lo hi h => ?_, by decide, fun i hi => ?_, fun i hi => ?_⟩
  · have hg4 : ∀ i : Fin 4, (Params.default.panelGain)[i] = 0 := by decide
    have hg8 : ∀ i : Fin 8, (Params.default.riserGain)[i] = 0 := by decide
    have hs4 : ∀ i : Fin 4, (Params.default.stations)[i] = 2 := by decide
    have hc4 : ∀ i : Fin 4, (Params.default.cadence)[i].val ≤ 3 := by decide
    cases x <;> simp only [ParamId.range, Option.some.injEq, Prod.mk.injEq, reduceCtorEq] at h <;>
      obtain ⟨rfl, rfl⟩ := h
    case panelGain i => exact ⟨Nat.zero_le _, (hg4 i).le.trans (by decide)⟩
    case riserGain i => exact ⟨Nat.zero_le _, (hg8 i).le.trans (by decide)⟩
    case stations i => exact ⟨(hs4 i).ge.trans' (by decide), (hs4 i).le⟩
    case cadence i => exact ⟨Nat.zero_le _, hc4 i⟩
    all_goals decide
  · exact getLsbD_of_small hi (by decide)
  · exact getLsbD_of_small hi (by decide)

theorem Writes.paramsInRange {i : Instr} {s t : State} (h : Writes i s t) (hs : ParamsInRange s) : ParamsInRange t := by
  cases h with
  | call h => rw [h.frame]; exact paramsInRange_congr (s := s) rfl hs
  | goesDown l u => cases l <;> exact paramsInRange_congr (s := s) rfl hs
  | params x v => exact write_applied_inRange hs x v
  | powerOn => exact paramsInRange_congr (s := State.reset) rfl reset_paramsInRange
  | _ => exact paramsInRange_congr (s := s) rfl hs

theorem Releases.params {s t : State} (h : Releases s t) : t.params = s.params := by rw [h.frame]

/-- Settles O10: SET writes a clamped value, and nothing else writes a parameter but POWER_ON. -/
theorem parametersStayInRange : Obligations.ParametersStayInRange := by
  intro s t hs h
  exact step_keeps (P := ParamsInRange) (fun s _ hs => paramsInRange_congr (s := s) rfl hs)
    (fun _ _ _ hw => hw.paramsInRange) (fun s _ hr hs => paramsInRange_congr (s := s) hr.params hs)
    (fun s hs => paramsInRange_congr (s := s) rfl hs) hs h

end Sys2Proof.Machine
end

section
/-!
PROOF. How one write changes a record, and the invariants on the records, the links, the doors and the channels that every
step keeps (O6, O7, O11, O12, O13, O15); and what only some commands write (O16, O17).
-/

namespace Sys2Proof.Machine

/-! ### What one write does to a record -/

/-- How one write changes the record of a call. -/
inductive RecordStep (mode : Mode) (hangTime : Nat) (c : CallRecord) : CallRecord → Prop where
  | kept : RecordStep mode hangTime c c
  | move (c' : CallRecord) (h : RecordMove c c') : RecordStep mode hangTime c c'
  | ended (cause : Cause) : RecordStep mode hangTime c (c.ended cause)
  | reserved (rs : List (Fin 8 × Fin 4)) (h : ¬ c.Blank) : RecordStep mode hangTime c { c with reservations := rs }
  | created (k : CallKind) (st : CallState) (x : Party) (digits : Code) (hmode : mode = .run) (hst : st ≠ .idle) :
    RecordStep mode hangTime c (CallRecord.taken k st x digits)
  | voice (c' : CallRecord) (h : VoiceMove hangTime c c') : RecordStep mode hangTime c c'
  | restarted : RecordStep mode hangTime c c.restarted
  | powerOn : RecordStep mode hangTime c CallRecord.blank
  | released : RecordStep mode hangTime c { c with releases := min (c.releases + 1) 255 }

theorem recordStep_setCall {mode : Mode} {hangTime : Nat} {s : State} {n : CallNo} {c : CallRecord}
    (h : RecordStep mode hangTime (s.call n) c) (m : CallNo) :
    RecordStep mode hangTime (s.call m) ((s.setCall n c).call m) := by
  rw [setCall_call]
  split
  next e => exact e ▸ h
  next => exact .kept

theorem CallMove.recordStep {T K : CallNo → Prop} {mode : Mode} {hangTime : Nat} {s t : State} (h : CallMove T K s t)
    (m : CallNo) : RecordStep mode hangTime (s.call m) (t.call m) := by
  cases h with
  | record n c _ h => exact recordStep_setCall (.move c h) m
  | retire n cause _ _ => exact recordStep_setCall (.ended cause) m
  | reserve n r c rs _ _ hb _ _ => exact recordStep_setCall (s := s.setChannel r c (some n)) (.reserved rs hb) m
  | setAside n r c _ _ hmem =>
    refine recordStep_setCall (s := s.setChannel r c none) (.reserved _ fun hb => ?_) m
    rw [setChannel_call] at hb
    rw [reservations_of_blank hb] at hmem
    cases hmem
  | put | endDrain | raise | leavePlaces => simpa using .kept
  | _ => exact .kept

theorem Writes.recordStep {i : Instr} {s t : State} (h : Writes i s t) (m : CallNo) :
    RecordStep s.mode s.params.hangTime (s.call m) (t.call m) := by
  cases h with
  | call h => exact h.recordStep m
  | goesDown l u => cases l <;> exact .kept
  | create n k st x digits hmode _ hst _ => exact recordStep_setCall (.created k st x digits hmode hst) m
  | voice n c h => exact recordStep_setCall (.voice c h) m
  | restart =>
    have e : s.restartBlocks.call m = (s.call m).restarted := by simp [State.restartBlocks, State.call]
    rw [e]; exact .restarted
  | powerOn =>
    have e : State.reset.call m = CallRecord.blank := by simp [State.reset, State.call]
    exact (show State.call _ m = _ from e) ▸ .powerOn
  | _ => exact .kept

theorem Releases.recordStep {mode : Mode} {hangTime : Nat} {s t : State} (h : Releases s t) (m : CallNo) :
    RecordStep mode hangTime (s.call m) (t.call m) := by
  obtain ⟨n, p, st, kind, granting, code, -, rfl⟩ := h
  unfold State.released
  obtain ⟨x, hx⟩ := appendJournal_cases (s.setDoor p _) p st kind granting code
  rw [hx]
  exact recordStep_setCall (s := s) .released m

section
variable {mode : Mode} {hangTime : Nat} {c c' : CallRecord}

theorem RecordStep.releases (h : RecordStep mode hangTime c c') (hc : c.releases ≤ 255) : c'.releases ≤ 255 := by
  cases h with
  | move c' h => exact h.releases ▸ hc
  | voice c' h => rw [h.frame]; exact hc
  | created | powerOn => exact Nat.zero_le _
  | released => exact Nat.min_le_right ..
  | _ => exact hc

/-- An IDLE record is made into a call in RUN alone (R3). -/
theorem RecordStep.idle (h : RecordStep mode hangTime c c') (hmode : mode ≠ .run) (hc : c.state = .idle) :
    c'.state = .idle := by
  cases h with
  | move c' h => exact h.idle.mpr hc
  | voice c' h => rw [h.frame]; exact hc
  | created _ _ _ _ hrun => exact absurd hrun hmode
  | ended | powerOn | restarted => rfl
  | _ => exact hc

theorem RecordStep.blank (h : RecordStep mode hangTime c c') (hc : c.state = .idle → c.Blank) :
    c'.state = .idle → c'.Blank := by
  intro hidle
  cases h with
  | kept => exact hc hidle
  | move c' h => have hb := hc (h.idle.mp hidle); rw [h.blank hb]; exact hb
  | voice c' h => have hb := hc (by rw [h.frame] at hidle; exact hidle); rw [h.blank hb]; exact hb
  | reserved rs h => exact absurd (hc hidle) h
  | created _ _ _ _ _ hst => exact absurd hidle hst
  | released => exact (show c.Blank → _ from fun hb => by rw [hb]; rfl) (hc hidle)
  | ended | powerOn | restarted => rfl

theorem RecordStep.voiceKept (h : RecordStep mode hangTime c c') (hang : hangTime ≤ 255) (hc : c.VoiceKept) :
    c'.VoiceKept := by
  cases h with
  | move c' h => intro v hv; rw [h.voice, h.lastPeriod] at hv; exact hc v hv
  | voice c' h => exact h.kept hang hc
  | created | ended | powerOn | restarted =>
    intro v hv; exact absurd hv (by simp [CallRecord.taken, CallRecord.ended, CallRecord.restarted, CallRecord.blank])
  | _ => exact hc

end

/-! ### O11: IDLE records and STANDBY -/

theorem elapse_blank {c : CallRecord} (h : c.Blank) : c.elapse.Blank := by rw [h]; rfl

theorem Writes.idleRecordsBlank {i : Instr} {s t : State} (h : Writes i s t) (hs : IdleRecordsBlank s) :
    IdleRecordsBlank t := fun n => (h.recordStep n).blank (hs n)

theorem Releases.idleRecordsBlank {s t : State} (h : Releases s t) (hs : IdleRecordsBlank s) : IdleRecordsBlank t :=
  fun n => (h.recordStep (mode := s.mode) (hangTime := 0) n).blank (hs n)

theorem elapse_idleRecordsBlank {s : State} (hs : IdleRecordsBlank s) : IdleRecordsBlank s.elapse := by
  intro n hn
  rw [elapse_call] at hn ⊢
  exact elapse_blank (hs n hn)

theorem allIdle_iff {s : State} : s.allIdle = true ↔ ∀ n, (s.call n).state = .idle := by
  simp only [State.allIdle, List.all_eq_true, decide_eq_true_eq, Vector.mem_toList_iff, State.call]
  refine ⟨fun h n => h _ (Vector.getElem_mem n.isLt), fun h c hc => ?_⟩
  obtain ⟨k, hk, rfl⟩ := Vector.mem_iff_getElem.mp hc
  exact h ⟨k, hk⟩

/-- The mode after a move of the work on calls: as it was, or STANDBY at the end of a drain. -/
theorem CallMove.mode {T K : CallNo → Prop} {s t : State} (h : CallMove T K s t) :
    t.mode = s.mode ∨ (s.mode = .draining ∧ t.mode = .standby ∧ ∀ n, (t.call n).state = .idle) := by
  cases h with
  | endDrain =>
    obtain e | ⟨hmode, hidle, e⟩ := endDrain_cases s
    · exact .inl (by rw [e])
    · exact .inr ⟨hmode, by rw [e]; rfl, fun n => by rw [endDrain_call]; exact allIdle_iff.mp hidle n⟩
  | put l m => exact .inl (by rw [put_frame])
  | _ => exact .inl rfl

/-- The mode after a write: as it was, or written by one of the five kinds of command, or STANDBY at the end of a drain. -/
theorem Writes.mode {i : Instr} {s t : State} (h : Writes i s t) :
    t.mode = s.mode ∨ (s.mode = .draining ∧ t.mode = .standby ∧ ∀ n, (t.call n).state = .idle) ∨ i = .powerOn ∨
      ((∃ l args, i = .restart l args) ∧ t.mode = .standby) ∨ ((∃ l args, i = .start l args) ∧ t.mode = .run) ∨
      ((∃ l args, i = .stop l args) ∧ s.mode = .run ∧ (t.mode = .standby ∨ t.mode = .draining)) := by
  cases h with
  | call h => exact h.mode.imp_right .inl
  | goesDown l u => cases l <;> exact .inl rfl
  | start hi => exact .inr (.inr (.inr (.inr (.inl ⟨hi, rfl⟩))))
  | stop hi hmode =>
    refine .inr (.inr (.inr (.inr (.inr ⟨hi, hmode, ?_⟩))))
    by_cases hidle : s.allIdle = true <;> simp [hidle]
  | restart hi => exact .inr (.inr (.inr (.inl ⟨hi, rfl⟩)))
  | powerOn hi => exact .inr (.inr (.inl hi))
  | _ => exact .inl rfl

theorem Releases.mode {s t : State} (h : Releases s t) : t.mode = s.mode := by rw [h.frame]

theorem Writes.standbyIdle {i : Instr} {s t : State} (h : Writes i s t) (hs : StandbyIdle s) : StandbyIdle t := by
  intro ht n
  have kept : t.mode = s.mode → (t.call n).state = .idle := fun hmode =>
    (h.recordStep n).idle (by rw [← hmode, ht]; exact Mode.noConfusion) (hs (hmode ▸ ht) n)
  cases h with
  | call h =>
    obtain hmode | ⟨-, -, hidle⟩ := h.mode
    · exact kept hmode
    · exact hidle n
  | goesDown l u => cases l <;> exact kept rfl
  | start hi => cases ht
  | stop hi hmode =>
    by_cases hidle : s.allIdle = true
    · exact allIdle_iff.mp hidle n
    · simp [hidle] at ht
  | restart hi => simp [State.restartBlocks, State.call, CallRecord.restarted, CallRecord.blank]
  | powerOn hi => simp [State.reset, State.call, CallRecord.blank]
  | _ => exact kept rfl

theorem Releases.standbyIdle {s t : State} (h : Releases s t) (hs : StandbyIdle s) : StandbyIdle t := fun ht n =>
  (h.recordStep (mode := .standby) (hangTime := 0) n).idle Mode.noConfusion (hs (h.mode ▸ ht) n)

/-- Settles O11: a record becomes a call in RUN alone, the end of a drain finds every record IDLE, and a record that ends is
blank. -/
theorem idleRecordsAndStandbyAreKept : Obligations.IdleRecordsAndStandbyAreKept := by
  intro s t h
  refine ⟨fun hs => ?_, fun hs => ?_⟩
  · exact step_keeps (P := IdleRecordsBlank) (fun _ _ h => h) (fun _ _ _ hw => hw.idleRecordsBlank)
      (fun _ _ hr => hr.idleRecordsBlank) (fun _ => elapse_idleRecordsBlank) hs h
  · exact step_keeps (P := StandbyIdle) (fun _ _ h => h) (fun _ _ _ hw => hw.standbyIdle)
      (fun _ _ hr => hr.standbyIdle) (fun s hs hmode n => by rw [elapse_call]; exact hs hmode n) hs h

/-! ### O16: the mode -/

/-- The ways a command may have changed the mode since `s` (R182 to R184, R193). -/
def State.ModeMoved (s : State) (c : Instr) (t : State) : Prop :=
  t.mode = s.mode ∨ c = .powerOn ∨ (∃ l args, c = .restart l args ∧ t.mode = .standby) ∨
    (∃ l args, c = .start l args ∧ t.mode = .run) ∨
    (∃ l args, c = .stop l args ∧ s.mode = .run ∧ (t.mode = .standby ∨ t.mode = .draining)) ∨
    (s.mode = .draining ∧ t.mode = .standby ∧ ∀ n, (t.call n).state = .idle)

/-- A write that leaves the mode, and in STANDBY leaves IDLE records IDLE, leaves the account of the mode. -/
theorem modeMoved_of_kept {s t u : State} {c : Instr} (hmode : u.mode = t.mode)
    (hidle : t.mode ≠ .run → ∀ n, (t.call n).state = .idle → (u.call n).state = .idle) (h : s.ModeMoved c t) :
    s.ModeMoved c u := by
  unfold State.ModeMoved at *
  rw [hmode]
  obtain h | h | h | h | h | ⟨hs, ht, hall⟩ := h
  · exact .inl h
  · exact .inr (.inl h)
  · exact .inr (.inr (.inl h))
  · exact .inr (.inr (.inr (.inl h)))
  · exact .inr (.inr (.inr (.inr (.inl h))))
  · exact .inr (.inr (.inr (.inr (.inr ⟨hs, ht, fun n => hidle (by simp [ht]) n (hall n)⟩))))

theorem Writes.modeMoved {c : Instr} {s t u : State} (h : Writes c t u) (ht : s.ModeMoved c t) : s.ModeMoved c u := by
  obtain hmode | ⟨hdrain, hstandby, hidle⟩ | hi | ⟨⟨l, args, hi⟩, hmode⟩ | ⟨⟨l, args, hi⟩, hmode⟩ |
    ⟨⟨l, args, hi⟩, hrun, hmode⟩ := h.mode
  · exact modeMoved_of_kept hmode (fun hrun n => (h.recordStep n).idle hrun) ht
  · obtain h | h | ⟨l, args, h, h'⟩ | ⟨l, args, h, h'⟩ | ⟨l, args, h, h', -⟩ | ⟨-, h', -⟩ := ht
    · exact .inr (.inr (.inr (.inr (.inr ⟨h ▸ hdrain, hstandby, hidle⟩))))
    · exact .inr (.inl h)
    · rw [h'] at hdrain; cases hdrain
    · rw [h'] at hdrain; cases hdrain
    · exact .inr (.inr (.inr (.inr (.inl ⟨l, args, h, h', .inl hstandby⟩))))
    · rw [h'] at hdrain; cases hdrain
  · exact .inr (.inl hi)
  · exact .inr (.inr (.inl ⟨l, args, hi, hmode⟩))
  · exact .inr (.inr (.inr (.inl ⟨l, args, hi, hmode⟩)))
  · refine .inr (.inr (.inr (.inr (.inl ⟨l, args, hi, ?_, hmode⟩))))
    subst hi
    obtain h | h | ⟨l, args, h, -⟩ | ⟨l, args, h, -⟩ | ⟨l, args, -, h, -⟩ | ⟨-, h', -⟩ := ht
    · exact h ▸ hrun
    · cases h
    · cases h
    · cases h
    · exact h
    · rw [h'] at hrun; cases hrun

/-- Settles O16: each write accounts for the mode it leaves. -/
theorem onlyTheseCommandsChangeMode : Obligations.OnlyTheseCommandsChangeMode := by
  intro c s t h hmode
  have ht : s.ModeMoved c t := (exec_course h).keeps (P := s.ModeMoved c) (fun _ _ hw => hw.modeMoved)
    (fun _ _ hr => modeMoved_of_kept hr.mode fun hrun n => (hr.recordStep (hangTime := 0) n).idle hrun) (.inl rfl)
  exact ht.resolve_left hmode

/-! ### O17: parameters, seconds, refusals and the journal sequence -/

theorem Writes.scalars {c : Instr} {s t : State} (h : Writes c s t) :
    (t.params = s.params ∨ c = .powerOn ∨ ∃ l args, c = .set l args) ∧
    (t.seconds = s.seconds ∨ c = .powerOn ∨ c = .secondsTick ∨ ∃ l args, c = .setTime l args) ∧
    (t.refusals = s.refusals ∨
      c = .powerOn ∨ (∃ l type args, c = .managementRefused l type args) ∨ ∃ l args, c = .clearCounts l args) ∧
    (t.journalSeq = s.journalSeq ∨ c = .powerOn) := by
  cases h with
  | call h => rw [h.frame]; exact ⟨.inl rfl, .inl rfl, .inl rfl, .inl rfl⟩
  | goesDown l u => cases l <;> exact ⟨.inl rfl, .inl rfl, .inl rfl, .inl rfl⟩
  | params x v hi => exact ⟨.inr (.inr hi), .inl rfl, .inl rfl, .inl rfl⟩
  | seconds n k hi => exact ⟨.inl rfl, .inr (.inr hi), .inl rfl, .inl rfl⟩
  | refusals n hi => exact ⟨.inl rfl, .inl rfl, .inr (.inr hi), .inl rfl⟩
  | powerOn hi => exact ⟨.inr (.inl hi), .inr (.inl hi), .inr (.inl hi), .inr hi⟩
  | _ => exact ⟨.inl rfl, .inl rfl, .inl rfl, .inl rfl⟩

theorem Writes.door_of_not_movesDoor {c : Instr} {s t : State} (h : Writes c s t) (hc : c.movesDoor = false) (p : Fin 4) :
    t.door p = s.door p := by
  cases h with
  | call h => rw [h.frame]; rfl
  | goesDown l u => cases l <;> rfl
  | door _ _ hi => rw [hc] at hi; cases hi
  | restart hi => obtain ⟨l, args, rfl⟩ := hi; cases hc
  | powerOn hi => subst hi; cases hc
  | _ => rfl

theorem Chain.door_of_not_movesDoor {c : Instr} {s t : State} (h : Chain c s t) (hc : c.movesDoor = false) (p : Fin 4) :
    t.door p = s.door p := by
  induction h with
  | refl => rfl
  | tail _ hw ih => exact (hw.door_of_not_movesDoor hc p).trans ih

theorem Chain.journalSeq {c : Instr} {s t : State} (h : Chain c s t) : t.journalSeq = s.journalSeq ∨ c = .powerOn := by
  induction h with
  | refl => exact .inl rfl
  | tail _ hw ih => exact hw.scalars.2.2.2.elim (fun e => ih.imp_left e.trans) .inr

/-- A release takes one sequence number and a LOCKED door, which it leaves RELEASED. -/
theorem Releases.journalSeq {s t : State} (h : Releases s t) :
    t.journalSeq = (s.journalSeq + 1) % 65536 ∧ ∃ p, (s.door p).state = .locked ∧ (t.door p).state = .released := by
  obtain ⟨n, p, st, kind, granting, code, hlocked, rfl⟩ := h
  unfold State.released
  obtain ⟨x, hx⟩ := appendJournal_cases (s.setDoor p _) p st kind granting code
  rw [hx]
  exact ⟨rfl, p, hlocked, congrArg Door.state (setDoor_door_self s p _)⟩

/-- Settles O17: each write accounts for itself, and the journal sequence moves with the one release of a command. -/
theorem onlyTheseCommandsWrite : Obligations.OnlyTheseCommandsWrite := by
  intro c s t h
  have hcourse := exec_course h
  refine ⟨fun hne => ?_, fun hne => ?_, fun hne => ?_, fun hne => ?_⟩
  · exact (hcourse.keeps (P := fun u => u.params = s.params ∨ c = .powerOn ∨ ∃ l args, c = .set l args)
      (fun _ _ hw hu => hw.scalars.1.elim (fun e => hu.imp_left e.trans) .inr)
      (fun _ _ hr hu => hu.imp_left hr.params.trans) (.inl rfl)).resolve_left hne
  · exact (hcourse.keeps
      (P := fun u => u.seconds = s.seconds ∨ c = .powerOn ∨ c = .secondsTick ∨ ∃ l args, c = .setTime l args)
      (fun _ _ hw hu => hw.scalars.2.1.elim (fun e => hu.imp_left e.trans) .inr)
      (fun _ _ hr hu => hu.imp_left (by rw [hr.frame]; exact id)) (.inl rfl)).resolve_left hne
  · exact (hcourse.keeps
      (P := fun u => u.refusals = s.refusals ∨
        c = .powerOn ∨ (∃ l type args, c = .managementRefused l type args) ∨ ∃ l args, c = .clearCounts l args)
      (fun _ _ hw hu => hw.scalars.2.2.1.elim (fun e => hu.imp_left e.trans) .inr)
      (fun _ _ hr hu => hu.imp_left (by rw [hr.frame]; exact id)) (.inl rfl)).resolve_left hne
  · obtain hchain | ⟨hc, u, v, hu, hr, hv⟩ := hcourse
    · exact .inl (hchain.journalSeq.resolve_left hne)
    · obtain ⟨hseq, p, hlocked, hreleased⟩ := hr.journalSeq
      have hpower : c ≠ .powerOn := fun e => by rw [e] at hc; cases hc
      have hsu := hu.journalSeq.resolve_right hpower
      have hvt := hv.journalSeq.resolve_right hpower
      refine .inr ⟨by rw [hvt, hseq, hsu], p, ?_, ?_⟩
      · rw [← hu.door_of_not_movesDoor hc p]; exact hlocked
      · rw [hv.door_of_not_movesDoor hc p]; exact hreleased

/-! ### O6 and O7: the link units -/

theorem CallMove.unitMove {T K : CallNo → Prop} {s t : State} (h : CallMove T K s t) (k : LinkId) :
    UnitMove (s.link k) (t.link k) := by
  cases h with
  | put l m =>
    by_cases hk : k = l
    · subst hk
      obtain ⟨-, e⟩ | ⟨hup, hroom, e⟩ | ⟨hup, -, e⟩ := put_cases s k m
      · rw [e]; exact .refl _
      · rw [e, setLink_link_self]
        exact ⟨fun hb => ⟨hb.rx, by simp; omega, hb.badFrames, hb.checkErrors, hb.overruns, hb.txDrops⟩,
          fun _ hd => absurd hd hup, id⟩
      · rw [e, raise_link, setLink_link_self]
        exact ⟨fun hb => ⟨hb.rx, hb.tx, hb.badFrames, hb.checkErrors, hb.overruns, countUp_le _⟩,
          fun _ hd => absurd hd hup, id⟩
    · rw [put_link_ne s m hk]; exact .refl _
  | endDrain => rw [endDrain_link]; exact .refl _
  | _ => exact .refl _

theorem bounded_flushed {u : LinkUnit} (h : u.Bounded) : u.flushed.Bounded :=
  ⟨Nat.zero_le _, Nat.zero_le _, h.badFrames, h.checkErrors, h.overruns, h.txDrops⟩

theorem quiet_flushed {u : LinkUnit} (h : u.Quiet) : u.flushed.Quiet := fun hd =>
  ⟨.inl rfl, rfl, rfl, rfl, rfl, (h hd).2.2.2.2.2⟩

theorem reset_link (l : LinkId) : State.reset.link l = LinkUnit.reset l.voiceChannels := by
  cases l with
  | panel p => fin_cases p <;> rfl
  | riser r => fin_cases r <;> rfl
  | trunk => rfl

theorem bounded_reset (n : Nat) : (LinkUnit.reset n).Bounded := by constructor <;> exact Nat.zero_le _

theorem quiet_reset (n : Nat) : (LinkUnit.reset n).Quiet := fun _ => ⟨.inl rfl, rfl, rfl, rfl, rfl, rfl⟩

theorem restartBlocks_link (s : State) (l : LinkId) : s.restartBlocks.link l = (s.link l).flushed := by
  simp [State.restartBlocks, State.link]

/-- A fact about one link unit that its moves, going DOWN, flushing and the power-on values keep is kept by every write. -/
theorem Writes.link_keeps {i : Instr} {s t : State} {P : LinkUnit → Prop} (hmove : ∀ u u', UnitMove u u' → P u → P u')
    (hdown : ∀ u u' : LinkUnit, (u.Bounded → u'.Bounded) → u'.Quiet → P u → P u') (hflush : ∀ u, P u → P u.flushed)
    (hreset : ∀ n, P (LinkUnit.reset n)) (h : Writes i s t) (hs : ∀ l, P (s.link l)) (k : LinkId) : P (t.link k) := by
  have hset : ∀ l u, P u → P ((s.setLink l u).link k) := by
    intro l u hu
    rw [setLink_link]
    split
    · exact hu
    · exact hs k
  cases h with
  | call h => exact hmove _ _ (h.unitMove k) (hs k)
  | unit l u h => exact hset l u (hmove _ _ h (hs l))
  | goesDown l u hb hq =>
    have hu : P ((s.setLink l u).link k) := hset l u (hdown _ u hb hq (hs l))
    cases l <;> exact hu
  | units f h => rw [tableMap_link]; exact hmove _ _ (h _) (hs k)
  | restart => rw [restartBlocks_link]; exact hflush _ (hs k)
  | powerOn =>
    have e := reset_link k
    exact (show State.link _ k = _ from e) ▸ hreset _
  | _ => exact hs k

theorem Writes.bounded {i : Instr} {s t : State} (h : Writes i s t) (hs : ∀ l, (s.link l).Bounded) (l : LinkId) :
    (t.link l).Bounded :=
  h.link_keeps (P := LinkUnit.Bounded) (fun _ _ hm => hm.bounded) (fun _ _ hb _ => hb) (fun _ => bounded_flushed)
    bounded_reset hs l

theorem Writes.quiet {i : Instr} {s t : State} (h : Writes i s t) (hs : ∀ l, (s.link l).Quiet) (l : LinkId) :
    (t.link l).Quiet :=
  h.link_keeps (P := LinkUnit.Quiet) (fun _ _ hm => hm.quiet) (fun _ _ _ hq _ => hq) (fun _ => quiet_flushed)
    quiet_reset hs l

theorem Releases.link {s t : State} (h : Releases s t) (l : LinkId) : t.link l = s.link l := by rw [h.frame]; rfl

theorem unitMove_elapse (u : LinkUnit) : UnitMove u u.elapse := by
  refine ⟨fun hb => ⟨hb.rx, hb.tx, hb.badFrames, hb.checkErrors, hb.overruns, hb.txDrops⟩, fun hq hd => ?_, id⟩
  obtain ⟨hrx, hhold, htx, hs, hw, hp⟩ := hq hd
  exact ⟨hrx, hhold, htx, hs, by simp [LinkUnit.elapse, hw], hp⟩

theorem queuesBounded_iff {s : State} :
    QueuesBounded s ↔ (∀ l, (s.link l).Bounded) ∧ s.refusals ≤ 65535 ∧ s.overwrites ≤ 65535 ∧
      (∀ n, (s.call n).releases ≤ 255) ∧ s.seconds < 4294967296 :=
  ⟨fun h => ⟨fun l => ⟨h.receive l, h.transmit l, (h.counters l).1, (h.counters l).2.1, (h.counters l).2.2.1,
      (h.counters l).2.2.2⟩, h.refusals, h.overwrites, h.releases, h.seconds⟩,
    fun ⟨hl, h1, h2, h3, h4⟩ => ⟨fun l => (hl l).rx, fun l => (hl l).tx,
      fun l => ⟨(hl l).badFrames, (hl l).checkErrors, (hl l).overruns, (hl l).txDrops⟩, h1, h2, h3, h4⟩⟩

theorem Writes.queuesBounded {i : Instr} {s t : State} (h : Writes i s t) (hs : QueuesBounded s) : QueuesBounded t := by
  obtain ⟨hl, href, hover, hrel, hsec⟩ := queuesBounded_iff.mp hs
  refine queuesBounded_iff.mpr ⟨h.bounded hl, ?_, ?_, fun n => (h.recordStep n).releases (hrel n), ?_⟩
  · cases h with
    | call h => rw [h.frame]; exact href
    | goesDown l u => cases l <;> exact href
    | refusals n _ hn => exact hn
    | powerOn => exact Nat.zero_le _
    | _ => exact href
  · cases h with
    | call h => rw [h.frame]; exact hover
    | goesDown l u => cases l <;> exact hover
    | powerOn => exact Nat.zero_le _
    | _ => exact hover
  · cases h with
    | call h => rw [h.frame]; exact hsec
    | goesDown l u => cases l <;> exact hsec
    | seconds n k _ hn => exact hn
    | powerOn => exact show 0 < 4294967296 by decide
    | _ => exact hsec

theorem Releases.overwrites {s t : State} (h : Releases s t) (hs : s.overwrites ≤ 65535) : t.overwrites ≤ 65535 := by
  obtain ⟨n, p, st, kind, granting, code, -, rfl⟩ := h
  unfold State.released
  obtain ⟨x, hx⟩ := appendJournal_cases (s.setDoor p _) p st kind granting code
  rw [hx]
  by_cases hfull : 64 ≤ s.journal.length
  · exact (show ite _ _ _ = _ from if_pos hfull).trans_le (countUp_le _)
  · exact (show ite _ _ _ = _ from if_neg hfull).trans_le hs

theorem Releases.queuesBounded {s t : State} (h : Releases s t) (hs : QueuesBounded s) : QueuesBounded t := by
  obtain ⟨hl, href, hover, hrel, hsec⟩ := queuesBounded_iff.mp hs
  refine queuesBounded_iff.mpr ⟨fun l => h.link l ▸ hl l, ?_, h.overwrites hover,
    fun n => (h.recordStep (mode := .run) (hangTime := 0) n).releases (hrel n), ?_⟩
  · rw [h.frame]; exact href
  · rw [h.frame]; exact hsec

/-- Settles O6: every write of a link unit keeps its bounds, and the counters stop at their tops. -/
theorem queuesStayBounded : Obligations.QueuesStayBounded := by
  intro s t hs h
  refine queuesBounded_iff.mpr (step_keeps (P := fun u => (∀ l, (u.link l).Bounded) ∧ u.refusals ≤ 65535 ∧
    u.overwrites ≤ 65535 ∧ (∀ n, (u.call n).releases ≤ 255) ∧ u.seconds < 4294967296) (fun _ _ h => h)
    (fun _ _ _ hw hu => queuesBounded_iff.mp (hw.queuesBounded (queuesBounded_iff.mpr hu)))
    (fun _ _ hr hu => queuesBounded_iff.mp (hr.queuesBounded (queuesBounded_iff.mpr hu))) (fun u hu => ?_)
    (queuesBounded_iff.mp hs) h)
  obtain ⟨hl, href, hover, hrel, hsec⟩ := hu
  exact ⟨fun l => by rw [elapse_link]; exact (unitMove_elapse _).bounded (hl l), href, hover,
    fun n => by rw [elapse_call]; exact hrel n, hsec⟩

/-- DOWN links are quiet, and a DOWN riser gives no turn. -/
def State.DownQuiet (s : State) : Prop :=
  (∀ l, (s.link l).Quiet) ∧ ∀ r, (s.link (.riser r)).state = .down → s.turn r = none

theorem downLinksQuiet_iff {s : State} : DownLinksQuiet s ↔ s.DownQuiet :=
  ⟨fun h => ⟨h.queues, h.turns⟩, fun h => ⟨h.1, h.2⟩⟩

theorem setScheduler_turn (s : State) (r i : Fin 8) (x : Scheduler) :
    (s.setScheduler r x).turn i = if i = r then x.turn else s.turn i := by
  rw [State.turn, setScheduler_scheduler]
  split <;> rfl

theorem cutTurn_turn (s : State) (l : LinkId) (r : Fin 8) :
    (s.cutTurn l).turn r = if l = .riser r then none else s.turn r := by
  cases l with
  | riser i =>
    rw [State.cutTurn, State.setTurn, setScheduler_turn]
    by_cases h : r = i
    · subst h; simp
    · simp [h, Ne.symm h]
  | _ => rfl

theorem Writes.downQuiet {i : Instr} {s t : State} (h : Writes i s t) (hs : s.DownQuiet) : t.DownQuiet := by
  obtain ⟨hquiet, hturns⟩ := hs
  refine ⟨h.quiet hquiet, fun r hdown => ?_⟩
  cases h with
  | call h => rw [h.frame]; exact hturns r ((h.unitMove _).down hdown)
  | unit l u h =>
    rw [setLink_link] at hdown
    split at hdown
    next e => exact hturns r (e ▸ h.down hdown)
    next => exact hturns r hdown
  | goesDown l u =>
    rw [cutTurn_turn]
    split
    · rfl
    next hne =>
      refine hturns r ?_
      have hlink : ((s.setLink l u).cutTurn l).link (.riser r) = (s.setLink l u).link (.riser r) := by cases l <;> rfl
      rwa [hlink, setLink_link_ne _ _ (Ne.symm hne)] at hdown
  | units f h => rw [tableMap_link] at hdown; exact hturns r ((h _).down hdown)
  | scheduler k x h =>
    rw [setScheduler_turn]
    split
    next e =>
      subst e
      by_contra hx
      obtain h' | h' := h hx
      · exact h' (hturns r hdown)
      · exact h' hdown
    next => exact hturns r hdown
  | restart =>
    rw [restartBlocks_link] at hdown
    have e : s.restartBlocks.turn r = (s.turn r).filter fun t => !t.answered := by
      simp [State.restartBlocks, State.turn, State.scheduler, Scheduler.restarted]
    rw [e, hturns r hdown]; rfl
  | powerOn =>
    have e : State.reset.turn r = none := by simp [State.reset, State.turn, State.scheduler]
    exact e
  | _ => exact hturns r hdown

/-- Settles O7: a link goes DOWN with its queues flushed and its riser's turn cut, a put on a DOWN link does nothing, and a
turn begins on a link that is not DOWN. -/
theorem downLinksStayQuiet : Obligations.DownLinksStayQuiet := by
  intro s t hs h
  refine downLinksQuiet_iff.mpr (step_keeps (P := State.DownQuiet) (fun _ _ h => h) (fun _ _ _ hw => hw.downQuiet)
    (fun _ _ hr hu => ⟨fun l => hr.link l ▸ hu.1 l, fun r hd => ?_⟩) (fun u hu => ⟨fun l => ?_, fun r hd => ?_⟩)
    (downLinksQuiet_iff.mp hs) h)
  · rw [hr.link] at hd; rw [hr.frame]; exact hu.2 r hd
  · rw [elapse_link]; exact (unitMove_elapse _).quiet (hu.1 l)
  · rw [elapse_link] at hd; exact hu.2 r hd

/-! ### O15: the doors -/

theorem kept_locked : Door.lockedShut.Kept := ⟨rfl, rfl⟩

theorem Writes.doorsKept {i : Instr} {s t : State} (h : Writes i s t) (hs : ∀ p, (s.door p).Kept) (p : Fin 4) :
    (t.door p).Kept := by
  cases h with
  | call h => rw [h.frame]; exact hs p
  | goesDown l u => cases l <;> exact hs p
  | door k d _ h =>
    rw [setDoor_door]
    split
    · exact h (hs k)
    · exact hs p
  | restart =>
    have e : s.restartBlocks.door p = Door.lockedShut := by simp [State.restartBlocks, State.door]
    exact e ▸ kept_locked
  | powerOn =>
    have e : State.reset.door p = Door.lockedShut := by simp [State.reset, State.door, Door.lockedShut]
    exact (show State.door _ p = _ from e) ▸ kept_locked
  | _ => exact hs p

theorem Releases.doorsKept {s t : State} (h : Releases s t) (hs : ∀ p, (s.door p).Kept) (p : Fin 4) : (t.door p).Kept := by
  obtain ⟨n, k, st, kind, granting, code, -, rfl⟩ := h
  unfold State.released
  obtain ⟨x, hx⟩ := appendJournal_cases (s.setDoor k _) k st kind granting code
  rw [hx]
  refine (show ((s.setDoor k _).door p).Kept from ?_)
  rw [setDoor_door]
  split
  · exact ⟨rfl, rfl⟩
  · exact hs p

theorem kept_elapse {d : Door} (h : d.Kept) : d.elapse.Kept := by
  obtain ⟨state, release, held⟩ := d
  cases state <;> simp_all [Door.Kept, Door.elapse]

/-- Settles O15: every write of a door and every release leaves its timers as its state asks, and time leaves them so. -/
theorem doorTimersFollowState : Obligations.DoorTimersFollowState := by
  intro s t hs h
  exact step_keeps (P := fun u => ∀ p, (u.door p).Kept) (fun _ _ h => h) (fun _ _ _ hw => hw.doorsKept)
    (fun _ _ hr => hr.doorsKept) (fun u hu p => by rw [elapse_door]; exact kept_elapse (hu p)) hs h

/-! ### O13: the voice -/

theorem voiceBounded_iff {s : State} : VoiceBounded s ↔ ∀ n, (s.call n).VoiceKept := by
  refine ⟨fun h n v hv => ?_, fun h n v hv => ?_⟩
  · obtain ⟨h1, h2, h3, h4, h5, h6⟩ := h n v hv
    exact ⟨h1, h2, h3, h4, h5, h6⟩
  · obtain ⟨h1, h2, h3, h4, h5, h6⟩ := h n v hv
    exact ⟨h1, h2, h3, h4, h5, h6⟩

theorem hangTime_le {s : State} (h : ParamsInRange s) : s.params.hangTime ≤ 255 := (h.ranges .hangTime 0 255 rfl).2

/-- Settles O13: the crosspoint's moves keep the ranges while the hang time is in its own, which O10 keeps. -/
theorem voiceStaysBounded : Obligations.VoiceStaysBounded := by
  intro s t hp hs h
  refine voiceBounded_iff.mpr (step_keeps (P := fun u => ParamsInRange u ∧ ∀ n, (u.call n).VoiceKept)
    (fun u _ hu => ⟨paramsInRange_congr (s := u) rfl hu.1, hu.2⟩)
    (fun _ _ _ hw hu => ⟨hw.paramsInRange hu.1, fun n => (hw.recordStep n).voiceKept (hangTime_le hu.1) (hu.2 n)⟩)
    (fun u _ hr hu => ⟨paramsInRange_congr (s := u) hr.params hu.1,
      fun n => (hr.recordStep (mode := .run) (hangTime := 0) n).voiceKept (Nat.zero_le _) (hu.2 n)⟩)
    (fun u hu => ⟨paramsInRange_congr (s := u) rfl hu.1, fun n => ?_⟩) ⟨hp, voiceBounded_iff.mp hs⟩ h).2
  rw [elapse_call]
  exact hu.2 n

end Sys2Proof.Machine
end

section
/-!
PROOF. The channel maps and the reservations (O12), the state after reset (O5), and the front of the queue (O1).
-/

namespace Sys2Proof.Machine

/-! ### O12: the channel maps and the reservations -/

/-- The maps and the reservations agree in states that hold the same of both. -/
theorem channelsMatch_congr {s t : State} (hchannel : ∀ r c, t.channel r c = s.channel r c)
    (hreservations : ∀ n, (t.call n).reservations = (s.call n).reservations) (h : ChannelsMatch s) : ChannelsMatch t :=
  ⟨fun n r c => by rw [hchannel, hreservations]; exact h.exact n r c, fun n => by rw [hreservations]; exact h.once n⟩

theorem reservations_setCall {s : State} {n : CallNo} {c : CallRecord} (h : c.reservations = (s.call n).reservations)
    (m : CallNo) : ((s.setCall n c).call m).reservations = (s.call m).reservations := by
  rw [setCall_call]
  split
  next e => rw [e]; exact h
  next => rfl

/-- A channel FREE before is given to a call. -/
theorem channelsMatch_reserve {s : State} (h : ChannelsMatch s) {n : CallNo} {r : Fin 8} {c : Fin 4}
    {rs : List (Fin 8 × Fin 4)} (hfree : s.channel r c = none) (hrs : rs.Perm ((r, c) :: (s.call n).reservations)) :
    ChannelsMatch ((s.setChannel r c (some n)).setCall n { s.call n with reservations := rs }) := by
  have hnot : ∀ m, (r, c) ∉ (s.call m).reservations := fun m hm => by
    rw [← h.exact, hfree] at hm; cases hm
  refine ⟨fun m i j => ?_, fun m => ?_⟩
  · rw [setCall_channel, setChannel_channel, setCall_call]
    by_cases hm : m = n
    · subst hm
      rw [if_pos rfl]
      show _ ↔ (i, j) ∈ rs
      rw [hrs.mem_iff, List.mem_cons, ← h.exact]
      split
      next e => simp [e.1, e.2]
      next e => simp [e]
    · rw [if_neg hm, setChannel_call, ← h.exact]
      split
      next e => rw [e.1, e.2, hfree]; simp [Ne.symm hm]
      next => exact .rfl
  · rw [setCall_call]
    split
    · exact hrs.nodup_iff.mpr (List.nodup_cons.mpr ⟨hnot n, h.once n⟩)
    · exact h.once m

/-- A channel is taken from its call and is FREE. -/
theorem channelsMatch_setAside {s : State} (h : ChannelsMatch s) {n : CallNo} {r : Fin 8} {c : Fin 4}
    (hmem : (r, c) ∈ (s.call n).reservations) :
    ChannelsMatch
      ((s.setChannel r c none).setCall n { s.call n with reservations := (s.call n).reservations.erase (r, c) }) := by
  have hheld : s.channel r c = some n := (h.exact n r c).mpr hmem
  refine ⟨fun m i j => ?_, fun m => ?_⟩
  · rw [setCall_channel, setChannel_channel, setCall_call]
    by_cases hm : m = n
    · subst hm
      rw [if_pos rfl]
      show _ ↔ (i, j) ∈ (s.call m).reservations.erase (r, c)
      rw [(h.once m).mem_erase_iff, ← h.exact]
      split
      next e => simp [e.1, e.2]
      next e => simpa using fun _ h1 h2 => e ⟨h1, h2⟩
    · rw [if_neg hm, setChannel_call, ← h.exact]
      split
      next e => rw [e.1, e.2, hheld]; simp [Ne.symm hm]
      next => exact .rfl
  · rw [setCall_call]
    split
    · exact (h.once n).erase _
    · exact h.once m

theorem CallMove.channelsMatch {T K : CallNo → Prop} {s t : State} (h : CallMove T K s t) (hs : ChannelsMatch s) :
    ChannelsMatch t := by
  cases h with
  | record n c _ h => exact channelsMatch_congr (s := s) (fun _ _ => rfl) (reservations_setCall h.reservations) hs
  | retire n cause _ h => exact channelsMatch_congr (s := s) (fun _ _ => rfl) (reservations_setCall h.symm) hs
  | reserve n r c rs _ _ _ hfree hrs =>
    refine channelsMatch_reserve hs hfree ?_
    obtain rfl | rfl := hrs
    · exact List.perm_append_singleton _ _
    · exact .refl _
  | setAside n r c _ _ hmem => exact channelsMatch_setAside hs hmem
  | put l m => exact channelsMatch_congr (s := s) (fun _ _ => by rw [put_frame]; rfl) (fun _ => by simp) hs
  | endDrain => exact channelsMatch_congr (s := s) (fun _ _ => by simp) (fun _ => by simp) hs
  | _ => exact channelsMatch_congr (s := s) (fun _ _ => rfl) (fun _ => rfl) hs

theorem Writes.channelsMatch {i : Instr} {s t : State} (h : Writes i s t) (hblank : IdleRecordsBlank s)
    (hs : ChannelsMatch s) : ChannelsMatch t := by
  cases h with
  | call h => exact h.channelsMatch hs
  | goesDown l u => cases l <;> exact channelsMatch_congr (s := s) (fun _ _ => rfl) (fun _ => rfl) hs
  | create n k st x digits _ hidle _ hq =>
    have hnone : (s.call n).reservations = [] := hq.resolve_right (not_not.mpr (hblank n hidle))
    exact channelsMatch_congr (s := s) (fun _ _ => rfl) (reservations_setCall (c := CallRecord.taken k st x digits) hnone.symm) hs
  | voice n c h =>
    have hkept : c.reservations = (s.call n).reservations := by rw [h.frame]
    exact channelsMatch_congr (s := s) (fun _ _ => rfl) (reservations_setCall hkept) hs
  | restart =>
    refine ⟨fun n r c => ?_, fun n => ?_⟩ <;>
      simp [State.restartBlocks, State.channel, State.call, CallRecord.restarted, CallRecord.blank]
  | powerOn =>
    refine ⟨fun n r c => ?_, fun n => ?_⟩ <;> simp [State.reset, State.channel, State.call, CallRecord.blank]
  | _ => exact channelsMatch_congr (s := s) (fun _ _ => rfl) (fun _ => rfl) hs

theorem Releases.reservations {s t : State} (h : Releases s t) (m : CallNo) :
    (t.call m).reservations = (s.call m).reservations := by
  obtain ⟨n, p, st, kind, granting, code, -, rfl⟩ := h
  unfold State.released
  obtain ⟨x, hx⟩ := appendJournal_cases (s.setDoor p _) p st kind granting code
  rw [hx]
  exact reservations_setCall (s := s) (c := { s.call n with releases := min ((s.call n).releases + 1) 255 }) rfl m

/-- Settles O12: a channel is given FREE to one call, and taken from the call that lists it. -/
theorem channelsStayMatched : Obligations.ChannelsStayMatched := by
  intro s t hblank hs h
  exact (step_keeps (P := fun u => IdleRecordsBlank u ∧ ChannelsMatch u)
    (fun u _ hu => ⟨hu.1, channelsMatch_congr (s := u) (fun _ _ => rfl) (fun _ => rfl) hu.2⟩)
    (fun _ _ _ hw hu => ⟨hw.idleRecordsBlank hu.1, hw.channelsMatch hu.1 hu.2⟩)
    (fun u v hr hu => ⟨hr.idleRecordsBlank hu.1,
      channelsMatch_congr (s := u) (fun _ _ => by rw [hr.frame]; rfl) hr.reservations hu.2⟩)
    (fun u hu => ⟨elapse_idleRecordsBlank hu.1,
      channelsMatch_congr (s := u) (fun _ _ => rfl) (fun n => by rw [elapse_call]; rfl) hu.2⟩) ⟨hblank, hs⟩ h).2

/-! ### O14, its first part: the sizes -/

theorem CallMove.partiesBounded {T K : CallNo → Prop} {s t : State} (h : CallMove T K s t) (hs : PartiesBounded s) :
    PartiesBounded t := by
  cases h with
  | handset r a e w _ _ hl =>
    refine ⟨fun i j => ?_, fun i j => ?_, hs.idleOrder⟩
    · rw [setHandset_handset]
      split
      · exact hs.misses r a
      · exact hs.misses i j
    · rw [setHandset_handset]
      split
      · exact hl.elim id (fun h => h.trans (hs.watch r a))
      · exact hs.watch i j
  | leavePlaces n =>
    refine ⟨fun i j => ?_, fun i j => ?_, hs.idleOrder⟩
    · rw [leavePlaces_handset]; exact hs.misses i j
    · rw [leavePlaces_handset]; exact (List.length_filter_le ..).trans (hs.watch i j)
  | idleOrder o ho _ => exact ⟨hs.misses, hs.watch, ho hs.idleOrder⟩
  | put | endDrain => exact ⟨by simpa using hs.misses, by simpa using hs.watch, by simpa using hs.idleOrder⟩
  | _ => exact ⟨hs.misses, hs.watch, hs.idleOrder⟩

theorem riserAbsent_handset (s : State) (r i : Fin 8) (a : Fin 63) :
    ({ s with
        handsets := s.handsets.set r
          (tableMap (fun h : Handset => { h with present := false, misses := 0 }) s.handsets[r]) } : State).handset i a =
      if i = r then { s.handset r a with present := false, misses := 0 } else s.handset i a := by
  by_cases h : i = r
  · subst h; simp [State.handset]
  · have : (r : Nat) ≠ i := fun e => h (Fin.ext e.symm)
    simp [State.handset, Vector.getElem_set_ne, h, this]

theorem restartBlocks_handset (s : State) (r : Fin 8) (a : Fin 63) :
    s.restartBlocks.handset r a = { s.handset r a with engaged := none, watch := [] } := by
  simp [State.restartBlocks, State.handset]

theorem Writes.partiesBounded {i : Instr} {s t : State} (h : Writes i s t) (hs : PartiesBounded s) : PartiesBounded t := by
  cases h with
  | call h => exact h.partiesBounded hs
  | goesDown l u => cases l <;> exact ⟨hs.misses, hs.watch, hs.idleOrder⟩
  | handset r a present misses quiet h =>
    refine ⟨fun i j => ?_, fun i j => ?_, hs.idleOrder⟩
    · rw [setHandset_handset]
      split
      · exact h.elim id fun e => e ▸ hs.misses r a
      · exact hs.misses i j
    · rw [setHandset_handset]
      split
      · exact hs.watch r a
      · exact hs.watch i j
  | riserAbsent r =>
    refine ⟨fun i j => ?_, fun i j => ?_, hs.idleOrder⟩
    · rw [riserAbsent_handset]
      split
      · exact Nat.zero_le _
      · exact hs.misses i j
    · rw [riserAbsent_handset]
      split
      · exact hs.watch r j
      · exact hs.watch i j
  | logoffAll => exact ⟨hs.misses, hs.watch, .nil⟩
  | restart =>
    refine ⟨fun i j => ?_, fun i j => ?_, ?_⟩
    · rw [restartBlocks_handset]; exact hs.misses i j
    · rw [restartBlocks_handset]; exact Nat.zero_le _
    · exact List.Nodup.filter (fun q => (s.position q).loggedOn) (show allPositions.Nodup by decide)
  | powerOn => refine ⟨fun i j => ?_, fun i j => ?_, .nil⟩ <;> simp [State.reset, State.handset]
  | _ => exact ⟨hs.misses, hs.watch, hs.idleOrder⟩

theorem step_partiesBounded {s t : State} (hs : PartiesBounded s) (h : step s = .next t) : PartiesBounded t :=
  step_keeps (P := PartiesBounded) (fun _ _ h => ⟨h.misses, h.watch, h.idleOrder⟩) (fun _ _ _ hw => hw.partiesBounded)
    (fun _ _ hr hu => by rw [hr.frame]; exact ⟨hu.misses, hu.watch, hu.idleOrder⟩)
    (fun _ hu => ⟨hu.misses, hu.watch, hu.idleOrder⟩) hs h

/-! ### O1 and O5 -/

/-- Settles O1. -/
theorem stepRunsFrontCommand : Obligations.StepRunsFrontCommand := by
  intro s c rest h
  simp only [step, h]

@[simp] theorem reset_call (n : CallNo) : State.reset.call n = CallRecord.blank := by simp [State.reset, State.call]
@[simp] theorem reset_handset (r : Fin 8) (a : Fin 63) :
    State.reset.handset r a = { present := false, misses := 0, quiet := false, engaged := none, watch := [] } := by
  simp [State.reset, State.handset]
@[simp] theorem reset_station (p : Fin 4) (st : Fin 2) : State.reset.station p st = none := by
  simp [State.reset, State.station]
@[simp] theorem reset_position (q : Fin 6) : State.reset.position q = { loggedOn := false, engaged := none } := by
  simp [State.reset, State.position]
@[simp] theorem reset_channel (r : Fin 8) (c : Fin 4) : State.reset.channel r c = none := by
  simp [State.reset, State.channel]
@[simp] theorem reset_seekQueue (r : Fin 8) : State.reset.seekQueue r = [] := by simp [State.reset, State.seekQueue]
@[simp] theorem reset_scheduler (r : Fin 8) :
    State.reset.scheduler r = { lastRolled := 62, lastServed := 62, nextKind := .roll, turn := none } := by
  simp [State.reset, State.scheduler]
@[simp] theorem reset_door (p : Fin 4) : State.reset.door p = Door.lockedShut := by
  simp [State.reset, State.door, Door.lockedShut]

theorem reset_engagedBy (x : Party) : State.reset.engagedBy x = none := by
  cases x <;> simp [State.engagedBy]

theorem reset_placesMatch : PlacesMatch State.reset where
  seeking n := by simp [CallRecord.blank]
  queued n := by rw [reset_call]; exact iff_of_false CallState.noConfusion List.not_mem_nil
  camped n := by simp [CallRecord.blank]
  oneQueue n r r' h := by simp at h
  oneList n r a r' a' h := by simp at h
  once := by simp [State.reset, State.seekQueue, State.handset]
  targets n := by simp [CallRecord.blank]

theorem reset_engagementsMatch : EngagementsMatch State.reset where
  engaged x n := by rw [reset_engagedBy]; simp [CallRecord.blank]
  roles n := by simp [CallRecord.blank]
  idleOrder q := by simp [State.reset, State.position]
  exclusive := .inl rfl

theorem reset_markersFirst : MarkersFirst State.reset where
  first l := by rw [reset_link]; simp [LinkUnit.reset]
  riser r h := by rw [reset_link] at h; simp [LinkUnit.reset] at h
  trunk h := by rw [reset_link] at h; simp [LinkUnit.reset] at h
  held q _ h := by simp at h

/-- Settles O5: the blank records, the empty queues and the DOWN links of reset meet each invariant. -/
theorem resetMeetsInvariants : Obligations.ResetMeetsInvariants := by
  have hlink : ∀ l, (State.reset.link l).Bounded ∧ (State.reset.link l).Quiet := fun l => by
    rw [reset_link]; exact ⟨bounded_reset _, quiet_reset _⟩
  refine ⟨queuesBounded_iff.mpr ⟨fun l => (hlink l).1, Nat.zero_le _, Nat.zero_le _, fun n => ?_, show 0 < 4294967296 by decide⟩,
    downLinksQuiet_iff.mpr ⟨fun l => (hlink l).2, fun r _ => ?_⟩, directoryOrdered_iff.mpr ⟨Nat.zero_le _, .nil, ?_⟩,
    ⟨Nat.zero_le _, show 0 < 65536 by decide, .nil, ?_⟩, reset_paramsInRange, fun _ n => ?_, fun n _ => ?_,
    ⟨fun n r c => ?_, fun n => ?_⟩, voiceBounded_iff.mpr fun n v hv => ?_, ⟨fun r a => ?_, fun r a => ?_, .nil⟩,
    fun p => ?_, reset_placesMatch, reset_engagementsMatch, reset_markersFirst⟩
  · simp [CallRecord.blank]
  · simp [State.turn]
  · simp [State.reset]
  · simp [State.reset]
  · simp [CallRecord.blank]
  · simp [CallRecord.blank]
  · simp [CallRecord.blank]
  · simp [CallRecord.blank]
  · simp [CallRecord.blank] at hv
  · simp
  · simp
  · rw [reset_door]; exact kept_locked

end Sys2Proof.Machine
end

section
/-!
PROOF. The machine as a whole: how a delivery command brings its message (O2), what a frame period brings (O3), POWER_ON and
RESET_ASSERTED (O4); and the level meters and the hang counter (O27).
-/

namespace Sys2Proof.Machine

/-! ### O2: a delivery command brings its message -/

theorem deliverable_of_empty {s : State} {l : LinkId} {m : Message} (hrx : (s.link l).rx = []) :
    s.deliverable l m = decide ((s.link l).state ≠ .down) := by simp [State.deliverable, hrx]

theorem not_deliverable_of_head {s : State} {l : LinkId} {m : Message} {e : RxEntry} (h : (s.link l).rx.head? = some e)
    (he : e ≠ .message m) : s.deliverable l m = false := by
  cases hrx : (s.link l).rx with
  | nil => rw [hrx] at h; cases h
  | cons x xs =>
    rw [hrx] at h
    cases h
    simp [State.deliverable, hrx, he]

theorem arrived_deliverable {s : State} {l : LinkId} {m : Message} (hrx : (s.link l).rx = []) :
    (s.arrived l m).deliverable l m = true := by simp [State.arrived, State.deliverable, hrx]

theorem arrived_arrived (s : State) (l : LinkId) (m : Message) : (s.arrived l m).arrived l m = s.arrived l m := by
  by_cases h : (s.link l).rx = []
  · simp [State.arrived, h]
  · simp [State.arrived, h]

/-- How a command takes the message `m` of link `l`: it brings it to an empty queue of a link that is not DOWN, and changes
nothing where the link is DOWN or another entry stands at the head (log 1, log 2). -/
structure Brings (F : State → State) (l : LinkId) (m : Message) (s : State) : Prop where
  arrives : (s.link l).rx = [] → (s.link l).state ≠ .down → F s = F (s.arrived l m)
  down : (s.link l).rx = [] → (s.link l).state = .down → F s = s
  other : ∀ e, (s.link l).rx.head? = some e → e ≠ .message m → F s = s

theorem brings_deliver (f : State → State) (l : LinkId) (m : Message) (s : State) :
    Brings (fun u => u.deliver l m f) l m s where
  arrives hrx hup := by
    have hd : s.deliverable l m = true := by simp [deliverable_of_empty hrx, hup]
    simp only [deliver_of_deliverable f hd, deliver_of_deliverable f (arrived_deliverable hrx), arrived_arrived]
  down hrx hdown := deliver_of_not f (by simp [deliverable_of_empty hrx, hdown])
  other e he hne := deliver_of_not f (not_deliverable_of_head he hne)

theorem brings_deliverParty (f : State → State) (l : LinkId) (m : Message) (s : State) (hm : m.addr ≠ 63#8) :
    Brings (fun u => u.deliverParty l m f) l m s := by
  have e : (fun u : State => u.deliverParty l m f) = fun u => u.deliver l m f := funext fun u => if_neg hm
  rw [e]
  exact brings_deliver f l m s

theorem arrived_inOrigin (s : State) (k l : LinkId) (m : Message) : (s.arrived l m).inOrigin k = s.inOrigin k := by
  rw [State.inOrigin, arrived_params]; rfl

theorem brings_deliverRequest (judge : State → Answer) (l : LinkId) (type : Octet) (args : List Octet) (s : State)
    (ho : s.inOrigin l = true) :
    Brings (fun u => u.deliverRequest l type args judge) l (managementMsg type args) s where
  arrives hrx hup := by
    have hd : s.deliverable l (managementMsg type args) = true := by simp [deliverable_of_empty hrx, hup]
    simp only [State.deliverRequest, ho, hd, arrived_inOrigin, arrived_deliverable hrx, arrived_arrived, and_self, if_true]
  down hrx hdown := by simp [State.deliverRequest, deliverable_of_empty hrx, hdown]
  other e he hne := by simp [State.deliverRequest, not_deliverable_of_head he hne]

/-- What O2 says of a command, of whether it can take its message, and of that message. -/
def DeliveryClauses (c : Instr) (takes : Prop) (l : LinkId) (m : Message) (s : State) : Prop :=
  (takes → (s.link l).rx = [] → (s.link l).state ≠ .down → exec c s = exec c (s.arrived l m)) ∧
    (¬ takes → exec c s = .next s) ∧ ((s.link l).rx = [] → (s.link l).state = .down → exec c s = .next s) ∧
    ∀ e, (s.link l).rx.head? = some e → e ≠ .message m → exec c s = .next s

theorem deliveryClauses_of_brings {c : Instr} {takes : Prop} {l : LinkId} {m : Message} {s : State} {F : State → State}
    (hexec : ∀ u, exec c u = .next (F u)) (hbrings : takes → Brings F l m s) (hnot : ¬ takes → F s = s) :
    DeliveryClauses c takes l m s := by
  refine ⟨fun ht hrx hup => ?_, fun ht => by rw [hexec, hnot ht], fun hrx hdown => ?_, fun e he hne => ?_⟩
  · rw [hexec, hexec, (hbrings ht).arrives hrx hup]
  · by_cases ht : takes
    · rw [hexec, (hbrings ht).down hrx hdown]
    · rw [hexec, hnot ht]
  · by_cases ht : takes
    · rw [hexec, (hbrings ht).other e he hne]
    · rw [hexec, hnot ht]

/-- A party's command delivers its message short of the management address. -/
theorem deliveryClauses_party {c : Instr} {l : LinkId} {m : Message} (s : State) {f : State → State}
    (hexec : ∀ u, exec c u = .next (u.deliverParty l m f)) : DeliveryClauses c (m.addr ≠ 63#8) l m s :=
  deliveryClauses_of_brings hexec (brings_deliverParty f l m s) fun hm => if_pos (not_not.mp hm)

/-- A request is delivered from the origin set. -/
theorem deliveryClauses_request {c : Instr} {l : LinkId} {k : Request} {args : List Octet} (s : State)
    {judge : State → Answer} (hexec : ∀ u, exec c u = .next (u.takeRequest k l args judge)) :
    DeliveryClauses c (s.inOrigin l = true) l (managementMsg k.code args) s :=
  deliveryClauses_of_brings hexec (brings_deliverRequest judge l k.code args s) fun ho => if_neg fun h => ho h.1

theorem deliveryClauses_discard (s : State) (l : LinkId) (m : Message) :
    DeliveryClauses (.catalogueDiscard l m) (m.addr ≠ 63#8 ∧ fitsCatalogue l m = false) l m s := by
  by_cases hfits : fitsCatalogue l m = true
  · exact deliveryClauses_of_brings (F := id) (fun u => congrArg Host.Outcome.next (if_pos hfits))
      (fun h => absurd hfits (by simp [h.2])) fun _ => rfl
  · refine deliveryClauses_of_brings (fun u => congrArg Host.Outcome.next (if_neg hfits))
      (fun h => brings_deliverParty _ l m s h.1) fun h => if_pos ?_
    by_contra hm
    exact h ⟨hm, by simpa using hfits⟩

theorem deliveryClauses_refused (s : State) (l : LinkId) (type : Octet) (args : List Octet) :
    DeliveryClauses (.managementRefused l type args) (s.inOrigin l = false) l (managementMsg type args) s := by
  refine deliveryClauses_of_brings (fun u => rfl) (fun ho => ?_) fun ho => if_pos (by simpa using ho)
  have hb := brings_deliver (State.refuseManagement l type) l (managementMsg type args) s
  refine ⟨fun hrx hup => ?_, fun hrx hdown => ?_, fun e he hne => ?_⟩
  · simpa [arrived_inOrigin, ho] using hb.arrives hrx hup
  · simpa [ho] using hb.down hrx hdown
  · simpa [ho] using hb.other e he hne

theorem isRequestType_eq_false_iff {type : Octet} : isRequestType type = false ↔ type.toNat < 0x80 ∨ 0x93 < type.toNat := by
  simp only [isRequestType, Bool.and_eq_false_iff, decide_eq_false_iff_not, not_le]

theorem deliveryClauses_unknown (s : State) (l : LinkId) (type : Octet) (args : List Octet) :
    DeliveryClauses (.unknownRequest l type args)
      (s.inOrigin l = true ∧ (type.toNat < 0x80 ∨ 0x93 < type.toNat)) l (managementMsg type args) s := by
  rw [← isRequestType_eq_false_iff]
  by_cases htype : isRequestType type = true
  · exact deliveryClauses_of_brings (F := id) (fun u => congrArg Host.Outcome.next (if_pos htype))
      (fun h => absurd htype (by simp [h.2])) fun _ => rfl
  · refine deliveryClauses_of_brings (fun u => congrArg Host.Outcome.next (if_neg htype))
      (fun h => brings_deliverRequest _ l type args s h.1) fun h => if_neg fun ho => h ⟨ho.1, by simpa using htype⟩

/-- Settles O2, command by command: a party's command, one of the twenty requests, or one of the three commands for what no
block serves. -/
theorem deliveryBringsItsMessage : Obligations.DeliveryBringsItsMessage := by
  intro s c l m hc
  cases c with
  | keyDigit | keyCall | keyCancel | keyDesk | doorOpen | doorShut | hello | answer | hangup | openDoor | callDesk | quiet
  | extend | logon | logoff | dial | join =>
    cases hc
    exact deliveryClauses_party s fun _ => rfl
  | start | stop | restart | status | set | get | dirPut | dirDel | dirGet | dirNext | partyGet | partySet | callGet
  | callClear | linkGet | linkReset | clearCounts | journalRead | ackAttention | setTime =>
    cases hc
    exact deliveryClauses_request s fun _ => rfl
  | catalogueDiscard l m => cases hc; exact deliveryClauses_discard s l m
  | managementRefused l type args => cases hc; exact deliveryClauses_refused s l type args
  | unknownRequest l type args => cases hc; exact deliveryClauses_unknown s l type args
  | _ => cases hc

/-! ### O3: a frame period -/

@[simp] theorem mem_dueWhen {b : Bool} {i j : Instr} : i ∈ dueWhen b j ↔ b = true ∧ i = j := by
  cases b <;> simp [dueWhen]

theorem timedOut_iff {x : Turn} : x.timedOut = true ↔ x.answered = false ∧ 16 ≤ x.frames := by
  simp only [Turn.timedOut, Bool.and_eq_true, Bool.not_eq_true', decide_eq_true_eq]
  exact .rfl

theorem overrun_iff {x : Turn} : x.overrun = true ↔ x.answered = true ∧ 80 ≤ x.frames := by
  simp only [Turn.overrun, Bool.and_eq_true, decide_eq_true_eq]
  exact .rfl

@[simp] theorem mem_dueTurn {s : State} {r : Fin 8} {i : Instr} :
    i ∈ s.dueTurn r ↔
      (∃ x, s.turn r = some x ∧ ((x.timedOut = true ∧ i = .turnTimeout r) ∨ (x.overrun = true ∧ i = .turnLimit r))) ∨
        ((s.link (.riser r)).state ≠ .down ∧ i = .turnBegin r) := by
  unfold State.dueTurn
  cases s.turn r <;> simp [or_assoc]

@[simp] theorem mem_dueState {n : CallNo} {x : Option StateCount} {i : Instr} :
    i ∈ dueState n x ↔
      (x = some ⟨.digit, 0⟩ ∧ i = .digitTimerExpiry n) ∨ (x = some ⟨.camp, 0⟩ ∧ i = .campTimerExpiry n) ∨
        (x = some ⟨.alert, 0⟩ ∧ i = .alertTimerExpiry n) ∨ (x = some ⟨.deskRing, 0⟩ ∧ i = .deskRingExpiry n) := by
  rcases x with _ | ⟨timer, frames⟩
  · simp [dueState]
  · cases timer <;> cases frames <;> simp [dueState]

@[simp] theorem mem_dueWait {n : CallNo} {x : Option WaitCount} {i : Instr} :
    i ∈ dueWait n x ↔
      (x = some ⟨.seek, 0, false⟩ ∧ i = .seekTimerExpiry n) ∨ (x = some ⟨.deskWait, 0, false⟩ ∧ i = .deskWaitExpiry n) := by
  rcases x with _ | ⟨timer, frames, held⟩
  · simp [dueWait]
  · cases timer <;> cases frames <;> cases held <;> simp [dueWait]

@[simp] theorem mem_dueTalk {c : CallRecord} {n : CallNo} {i : Instr} :
    i ∈ c.dueTalk n ↔
      (∃ x, c.talk = some x ∧ c.graceBound = none ∧ x.seconds ≤ 0 ∧ i = .talkCountWarning n) ∨
        ∃ x g, c.talk = some x ∧ c.graceBound = some g ∧ x.seconds ≤ -(g : Int) ∧ i = .timeLimit n := by
  unfold CallRecord.dueTalk
  cases c.talk <;> cases c.graceBound <;> simp

@[simp] theorem mem_dueSilence {s : State} {l : LinkId} {i : Instr} :
    i ∈ s.dueSilence l ↔
      ((s.link l).state ≠ .down ∧ 1 ≤ (s.link l).unclassed) ∧
        i = .upstreamFrame l (List.replicate (10 * l.frameOctets) true) := by
  simp only [State.dueSilence, mem_dueWhen, LinkUnit.silent, Bool.and_eq_true, decide_eq_true_eq]
  exact .rfl

@[simp] theorem mem_dueCall {s : State} {n : CallNo} {i : Instr} :
    i ∈ s.dueCall n ↔
      i ∈ dueState n (s.call n).stateCount ∨ i ∈ dueWait n (s.call n).waitCount ∨ i ∈ (s.call n).dueTalk n := by
  simp only [State.dueCall, List.mem_append, or_assoc]

@[simp] theorem mem_dueDoor {s : State} {p : Fin 4} {i : Instr} :
    i ∈ s.dueDoor p ↔
      ((s.door p).releaseTimer = some 0 ∧ i = .releaseTimerExpiry p) ∨
        ((s.door p).heldOpenTimer = some 0 ∧ i = .heldOpenExpiry p) := by
  simp only [State.dueDoor, List.mem_append, mem_dueWhen, decide_eq_true_eq]

/-- The commands a frame period brings. -/
theorem mem_framePeriod {s : State} (hlow : s.resetLow = false) {i : Instr} :
    i ∈ s.framePeriod.pending ↔
      (∃ l, i ∈ s.dueSilence l) ∨ (∃ r, i ∈ s.elapse.dueTurn r) ∨ i = .voiceFramePeriod ∨
        (∃ l, i = .downstreamFrame l) ∨ (∃ n, i ∈ s.elapse.dueCall n) ∨ (∃ p, i ∈ s.elapse.dueDoor p) ∨
        (∃ l, (s.elapse.link l).holdOffWait = some 0 ∧ i = .holdOffWaitExpiry l) ∨
        (s.elapse.secondLeft = 0 ∧ i = .secondsTick) := by
  simp [State.framePeriod, hlow, State.dueCommands, eq_comm (a := i)]

theorem framePeriod_frame {s : State} (hlow : s.resetLow = false) :
    s.framePeriod = { s.elapse with pending := s.framePeriod.pending } := by simp [State.framePeriod, hlow]

theorem framePeriod_link {s : State} (hlow : s.resetLow = false) (l : LinkId) :
    s.framePeriod.link l = (s.link l).elapse := by rw [framePeriod_frame hlow, ← elapse_link]; rfl
theorem framePeriod_call {s : State} (hlow : s.resetLow = false) (n : CallNo) :
    s.framePeriod.call n = (s.call n).elapse := by rw [framePeriod_frame hlow, ← elapse_call]; rfl
theorem framePeriod_door {s : State} (hlow : s.resetLow = false) (p : Fin 4) :
    s.framePeriod.door p = (s.door p).elapse := by rw [framePeriod_frame hlow, ← elapse_door]; rfl

theorem elapse_turn (s : State) (r : Fin 8) : s.elapse.turn r = s.turn r := rfl

theorem linkElapse_eq (u : LinkUnit) :
    u.elapse =
      { u with
        holdOffWait := u.holdOffWait.map fun f => f - 1
        unclassed := if u.state ≠ .down ∧ 1 ≤ u.unclassed then u.unclassed + 1 else 1
        presented := if u.state = .down then u.presented.map fun _ => 0x00#8 else u.presented } := by
  simp [LinkUnit.elapse, LinkUnit.silent, LinkUnit.presentSilence]

/-- Settles O3: every place of the state a frame period later, and each command among those due. -/
theorem idleStepIsOneFramePeriod : Obligations.IdleStepIsOneFramePeriod := by
  intro s hpending hlow
  have hsecond : s.framePeriod.secondLeft = s.secondLeft - 1 := by rw [framePeriod_frame hlow]; rfl
  refine ⟨s.framePeriod, by rw [step, hpending], by rw [framePeriod_frame hlow]; rfl, fun l => ?_, fun n => ?_, fun p => ?_,
    ?_, fun l => ?_, fun l bits => ?_, fun r => ⟨?_, ?_, ?_⟩, fun n => ?_, fun p => ?_, fun l => ?_, ?_⟩
  · rw [framePeriod_link hlow, linkElapse_eq]
  · rw [framePeriod_call hlow]; rfl
  · rw [framePeriod_door hlow]; rfl
  · simp [mem_framePeriod hlow]
  · simp [mem_framePeriod hlow]
  · rw [mem_framePeriod hlow]; simp [and_comm]
  · rw [mem_framePeriod hlow]; simp [elapse_turn, timedOut_iff, and_assoc]
  · rw [mem_framePeriod hlow]; simp [elapse_turn, overrun_iff, and_assoc]
  · rw [mem_framePeriod hlow]; simp [elapse_link, linkElapse_eq]
  · rw [framePeriod_call hlow]; simp only [mem_framePeriod hlow]; simp [elapse_call]
  · rw [framePeriod_door hlow]; simp only [mem_framePeriod hlow]; simp [elapse_door]
  · rw [framePeriod_link hlow, mem_framePeriod hlow]; simp [elapse_link]
  · rw [hsecond, mem_framePeriod hlow]; simp [State.elapse]

/-! ### O4: POWER_ON and RESET_ASSERTED -/

/-- Settles O4: the power-on values place by place, and the lines alone at RESET. -/
theorem powerOnAndResetAsserted : Obligations.PowerOnAndResetAsserted := by
  intro s
  refine ⟨⟨_, rfl, rfl, rfl, rfl, fun l => ?_, reset_call, rfl, reset_handset, reset_station, reset_position,
    reset_scheduler, reset_channel, reset_seekQueue, rfl, rfl, reset_door, rfl, rfl, rfl, rfl, rfl, rfl, rfl, rfl⟩,
    ⟨_, rfl, rfl, fun l => tableMap_link _ _ l, fun l u h => ?_⟩⟩
  · have e := reset_link l
    exact ⟨e, congrArg LinkUnit.state e, congrArg LinkUnit.rx e, congrArg LinkUnit.tx e⟩
  · cases h; rfl

/-! ### O27: the level meters and the hang counter -/

theorem hangRunsOut_of_talking {s : State} {n : CallNo} {v : Voice} (hstate : (s.call n).state = .talking)
    (hvoice : (s.call n).voice = some v) :
    s.hangRunsOut n =
      if v.mode = .switched ∧ v.direction ≠ .neutral ∧ v.hang = 0 ∧
          (directionDecision s.params v.direction v.originMeter v.answererMeter v.hang).1 = .neutral then
        s.setCall n { s.call n with voice := some { v with direction := .neutral } }
      else s := by simp only [State.hangRunsOut, hstate, hvoice]

/-- A side that holds the direction with its hang counter run out gives it up below the threshold, where the other side does
not break in (R116). -/
theorem holdDecision_zero {p : Params} {held taken : Direction} (own other : Nat) (hheld : held ≠ .neutral)
    (htaken : taken ≠ .neutral) :
    (holdDecision p held taken own other 0).1 = .neutral ↔
      own < p.speechThreshold ∧ ¬ (p.speechThreshold ≤ other ∧ 2 * own < other) := by
  unfold holdDecision
  split
  next h => simp [h, htaken]
  next h =>
    split
    next h' => simp [hheld, h']
    next h' => simp [h, Nat.lt_of_not_le h']

/-- Settles O27. -/
theorem metersAndHangCounter : Obligations.MetersAndHangCounter := by
  refine ⟨fun level x => ⟨fun h => ?_, fun h h32 => ?_, fun h h0 h32 => ?_, fun h hx => ?_, meterAfter_le (le_max_left ..) (le_max_right ..)⟩,
    fun s n v hstate hvoice => ?_, fun s n h => ?_⟩
  · simp [meterAfter, h]
  · have h1 : ¬ level < x := by omega
    have h2 : level ≠ 0 := by omega
    have h3 : level / 32 ≠ 0 := by omega
    simp [meterAfter, h1, h2, h3]
  · have h1 : ¬ level < x := by omega
    have h2 : level ≠ 0 := by omega
    have h3 : level / 32 = 0 := by omega
    rw [meterAfter, if_neg h1, if_neg h2, if_pos h3]
    omega
  · simp [meterAfter, h, hx]
  · refine congrArg Host.Outcome.next ((hangRunsOut_of_talking hstate hvoice).trans (if_congr ?_ rfl rfl))
    refine and_congr_right fun _ => and_congr_right fun hdir => and_congr_right fun hhang => ?_
    rw [hhang]
    cases hd : v.direction with
    | neutral => exact absurd hd hdir
    | entrance => simpa [directionDecision] using holdDecision_zero v.originMeter v.answererMeter (by decide) (by decide)
    | inside => simpa [directionDecision] using holdDecision_zero v.answererMeter v.originMeter (by decide) (by decide)
  · refine congrArg Host.Outcome.next ?_
    unfold State.hangRunsOut
    split
    next v hstate hvoice => obtain h | h := h <;> simp_all
    next => rfl

end Sys2Proof.Machine
end

section
/-!
PROOF. What is sent comes back: a message through escaping and assembly, octets through the receiver (O18), a directory entry
through its payload (O19); and what the check of a frame finds (O22).
-/

namespace Sys2Proof.Machine

/-! ### Escaping and assembly (R158 to R161) -/

/-- An assembly stage that collects a body, at no escape. -/
def Assembly.collected (body : List Octet) : Assembly := { stage := .collecting, body := body, escape := false }

theorem flipped_octet {o : Octet} (h : o = Config.delimiter ∨ o = Config.escape) :
    o ^^^ 0x20#8 ≠ Config.delimiter ∧ o ^^^ 0x20#8 ≠ Config.escape ∧ o ^^^ 0x20#8 ^^^ 0x20#8 = o := by
  obtain rfl | rfl := h <;> decide

/-- One escaped octet, fed to a stage that collects. -/
theorem feed_escapeOctet {body : List Octet} (h : body.length < 28) (o : Octet) :
    (escapeOctet o).foldl (fun a x => (a.feed x).1) (Assembly.collected body) = Assembly.collected (body ++ [o]) := by
  have hlen : ¬ 28 ≤ body.length := by omega
  unfold escapeOctet
  split
  next ho =>
    obtain ⟨hd, -, hback⟩ := flipped_octet ho
    have hesc : Config.escape ≠ Config.delimiter := by decide
    simp [Assembly.collected, Assembly.feed, hesc, hd, hlen, hback]
  next ho =>
    obtain ⟨hd, he⟩ := not_or.mp ho
    simp [Assembly.collected, Assembly.feed, hd, he, hlen]

/-- The first escaped octet, fed to a stage in OPEN. -/
theorem feed_escapeOctet_open (o : Octet) :
    (escapeOctet o).foldl (fun a x => (a.feed x).1) Assembly.openStage = Assembly.collected [o] := by
  unfold escapeOctet
  split
  next ho =>
    obtain ⟨hd, -, hback⟩ := flipped_octet ho
    have hesc : Config.escape ≠ Config.delimiter := by decide
    simp [Assembly.collected, Assembly.openStage, Assembly.feed, hesc, hd, hback]
  next ho =>
    obtain ⟨hd, he⟩ := not_or.mp ho
    simp [Assembly.collected, Assembly.openStage, Assembly.feed, hd, he]

theorem feed_escaped {body os : List Octet} (h : body.length + os.length ≤ 28) :
    (os.flatMap escapeOctet).foldl (fun a x => (a.feed x).1) (Assembly.collected body) =
      Assembly.collected (body ++ os) := by
  induction os generalizing body with
  | nil => simp
  | cons o os ih =>
    simp only [List.length_cons] at h
    rw [List.flatMap_cons, List.foldl_append, feed_escapeOctet (by omega), ih (by simp; omega)]
    simp

theorem feed_escaped_open {o : Octet} {os : List Octet} (h : os.length ≤ 27) :
    ((o :: os).flatMap escapeOctet).foldl (fun a x => (a.feed x).1) Assembly.openStage = Assembly.collected (o :: os) := by
  rw [List.flatMap_cons, List.foldl_append, feed_escapeOctet_open, feed_escaped (by simp; omega)]
  rfl

@[simp] theorem crcOctets_length (os : List Octet) : (crcOctets os).length = 2 := rfl

theorem body_eq_cons (m : Message) : m.body = m.addr :: (m.type :: m.payload ++ crcOctets m.content) := rfl

@[simp] theorem body_length (m : Message) : m.body.length = m.payload.length + 4 := by
  simp [Message.body, Message.content]

/-- A whole body is judged good, and the message comes back (R161). -/
theorem judgeBody_body (m : Message) : judgeBody m.body false = some m := by
  have hlen : m.body.length - 2 = m.content.length := by simp [Message.content]
  have hshort : ¬ (false = true ∨ m.body.length < 4) := by simp
  rw [judgeBody, if_neg hshort, hlen]
  simp [Message.body, Message.content]

/-! ### The receiver over a line cut in two (R142) -/

theorem bits_append (t : Nat) (r : Receiver) (as bs : List Bool) :
    Receiver.bits t r (as ++ bs) =
      ((Receiver.bits (t + as.length) (Receiver.bits t r as).1 bs).1,
        (Receiver.bits t r as).2 ++ (Receiver.bits (t + as.length) (Receiver.bits t r as).1 bs).2) := by
  induction as generalizing t r with
  | nil => simp [Receiver.bits]
  | cons a as ih => simp [Receiver.bits, ih, Nat.add_assoc, Nat.add_comm 1]

theorem bit_later (t n : Nat) (r : Receiver) (b : Bool) :
    (r.later n).bit t b = (((r.bit (t + n) b).1).later n, (r.bit (t + n) b).2.map (Arrival.later n)) := by
  cases r with
  | rest => cases b <;> simp [Receiver.bit, Receiver.later]
  | broken => cases b <;> simp [Receiver.bit, Receiver.later]
  | data start bits =>
    by_cases h : bits.length < 8
    · simp [Receiver.bit, Receiver.later, h]
    · cases b <;> simp [Receiver.bit, Receiver.later, h, Arrival.later]

/-- The places of a period count from the one before it, `n` line bits further on. -/
theorem bits_later (t n : Nat) (r : Receiver) (bs : List Bool) :
    Receiver.bits t (r.later n) bs =
      ((Receiver.bits (t + n) r bs).1.later n, (Receiver.bits (t + n) r bs).2.map (Arrival.later n)) := by
  induction bs generalizing t r with
  | nil => simp [Receiver.bits]
  | cons b bs ih => simp [Receiver.bits, bit_later, ih, Nat.add_right_comm t n 1]

theorem arrivals_octets (os : List Octet) :
    (os.zipIdx.map fun x => (⟨(10 * x.2 : Nat), x.1⟩ : Arrival)).map (·.octet) = os := by
  simp [Function.comp_def, List.zipIdx_map_fst]

theorem arrivals_starts (os : List Octet) :
    (os.zipIdx.map fun x => (⟨(10 * x.2 : Nat), x.1⟩ : Arrival)).map (·.start) =
      (List.range os.length).map fun i => ((10 * i : Nat) : Int) := by
  have h : os.zipIdx.map Prod.snd = List.range os.length := by simp [List.range_eq_range']
  rw [← h, List.map_map, List.map_map]
  rfl

/-- A line of octets cut at any bit by the end of a period. -/
theorem receiver_cut (os : List Octet) {k : Nat} (hk : k ≤ (lineBits os).length) :
    let x := Receiver.period .rest ((lineBits os).take k)
    let y := Receiver.period x.1 ((lineBits os).drop k)
    y.1 = .rest ∧
      x.2 ++ y.2.map (fun a => { a with start := a.start + k }) =
        os.zipIdx.map fun x => (⟨(10 * x.2 : Nat), x.1⟩ : Arrival) := by
  have hwhole := receiver_lineBits 0 os []
  rw [List.append_nil, ← List.take_append_drop k (lineBits os), bits_append] at hwhole
  have hlen : ((lineBits os).take k).length = k := by simpa using hk
  rw [hlen, Nat.zero_add] at hwhole
  obtain ⟨hrest, harrivals⟩ := Prod.mk.inj hwhole
  have hlater : ∀ as : List Arrival, (as.map (Arrival.later k)).map (fun a => { a with start := a.start + k }) = as := by
    intro as
    simp [Function.comp_def, Arrival.later]
  refine ⟨?_, ?_⟩
  · simp only [Receiver.period, hlen, bits_later, Nat.zero_add, hrest]
    rfl
  · simp only [Receiver.period, hlen, bits_later, Nat.zero_add, hlater, harrivals]
    simp [Receiver.bits]

theorem receiver_broken (t j : Nat) (rest : List Bool) :
    Receiver.bits t .broken (List.replicate j false ++ true :: rest) = Receiver.bits (t + j + 1) .rest rest := by
  induction j generalizing t with
  | zero => simp [Receiver.bits, Receiver.bit]
  | succ j ih => simp [List.replicate_succ, Receiver.bits, Receiver.bit, ih, Nat.add_assoc, Nat.add_comm 1]

theorem receiver_stop (t k : Nat) (rest : List Bool) :
    Receiver.bits t .rest (List.replicate k true ++ rest) = Receiver.bits (t + k) .rest rest := by
  induction k generalizing t with
  | zero => simp
  | succ k ih => simp [List.replicate_succ, Receiver.bits, Receiver.bit, ih, Nat.add_assoc, Nat.add_comm 1]

/-- An octet whose stop bit arrives as 0, and the octets after it. -/
theorem receiver_brokenOctet (o : Octet) (os : List Octet) (j k : Nat) :
    let x := Receiver.period .rest
      ((octetBits o).take 9 ++ List.replicate (j + 1) false ++ List.replicate (k + 1) true ++ lineBits os)
    x.1 = .rest ∧ x.2.map (·.octet) = o :: os := by
  have hbits : (octetBits o).take 9 ++ List.replicate (j + 1) false ++ List.replicate (k + 1) true ++ lineBits os =
      false :: ((List.range 8).map o.getLsbD ++
        false :: (List.replicate j false ++ true :: (List.replicate k true ++ (lineBits os ++ [])))) := by
    simp [octetBits, List.replicate_succ]
  simp only [hbits, Receiver.period, receiver_octet, receiver_broken, receiver_stop, receiver_lineBits, Bool.false_eq_true,
    if_false]
  simp [Receiver.bits, Receiver.later, Function.comp_def]

/-- Settles O18: what the escaping, the assembly stage and the receiver make of what is sent. -/
theorem messageLineRoundTrip : Obligations.MessageLineRoundTrip := by
  refine ⟨fun m hm => ?_, fun os k => ?_, fun os k hk => ?_, receiver_brokenOctet⟩
  · refine ⟨m.body.flatMap escapeOctet, rfl, ?_, judgeBody_body m⟩
    have hfed : (m.body.flatMap escapeOctet).foldl (fun a x => (a.feed x).1) Assembly.openStage =
        Assembly.collected m.body := by
      rw [body_eq_cons]
      exact feed_escaped_open (by simp; omega)
    rw [hfed]
    rfl
  · simp only [receiver_period]
    exact ⟨trivial, arrivals_octets os, arrivals_starts os⟩
  · obtain ⟨hrest, harrivals⟩ := receiver_cut os hk
    refine ⟨hrest, ?_, ?_⟩
    · have h := congrArg (List.map Arrival.octet) harrivals
      rw [arrivals_octets, List.map_append, List.map_map] at h
      rw [List.map_append]
      exact h
    · have h := congrArg (List.map Arrival.start) harrivals
      rw [arrivals_starts, List.map_append, List.map_map] at h
      exact h

/-! ### O22: the check of a frame -/

theorem octetSum_eq_sum (os : List Octet) : octetSum os = os.sum := (List.sum_eq_foldl ..).symm

theorem octetSum_append_check (os : List Octet) : octetSum (os ++ [checkOctet os]) = 0#8 := by
  have h : ∀ a : Octet, a + (0#8 - a) = 0#8 := by decide
  rw [checkOctet, octetSum, List.foldl_append]
  exact h _

/-- The octets of a frame after its marker. -/
def frameInner (status sig1 sig2 : Octet) (voice : List Octet) : List Octet := [status, sig1, sig2] ++ voice

theorem frameOf_eq_cons (status sig1 sig2 : Octet) (voice : List Octet) :
    frameOf status sig1 sig2 voice =
      Config.marker ::
        (frameInner status sig1 sig2 voice ++ [checkOctet (frameInner status sig1 sig2 voice)]) := rfl

theorem frameOf_length (status sig1 sig2 : Octet) (voice : List Octet) :
    (frameOf status sig1 sig2 voice).length = voice.length + 5 := by simp [frameOf]

theorem frameClass_frameOf {l : LinkId} {voice : List Octet} (status sig1 sig2 : Octet)
    (h : voice.length = l.voiceChannels) : frameClass l (frameOf status sig1 sig2 voice) = .good := by
  have hlen := frameOf_length status sig1 sig2 voice
  rw [frameOf_eq_cons] at hlen ⊢
  simp only [frameClass, ne_eq, not_true_eq_false, if_false, octetSum_append_check, and_true]
  rw [if_pos (by rw [hlen, h, LinkId.frameOctets]; omega)]

/-- One octet changed changes the sum by the change. -/
theorem octetSum_set {os : List Octet} {i : Nat} {o : Octet} (hi : i < os.length) (ho : o ≠ os[i])
    (hsum : octetSum os = 0#8) : octetSum (os.set i o) ≠ 0#8 := by
  rw [octetSum_eq_sum] at hsum ⊢
  rw [List.sum_set' os i o, hsum, dif_pos hi]
  have h : ∀ a b : Octet, a ≠ b → 0#8 + (-b + a) ≠ 0#8 := by
    intro a b hab h
    apply hab
    bv_omega
  exact h _ _ ho

/-- Settles O22. -/
theorem frameCheckFindsOneWrongOctet : Obligations.FrameCheckFindsOneWrongOctet := by
  intro l status sig1 sig2 voice hvoice
  refine ⟨frameClass_frameOf status sig1 sig2 hvoice, fun i o hi hlt ho => ?_⟩
  obtain ⟨i, rfl⟩ : ∃ k, i = k + 1 := ⟨i - 1, by omega⟩
  rw [frameOf_eq_cons] at ho ⊢
  have hlt' : i < (frameInner status sig1 sig2 voice ++ [checkOctet (frameInner status sig1 sig2 voice)]).length := by
    rw [LinkId.frameOctets, ← hvoice] at hlt
    simp [frameInner]
    omega
  have hne : o ≠ (frameInner status sig1 sig2 voice ++ [checkOctet (frameInner status sig1 sig2 voice)])[i] := by
    rw [List.getD_cons_succ, List.getD_eq_getElem _ _ hlt'] at ho
    exact ho
  simp only [List.set_cons_succ, frameClass, ne_eq, not_true_eq_false, if_false]
  exact if_neg fun h => octetSum_set hlt' hne (octetSum_append_check _) h.2

/-! ### O19: the payload of an entry -/

theorem placesOctet_places {hi lo : Nat} (hhi : hi ≤ 15) (hlo : lo ≤ 15) :
    (placesOctet hi lo).toNat / 16 = hi ∧ (placesOctet hi lo).toNat % 16 = lo := by
  have h : (placesOctet hi lo).toNat = hi * 16 + lo := by
    rw [placesOctet, BitVec.toNat_ofNat, Nat.mod_eq_of_lt (by omega)]
  rw [h]
  omega

/-- The code field that carries a code. -/
def fieldOf (c : Code) : CodeField :=
  ⟨BitVec.ofNat 8 c.length, placesOctet (c.getD 0 15) (c.getD 1 15), placesOctet (c.getD 2 15) (c.getD 3 15),
    placesOctet (c.getD 4 15) (c.getD 5 15)⟩

theorem fieldOf_length {c : Code} (h : c.length ≤ 6) : (fieldOf c).length.toNat = c.length := by
  rw [fieldOf, BitVec.toNat_ofNat, Nat.mod_eq_of_lt (by omega)]

theorem fieldOf_digits {ds : Code} (hlen : ds.length ≤ 6) (hdigits : ∀ d ∈ ds, d ≤ 9) : (fieldOf ds).digits = ds := by
  have hplace : ∀ i, ds.getD i 15 ≤ 15 := by
    intro i
    rw [List.getD_eq_getElem?_getD]
    cases h : ds[i]? with
    | none => exact le_rfl
    | some d => exact (hdigits d (List.mem_of_getElem? h)).trans (by decide)
  have hplaces : (fieldOf ds).places = (List.range 6).map fun i => ds.getD i 15 := by
    simp only [CodeField.places, fieldOf, placesOctet_places (hplace _) (hplace _)]
    rfl
  rw [CodeField.digits, fieldOf_length hlen, hplaces]
  refine List.ext_getElem (by simp; omega) fun i hi hds => ?_
  simp [List.getElem?_eq_getElem hds]

/-- A code comes back from the field that carries it (R175). -/
theorem code_fieldOf {c : Code} (hpos : 1 ≤ c.length) (hlen : c.length ≤ 6) (hdigits : ∀ d ∈ c, d ≤ 9) :
    (fieldOf c).code = some c := by
  have hd := fieldOf_digits hlen hdigits
  have h := code_of_good (f := fieldOf c) (by rw [fieldOf_length hlen, hd]; exact ⟨hpos, hlen, hdigits⟩)
  rwa [hd] at h

theorem flagOfOctet_flagOctet (b : Bool) : flagOfOctet (flagOctet b) = some b := by cases b <;> rfl

theorem targetOf_octets (t : Fin 8 × Fin 63) : targetOf (BitVec.ofNat 8 t.1.val) (BitVec.ofNat 8 t.2.val) = some t := by
  have h1 : (BitVec.ofNat 8 t.1.val).toNat = t.1.val := by rw [BitVec.toNat_ofNat, Nat.mod_eq_of_lt (by omega)]
  have h2 : (BitVec.ofNat 8 t.2.val).toNat = t.2.val := by rw [BitVec.toNat_ofNat, Nat.mod_eq_of_lt (by omega)]
  have h : (BitVec.ofNat 8 t.1.val).toNat < 8 ∧ (BitVec.ofNat 8 t.2.val).toNat < 63 := by omega
  rw [targetOf, dif_pos h]
  exact congrArg some (Prod.ext (Fin.ext h1) (Fin.ext h2))

theorem targetsOf_targetOctets (ts : List (Fin 8 × Fin 63)) (more : List Octet) :
    targetsOf ts.length (targetOctets ts ++ more) = some ts := by
  induction ts with
  | nil => rfl
  | cons t ts ih =>
    have h : targetOctets (t :: ts) ++ more =
        BitVec.ofNat 8 t.1.val :: BitVec.ofNat 8 t.2.val :: (targetOctets ts ++ more) := rfl
    rw [h, List.length_cons]
    simp only [targetsOf, targetOf_octets, ih]

theorem toNat_ofNat_octet {n : Nat} (h : n < 256) : (BitVec.ofNat 8 n).toNat = n := by
  rw [BitVec.toNat_ofNat, Nat.mod_eq_of_lt h]

/-- The FLAT fields of an entry come back from their octets. -/
theorem flatBodyOf_octets {ts : List (Fin 8 × Fin 63)} {alert : Nat} (f c d : Bool) (more : List Octet)
    (hpos : 1 ≤ ts.length) (hlen : ts.length ≤ 4) (hnodup : ts.Nodup) (halert : alert = 0 ∨ (5 ≤ alert ∧ alert ≤ 120)) :
    flatBodyOf (flagOctet f) (flagOctet c) (flagOctet d) (BitVec.ofNat 8 alert) (BitVec.ofNat 8 ts.length)
      (targetOctets ts ++ more) = some (.flat ts f c d alert) := by
  have hcount : (BitVec.ofNat 8 ts.length).toNat = ts.length := toNat_ofNat_octet (by omega)
  have htime : (BitVec.ofNat 8 alert).toNat = alert := toNat_ofNat_octet (by omega)
  rw [flatBodyOf, hcount, htime, if_pos ⟨hpos, hlen, halert⟩]
  simp only [targetsOf_targetOctets, flagOfOctet_flagOctet, hnodup, if_true]

theorem entrances_setWidth {x : BitVec 4} (h : x ≠ 0#4) :
    (1 ≤ (x.setWidth 8).toNat ∧ (x.setWidth 8).toNat ≤ 15) ∧ (x.setWidth 8).setWidth 4 = x := by
  revert x; decide

/-- Settles O19: each field of the entry comes back from its octets. -/
theorem entryPayloadRoundTrip : Obligations.EntryPayloadRoundTrip := by
  rintro ⟨code, entrances, body⟩ more ⟨hpos, hlen, hdigits, hentrances, hbody⟩
  obtain ⟨hrange, hback⟩ := entrances_setWidth hentrances
  have hcode : (fieldOf code).code = some code := code_fieldOf hpos hlen hdigits
  have hentry : ∀ (b : EntryBody),
      (match (fieldOf code).code, some b with
       | some c, some b =>
         if 1 ≤ (entrances.setWidth 8).toNat ∧ (entrances.setWidth 8).toNat ≤ 15 then
           some (⟨c, (entrances.setWidth 8).setWidth 4, b⟩ : Entry)
         else none
       | _, _ => none) = some ⟨code, entrances, b⟩ := by
    intro b
    simp only [hcode, if_pos hrange, hback]
  cases body with
  | flat ts f c d alert =>
    obtain ⟨hcount, hfour, hnodup, halert⟩ := hbody
    have hflat := flatBodyOf_octets f c d more hcount hfour hnodup halert
    refine Eq.trans ?_ (hentry (.flat ts f c d alert))
    rw [← hflat]
    rfl
  | access uses =>
    refine Eq.trans ?_ (hentry (.access uses))
    have huses : (BitVec.ofNat 8 uses).toNat = uses := toNat_ofNat_octet (Nat.lt_succ_of_le hbody)
    rw [show some (EntryBody.access uses) = some (.access (BitVec.ofNat 8 uses).toNat) by rw [huses]]
    rfl
  | desk => exact hentry .desk
  | barred => exact hentry .barred

end Sys2Proof.Machine
end

section
/-!
PROOF. Messages put where there is room: a state with messages sent is kept apart into the state the work has written and
the messages in their order, so that what a command answers can be computed (R166, R180, R189).
-/

namespace Sys2Proof.Machine

/-! ### A state with messages sent -/

/-- The link units with messages joined to their transmit queues. -/
def sentLinks (links : Vector LinkUnit 13) (out : List (LinkId × Message)) : Vector LinkUnit 13 :=
  out.foldl (fun v x => v.set x.1.index ((v[x.1.index]).withTx [x.2])) links

/-- A state with messages sent, and nothing else changed. -/
def State.sent (s : State) (out : List (LinkId × Message)) : State := { s with links := sentLinks s.links out }

@[simp] theorem sent_nil (s : State) : s.sent [] = s := rfl

theorem sent_sent (s : State) (a b : List (LinkId × Message)) : (s.sent a).sent b = s.sent (a ++ b) := by
  simp [State.sent, sentLinks]

theorem sent_singleton (s : State) (l : LinkId) (m : Message) : s.sent [(l, m)] = s.setLink l ((s.link l).withTx [m]) := rfl

theorem outFor_append (k : LinkId) (a b : List (LinkId × Message)) : outFor k (a ++ b) = outFor k a ++ outFor k b := by
  simp [outFor]

theorem sent_link (s : State) (out : List (LinkId × Message)) (k : LinkId) :
    (s.sent out).link k = (s.link k).withTx (outFor k out) := by
  induction out generalizing s with
  | nil => simp
  | cons x out ih =>
    obtain ⟨l, m⟩ := x
    have h : s.sent ((l, m) :: out) = (s.sent [(l, m)]).sent out := by rw [sent_sent]; rfl
    rw [h, ih, sent_singleton]
    by_cases hk : k = l
    · subst hk; rw [setLink_link_self, outFor_cons_self, withTx_withTx]; rfl
    · rw [setLink_link_ne _ _ hk, outFor_cons_ne m out (Ne.symm hk)]

@[simp] theorem sent_call (s : State) (out : List (LinkId × Message)) (n : CallNo) : (s.sent out).call n = s.call n := rfl
@[simp] theorem sent_params (s : State) (out : List (LinkId × Message)) : (s.sent out).params = s.params := rfl
@[simp] theorem sent_maskedPending (s : State) (out : List (LinkId × Message)) :
    (s.sent out).maskedPending = s.maskedPending := rfl

/-- A rewriting of a link unit under the messages sent on it. -/
theorem setLink_sent (s : State) (out : List (LinkId × Message)) (l : LinkId) (u : LinkUnit) :
    (s.sent out).setLink l (u.withTx (outFor l out)) = (s.setLink l u).sent out := by
  have hlinks : ((s.sent out).setLink l (u.withTx (outFor l out))).links = ((s.setLink l u).sent out).links := by
    refine links_ext fun k => ?_
    show ((s.sent out).setLink l (u.withTx (outFor l out))).link k = ((s.setLink l u).sent out).link k
    rw [setLink_link, sent_link, sent_link, setLink_link]
    split
    next h => rw [h]
    next => rfl
  exact congrArg (fun v => ({ s with links := v } : State)) hlinks

/-! ### Room -/

theorem room_of_append_left {s : State} {a b : List (LinkId × Message)} (h : s.Room (a ++ b)) : s.Room a := by
  intro x hx
  obtain ⟨hup, hlen⟩ := h x (List.mem_append_left _ hx)
  rw [outFor_append, List.length_append] at hlen
  exact ⟨hup, by omega⟩

/-- Room depends on the state and the transmit queue of each link unit. -/
theorem room_congr {s u : State} {out : List (LinkId × Message)}
    (h : ∀ k, (u.link k).state = (s.link k).state ∧ (u.link k).tx = (s.link k).tx) (hs : s.Room out) : u.Room out := by
  intro x hx
  rw [(h x.1).1, (h x.1).2]
  exact hs x hx

theorem room_of_links {s u : State} {out : List (LinkId × Message)} (h : u.links = s.links) (hs : s.Room out) :
    u.Room out :=
  room_congr (fun k => by rw [link_eq_of_links_eq h k]; exact ⟨rfl, rfl⟩) hs

@[simp] theorem room_nil (s : State) : s.Room [] := fun _ hx => absurd hx List.not_mem_nil

/-- One message more, put where there is room for it. -/
theorem put_sent {s : State} {out : List (LinkId × Message)} {l : LinkId} {m : Message} (h : s.Room (out ++ [(l, m)])) :
    (s.sent out).put l m = s.sent (out ++ [(l, m)]) := by
  obtain ⟨hup, hlen⟩ := h (l, m) (by simp)
  rw [outFor_append, List.length_append, outFor_cons_self] at hlen
  rw [put_of_room m (by rw [sent_link]; exact hup)
    (by rw [sent_link]; simp only [LinkUnit.withTx, List.length_append, List.length_cons] at hlen ⊢; omega), ← sent_sent]
  rfl

theorem put_of_room_sent {s : State} {l : LinkId} {m : Message} (h : s.Room [(l, m)]) : s.put l m = s.sent [(l, m)] :=
  put_sent (out := []) h

/-! ### The end of an event -/

/-- The ATTENTION that a change of the masked pending set brings (R189). -/
def noticeOf (before after : State) : List (LinkId × Message) :=
  if gains before.maskedPending after.maskedPending then [(.trunk, attentionMsg after.maskedPending)] else []

theorem noticeOf_of_kept {s u : State} (h : u.maskedPending = s.maskedPending) : noticeOf s u = [] := by
  rw [noticeOf, h, gains_self]; rfl

/-- The classes raised bring the ATTENTION of the claims. -/
theorem noticeOf_raised {s u : State} {set : Octet} (ha : u.attention = s.attention ||| set) (hp : u.params = s.params) :
    noticeOf s u = s.notice set := by
  have hgains : gains s.maskedPending u.maskedPending = true ↔
      set &&& ~~~s.attention &&& s.params.noticeMask.setWidth 8 ≠ 0#8 := by
    simp only [gains, State.maskedPending, ha, hp, bne_iff_ne, ne_eq]
    refine not_congr ?_
    rw [show ∀ x y z : Octet, (x ||| y) &&& z &&& ~~~(x &&& z) = y &&& ~~~x &&& z from by
      intro x y z
      ext i hi
      simp only [BitVec.getElem_and, BitVec.getElem_or, BitVec.getElem_not]
      cases x[i] <;> cases y[i] <;> cases z[i] <;> rfl]
  rw [noticeOf, State.notice]
  refine if_congr hgains ?_ rfl
  rw [State.maskedPending, ha, hp]

/-- The end of an event, with room for the ATTENTION it brings. -/
theorem settle_sent {s u : State} {out : List (LinkId × Message)} (hroom : u.Room (out ++ noticeOf s u)) :
    (u.sent out).settle s = u.sent (out ++ noticeOf s u) := by
  unfold noticeOf at hroom ⊢
  cases hg : gains s.maskedPending u.maskedPending with
  | false =>
    rw [settle_of_not_gains (by rw [sent_maskedPending, hg])]
    simp
  | true =>
    rw [hg] at hroom
    simp only [State.settle, sent_maskedPending, hg, if_true, put_sent hroom, gains_self, Bool.false_eq_true, if_false]

/-! ### Deliveries and requests -/

theorem room_arrived_iff {s : State} {l : LinkId} {m : Message} {out : List (LinkId × Message)} :
    (s.arrived l m).Room out ↔ s.Room out := by
  have hkept : ∀ k, ((s.arrived l m).link k).state = (s.link k).state ∧ ((s.arrived l m).link k).tx = (s.link k).tx := by
    intro k
    unfold State.arrived
    split
    · rw [setLink_link]
      split
      next h => subst h; exact ⟨rfl, rfl⟩
      next => exact ⟨rfl, rfl⟩
    · exact ⟨rfl, rfl⟩
  exact ⟨room_congr fun k => ⟨(hkept k).1.symm, (hkept k).2.symm⟩, room_congr hkept⟩

theorem removeHead_sent {u : State} {l : LinkId} {m : Message} {out : List (LinkId × Message)}
    (hhead : (u.link l).rx.head? = some (.message m)) :
    (u.sent out).removeHead l (.message m) = (u.setLink l (u.link l).dropHead).sent out := by
  have hkept : ((u.sent out).link l).rx = (u.link l).rx := by rw [sent_link]; rfl
  rw [removeHead_of_head (by rw [hkept]; exact hhead), sent_link, dropHead_withTx, setLink_sent]

/-- A delivery whose effect writes `u` and sends `out`. -/
theorem deliver_sent {s u : State} {l : LinkId} {m : Message} {f : State → State} {out : List (LinkId × Message)}
    (hdel : s.deliverable l m = true) (hf : f (s.arrived l m) = u.sent out)
    (hhead : (u.link l).rx.head? = some (.message m)) (hroom : u.Room (out ++ noticeOf (s.arrived l m) u)) :
    s.deliver l m f = (u.setLink l (u.link l).dropHead).sent (out ++ noticeOf (s.arrived l m) u) := by
  rw [deliver_of_deliverable f hdel, hf, settle_sent hroom, removeHead_sent hhead]

/-- A request answered by work that writes `u` and sends `out`: the ATTENTION of its event, then its RESULT. -/
theorem answerRequest_sent {s u : State} {l : LinkId} {type : Octet} {a : Answer} {out : List (LinkId × Message)}
    (ha : a.state s = u.sent out) (hroom : u.Room (out ++ noticeOf s u ++ [(l, a.result type)])) :
    s.answerRequest l type a = u.sent (out ++ noticeOf s u ++ [(l, a.result type)]) := by
  unfold State.answerRequest
  simp only [ha, settle_sent (room_of_append_left hroom), put_sent hroom]
  exact settle_of_not_gains (by rw [sent_maskedPending, sent_maskedPending, gains_self])

theorem deliverRequest_sent {s u : State} {l : LinkId} {type : Octet} {args : List Octet} {judge : State → Answer}
    {a : Answer} {out : List (LinkId × Message)} (horigin : s.inOrigin l = true)
    (hdel : s.deliverable l (managementMsg type args) = true)
    (hjudge : judge (s.arrived l (managementMsg type args)) = a)
    (ha : a.state (s.arrived l (managementMsg type args)) = u.sent out)
    (hhead : (u.link l).rx.head? = some (.message (managementMsg type args)))
    (hroom : u.Room (out ++ noticeOf (s.arrived l (managementMsg type args)) u ++ [(l, a.result type)])) :
    s.deliverRequest l type args judge =
      (u.setLink l (u.link l).dropHead).sent
        (out ++ noticeOf (s.arrived l (managementMsg type args)) u ++ [(l, a.result type)]) := by
  have hanswer := answerRequest_sent ha hroom
  simp only [State.deliverRequest, horigin, hdel, hjudge, and_self, if_true, hanswer, removeHead_sent hhead]

/-! ### The claims' terms -/

/-- A state with other link units. -/
def State.relinked (s : State) (links : Vector LinkUnit 13) : State := { s with links := links }

@[simp] theorem relinked_call (s : State) (L : Vector LinkUnit 13) (n : CallNo) : (s.relinked L).call n = s.call n := rfl
@[simp] theorem relinked_door (s : State) (L : Vector LinkUnit 13) (p : Fin 4) : (s.relinked L).door p = s.door p := rfl
@[simp] theorem relinked_params (s : State) (L : Vector LinkUnit 13) : (s.relinked L).params = s.params := rfl

/-- Link units in the same states and with the same messages to send. -/
def State.Alike (s : State) (L : Vector LinkUnit 13) : Prop :=
  ∀ k, ((s.relinked L).link k).state = (s.link k).state ∧ ((s.relinked L).link k).tx = (s.link k).tx

theorem Alike.room {s : State} {L : Vector LinkUnit 13} {out : List (LinkId × Message)} (h : s.Alike L) (hs : s.Room out) :
    (s.relinked L).Room out := room_congr h hs

theorem alike_arrived (s : State) (l : LinkId) (m : Message) : s.Alike (s.arrived l m).links := by
  intro k
  have h : (s.relinked (s.arrived l m).links).link k = (s.arrived l m).link k := rfl
  rw [h]
  unfold State.arrived
  split
  · rw [setLink_link]
    split
    next h => subst h; exact ⟨rfl, rfl⟩
    next => exact ⟨rfl, rfl⟩
  · exact ⟨rfl, rfl⟩

theorem alike_self (s : State) : s.Alike s.links := fun _ => ⟨rfl, rfl⟩

theorem arrived_eq_relinked (s : State) (l : LinkId) (m : Message) :
    s.arrived l m = s.relinked (s.arrived l m).links := arrived_frame s l m

/-- What the message `m` of link `l` leaves once it is delivered, and what has been sent. -/
theorem deliversAndSends_sent {s u : State} {l : LinkId} {m : Message} {out : List (LinkId × Message)}
    (hlinks : u.links = (s.arrived l m).links) :
    DeliversAndSends s ((u.setLink l (u.link l).dropHead).sent out) l m out := by
  intro k
  rw [sent_link, setLink_link, link_eq_of_links_eq hlinks]
  congr 1
  split
  · rfl
  next hk => rw [link_eq_of_links_eq hlinks, arrived_link_ne s m hk]

/-- A delivery whose effect writes `u` beside the link units, sends `out` and brings the ATTENTION `notice`. -/
theorem exec_delivers {i : Instr} {s u : State} {l : LinkId} {m : Message} {f : State → State}
    {out notice : List (LinkId × Message)} (hexec : exec i s = .next (s.deliver l m f)) (hdel : s.deliverable l m = true)
    (hnotice : noticeOf s u = notice) (hroom : s.Room (out ++ notice))
    (hf : ∀ L, s.Alike L → f (s.relinked L) = (u.relinked L).sent out) :
    ∃ t, exec i s = .next t ∧ DeliversAndSends s t l m (out ++ notice) ∧ t = { u with links := t.links } := by
  have harrived := alike_arrived s l m
  have hf' : f (s.arrived l m) = (u.relinked (s.arrived l m).links).sent out := by
    rw [← hf _ harrived, ← arrived_eq_relinked]
  have hnotice' : noticeOf (s.arrived l m) (u.relinked (s.arrived l m).links) = notice := by
    rw [arrived_eq_relinked]; exact hnotice
  have hhead : ((u.relinked (s.arrived l m).links).link l).rx.head? = some (.message m) := arrived_head hdel
  have h := deliver_sent (u := u.relinked (s.arrived l m).links) hdel hf' hhead (by
    rw [hnotice']
    exact room_of_links (s := s.arrived l m) rfl (room_arrived_iff.mpr hroom))
  rw [hnotice'] at h
  rw [h] at hexec
  exact ⟨_, hexec, deliversAndSends_sent rfl, rfl⟩

/-- The same of a party's message. -/
theorem exec_party {i : Instr} {s u : State} {l : LinkId} {m : Message} {f : State → State}
    {out notice : List (LinkId × Message)} (hexec : exec i s = .next (s.deliverParty l m f))
    (haddr : m.addr ≠ Config.managementAddress) (hdel : s.deliverable l m = true)
    (hnotice : noticeOf s u = notice) (hroom : s.Room (out ++ notice))
    (hf : ∀ L, s.Alike L → f (s.relinked L) = (u.relinked L).sent out) :
    ∃ t, exec i s = .next t ∧ DeliversAndSends s t l m (out ++ notice) ∧ t = { u with links := t.links } := by
  rw [State.deliverParty, if_neg haddr] at hexec
  exact exec_delivers hexec hdel hnotice hroom hf

/-- A request whose work writes `u` beside the link units and sends `out`: then the ATTENTION, then the RESULT. -/
theorem exec_request {i : Instr} {s u : State} {l : LinkId} {k : Request} {args data : List Octet}
    {judge : State → Answer} {out notice : List (LinkId × Message)}
    (hexec : exec i s = .next (s.takeRequest k l args judge)) (horigin : s.inOrigin l = true)
    (hdel : s.deliverable l (managementMsg k.code args) = true) (hnotice : noticeOf s u = notice)
    (hroom : s.Room (out ++ notice ++ [(l, resultMsg k.code .ok data)]))
    (hf : ∀ L, s.Alike L → judge (s.relinked L) = .done ((u.relinked L).sent out) data) :
    ∃ t, exec i s = .next t ∧
      DeliversAndSends s t l (managementMsg k.code args) (out ++ notice ++ [(l, resultMsg k.code .ok data)]) ∧
      t = { u with links := t.links } := by
  have hjudge : judge (s.arrived l (managementMsg k.code args)) =
      .done ((u.relinked (s.arrived l (managementMsg k.code args)).links).sent out) data := by
    rw [← hf _ (alike_arrived s l _), ← arrived_eq_relinked]
  have hnotice' : noticeOf (s.arrived l (managementMsg k.code args))
      (u.relinked (s.arrived l (managementMsg k.code args)).links) = notice := by
    rw [arrived_eq_relinked]; exact hnotice
  have hhead : ((u.relinked (s.arrived l (managementMsg k.code args)).links).link l).rx.head? =
      some (.message (managementMsg k.code args)) := arrived_head hdel
  have h := deliverRequest_sent (u := u.relinked (s.arrived l (managementMsg k.code args)).links) horigin hdel hjudge rfl
    hhead (by
      rw [hnotice']
      exact room_of_links (s := s.arrived l (managementMsg k.code args)) rfl (room_arrived_iff.mpr hroom))
  rw [hnotice'] at h
  rw [State.takeRequest, h] at hexec
  exact ⟨_, hexec, deliversAndSends_sent rfl, rfl⟩

/-- A request that raises nothing and sends its RESULT alone. -/
theorem exec_request_quiet {i : Instr} {s u : State} {l : LinkId} {k : Request} {args data : List Octet}
    {judge : State → Answer} (hexec : exec i s = .next (s.takeRequest k l args judge)) (horigin : s.inOrigin l = true)
    (hdel : s.deliverable l (managementMsg k.code args) = true) (hquiet : u.maskedPending = s.maskedPending)
    (hroom : s.Room [(l, resultMsg k.code .ok data)])
    (hf : ∀ L, s.Alike L → judge (s.relinked L) = .done (u.relinked L) data) :
    ∃ t, exec i s = .next t ∧ DeliversAndSends s t l (managementMsg k.code args) [(l, resultMsg k.code .ok data)] ∧
      t = { u with links := t.links } :=
  exec_request (out := []) hexec horigin hdel (noticeOf_of_kept hquiet) hroom hf

/-- An event whose work writes `u` beside the link units, sends `out` and brings the ATTENTION `notice`. -/
theorem exec_event {i : Instr} {s u : State} {f : State → State} {out notice : List (LinkId × Message)}
    (hexec : exec i s = .next (s.event f)) (hnotice : noticeOf s u = notice) (hroom : s.Room (out ++ notice))
    (hf : f s = (u.relinked s.links).sent out) :
    ∃ t, exec i s = .next t ∧ Sends s t (out ++ notice) ∧ t = { u with links := t.links } := by
  have hnotice' : noticeOf s (u.relinked s.links) = notice := hnotice
  have h := settle_sent (s := s) (u := u.relinked s.links) (out := out)
    (by rw [hnotice']; exact room_of_links (s := s) rfl hroom)
  rw [hnotice'] at h
  have hevent : s.event f = (u.relinked s.links).sent (out ++ notice) := (congrArg (State.settle · s) hf).trans h
  rw [hevent] at hexec
  exact ⟨_, hexec, fun k => sent_link _ _ k, rfl⟩

end Sys2Proof.Machine
end

section
/-!
PROOF. The management requests that send no more than their RESULT: the ones no block serves (O44), the mode (O45), the
directory (O48, O50), what reads and writes the switch (O51, O52, O53), and the parameters (O47).
-/

namespace Sys2Proof.Machine

/-! ### Requests, from their judgement -/

/-- A request whose answer leaves the link units and the masked pending set alone. -/
theorem request_of_quiet {i : Instr} {s : State} {k : Request} {l : LinkId} {args : List Octet} {judge : State → Answer}
    {a : Answer} (hexec : exec i s = .next (s.takeRequest k l args judge)) (horigin : s.inOrigin l = true)
    (hdel : s.deliverable l (managementMsg k.code args) = true) (hjudge : judge (s.arrived l (managementMsg k.code args)) = a)
    (hq : a.Quiet (s.arrived l (managementMsg k.code args))) (hroom : s.Room [(l, a.result k.code)]) :
    ∃ t, exec i s = .next t ∧ DeliversAndSends s t l (managementMsg k.code args) [(l, a.result k.code)] ∧
      t = { a.state (s.arrived l (managementMsg k.code args)) with links := t.links } :=
  ⟨_, hexec, takeRequest_of_quiet horigin hdel hjudge hq hroom⟩

/-- A request that is turned down changes nothing. -/
theorem request_of_turnedDown {i : Instr} {s : State} {k : Request} {l : LinkId} {args : List Octet}
    {judge : State → Answer} {st : Status} (hexec : exec i s = .next (s.takeRequest k l args judge))
    (horigin : s.inOrigin l = true) (hdel : s.deliverable l (managementMsg k.code args) = true)
    (hjudge : judge (s.arrived l (managementMsg k.code args)) = .turnedDown st) (hroom : s.Room [(l, resultMsg k.code st [])]) :
    ∃ t, exec i s = .next t ∧ DeliversAndSends s t l (managementMsg k.code args) [(l, resultMsg k.code st [])] ∧
      t = { s with links := t.links } := by
  obtain ⟨t, ht, hsends, hframe⟩ := request_of_quiet hexec horigin hdel hjudge (quiet_turnedDown _ _) hroom
  rw [Answer.state, arrived_frame] at hframe
  exact ⟨t, ht, hsends, hframe⟩

/-- A request that reads: it is carried out and changes nothing. -/
theorem request_of_read {i : Instr} {s : State} {k : Request} {l : LinkId} {args data : List Octet}
    {judge : State → Answer} (hexec : exec i s = .next (s.takeRequest k l args judge))
    (horigin : s.inOrigin l = true) (hdel : s.deliverable l (managementMsg k.code args) = true)
    (hjudge : judge (s.arrived l (managementMsg k.code args)) = .done (s.arrived l (managementMsg k.code args)) data)
    (hroom : s.Room [(l, resultMsg k.code .ok data)]) :
    ∃ t, exec i s = .next t ∧ DeliversAndSends s t l (managementMsg k.code args) [(l, resultMsg k.code .ok data)] ∧
      t = { s with links := t.links } := by
  obtain ⟨t, ht, hsends, hframe⟩ := request_of_quiet hexec horigin hdel hjudge ⟨rfl, rfl⟩ hroom
  rw [Answer.state, arrived_frame] at hframe
  exact ⟨t, ht, hsends, hframe⟩

/-- The answer in the terms of `Answers`. -/
theorem answers_of_delivers {i : Instr} {s u : State} {l : LinkId} {m : Message} {out : List (LinkId × Message)}
    (h : s.Room out → ∃ t, exec i s = .next t ∧ DeliversAndSends s t l m out ∧ t = { u with links := t.links }) :
    Answers i s u (s.taking l m) out := fun hroom =>
  let ⟨t, ht, hsends, hframe⟩ := h hroom
  ⟨t, ht, hframe, hsends⟩

/-! ### O44: what no block serves -/

theorem deliverParty_eq_deliver {s : State} {l : LinkId} {m : Message} (f : State → State) (h : m.addr ≠ 63#8) :
    s.deliverParty l m f = s.deliver l m f := if_neg h

/-- A message discarded at its delivery counts one check error. -/
theorem deliver_countCheckError {s : State} {l : LinkId} {m : Message} (hdel : s.deliverable l m = true) :
    s.deliver l m (fun t => t.countCheckError l) =
      (s.arrived l m).setLink l
        { s.delivered l m with checkErrors := min ((s.link l).checkErrors + 1) 65535 } := by
  have hcount : ((s.arrived l m).link l).checkErrors = (s.link l).checkErrors := by
    unfold State.arrived
    split <;> simp
  have hsettle : ((s.arrived l m).countCheckError l).settle (s.arrived l m) = (s.arrived l m).countCheckError l :=
    settle_of_not_gains (gains_self _)
  rw [deliver_of_deliverable _ hdel, hsettle, removeHead_of_head (by simp [State.countCheckError, arrived_head hdel])]
  simp only [State.countCheckError, setLink_link_self, setLink_setLink, hcount, State.delivered, countUp, LinkUnit.dropHead]
  cases ((s.arrived l m).link l).holding <;> rfl

theorem discard_counts {s : State} {l : LinkId} {m : Message} (haddr : m.addr ≠ 63#8) (hfits : fitsCatalogue l m = false)
    (hdel : s.deliverable l m = true) :
    ∃ t, exec (.catalogueDiscard l m) s = .next t ∧ t = { s with links := t.links } ∧
      ∀ k, t.link k = if k = l then
        { s.delivered l m with checkErrors := min ((s.link l).checkErrors + 1) 65535 } else s.link k := by
  refine ⟨_, congrArg Host.Outcome.next ((if_neg (by simp [hfits])).trans
    ((deliverParty_eq_deliver _ haddr).trans (deliver_countCheckError hdel))), ?_, fun k => ?_⟩
  · rw [arrived_frame]; rfl
  · rw [setLink_link]
    split
    · rfl
    next hk => exact arrived_link_ne s m hk

theorem refuseManagement_sent {s : State} {l : LinkId} {type : Octet} (hroom : s.Room [(l, resultMsg type .refused [])]) :
    State.refuseManagement l type s =
      ({ s with refusals := min (s.refusals + 1) 65535, attention := s.attention ||| 0x04#8 } : State).sent
        [(l, resultMsg type .refused [])] := by
  unfold State.refuseManagement
  rw [put_of_room_sent hroom]
  rfl

theorem refused_answers {s : State} {l : LinkId} {type : Octet} {args : List Octet} (horigin : s.inOrigin l = false)
    (hdel : s.deliverable l (managementMsg type args) = true)
    (hroom : s.Room ((l, resultMsg type .refused []) :: s.notice 0x04#8)) :
    ∃ t, exec (.managementRefused l type args) s = .next t ∧
      DeliversAndSends s t l (managementMsg type args) ((l, resultMsg type .refused []) :: s.notice 0x04#8) ∧
      t = { s with links := t.links, refusals := min (s.refusals + 1) 65535, attention := s.attention ||| 0x04#8 } := by
  have hnotice : noticeOf s
      { s with refusals := min (s.refusals + 1) 65535, attention := s.attention ||| 0x04#8 } = s.notice 0x04#8 :=
    noticeOf_raised rfl rfl
  have hroom1 : s.Room [(l, resultMsg type .refused [])] := room_of_append_left (b := s.notice 0x04#8) hroom
  have hexec : exec (.managementRefused l type args) s =
      .next (s.deliver l (managementMsg type args) (State.refuseManagement l type)) :=
    congrArg Host.Outcome.next (if_neg (by simp [horigin]))
  exact exec_delivers (out := [(l, resultMsg type .refused [])]) hexec hdel hnotice hroom
    fun L hL => refuseManagement_sent (Alike.room hL hroom1)

/-- A request whose payload is too short is turned down. -/
theorem short_answers {s : State} {i : Instr} {l : LinkId} {k : Request} {args : List Octet}
    (horigin : s.inOrigin l = true)
    (hshort : args.length <
      (match k with
       | .set | .dirDel | .dirGet | .dirNext | .setTime => 4
       | .get | .partyGet | .callGet => 2
       | .dirPut => 12
       | .partySet => 3
       | .callClear | .linkGet | .linkReset | .clearCounts | .ackAttention => 1
       | .start | .stop | .restart | .status | .journalRead => 0)) (hi : i.request = some (l, k, args))
    (hdel : s.deliverable l (managementMsg k.code args) = true) (hroom : s.Room [(l, resultMsg k.code .badArgument [])]) :
    ∃ t, exec i s = .next t ∧
      DeliversAndSends s t l (managementMsg k.code args) [(l, resultMsg k.code .badArgument [])] ∧
      t = { s with links := t.links } := by
  cases i <;> cases hi
  case start | stop | restart | status | journalRead => exact absurd hshort (Nat.not_lt_zero _)
  case callClear | linkGet | linkReset | clearCounts | ackAttention =>
    rcases args with _ | ⟨a, args⟩
    · exact request_of_turnedDown rfl horigin hdel rfl hroom
    · exact absurd hshort (by simp)
  case get | partyGet | callGet =>
    rcases args with _ | ⟨a, _ | ⟨b, args⟩⟩
    · exact request_of_turnedDown rfl horigin hdel rfl hroom
    · exact request_of_turnedDown rfl horigin hdel rfl hroom
    · exact absurd hshort (by simp)
  case partySet =>
    rcases args with _ | ⟨a, _ | ⟨b, _ | ⟨c, args⟩⟩⟩
    · exact request_of_turnedDown rfl horigin hdel rfl hroom
    · exact request_of_turnedDown rfl horigin hdel rfl hroom
    · exact request_of_turnedDown rfl horigin hdel rfl hroom
    · exact absurd hshort (by simp)
  case set | dirDel | dirGet | dirNext | setTime =>
    rcases args with _ | ⟨a, _ | ⟨b, _ | ⟨c, _ | ⟨d, args⟩⟩⟩⟩
    · exact request_of_turnedDown rfl horigin hdel rfl hroom
    · exact request_of_turnedDown rfl horigin hdel rfl hroom
    · exact request_of_turnedDown rfl horigin hdel rfl hroom
    · exact request_of_turnedDown rfl horigin hdel rfl hroom
    · exact absurd hshort (by simp)
  case dirPut =>
    have hnone : entryOfOctets args = none := by
      unfold entryOfOctets
      split
      · exact absurd hshort (by simp)
      · rfl
    exact request_of_turnedDown rfl horigin hdel (by simp [State.judgeDirPut, hnone]) hroom

/-- Settles O44: a discard, a refusal, an unknown type and a short payload, each from what its command does. -/
theorem unservedMessagesAreCountedOrAnswered : Obligations.UnservedMessagesAreCountedOrAnswered := by
  intro s l
  refine ⟨fun m => discard_counts, fun type args => refused_answers, fun type args horigin htype hdel hroom => ?_,
    fun i k args hi horigin hshort => short_answers horigin hshort hi⟩
  have hdelivered := deliverRequest_of_quiet (judge := fun _ => .turnedDown .unknownRequest) horigin hdel rfl
    (quiet_turnedDown _ _) hroom
  refine ⟨_, congrArg Host.Outcome.next ((if_neg (by simp [isRequestType_eq_false_iff.mpr htype])).trans hdelivered),
    deliversAndSends_setLink rfl, ?_⟩
  rw [Answer.state, arrived_frame]
  rfl

/-! ### O45: the mode -/

theorem arrived_allIdle (s : State) (l : LinkId) (m : Message) : (s.arrived l m).allIdle = s.allIdle := by
  rw [arrived_frame]; rfl

/-- Settles O45. -/
theorem modeCommandsMoveTheMode : Obligations.ModeCommandsMoveTheMode := by
  refine ⟨fun s l args horigin hdel hroom => ?_, fun s l args horigin hdel => ⟨fun hmode hroom => ?_, fun hmode hroom => ?_⟩,
    fun s hmode hidle hroom => ?_⟩
  · obtain ⟨t, ht, hsends, hframe⟩ := request_of_quiet (i := .start l args) (k := .start)
      (a := .done { s.arrived l (managementMsg 0x80#8 args) with mode := .run } []) rfl horigin hdel rfl ⟨rfl, rfl⟩ hroom
    rw [Answer.state, arrived_frame] at hframe
    exact ⟨t, ht, hsends, hframe⟩
  · have hjudge : (s.arrived l (managementMsg 0x81#8 args)).judgeStop =
        .done { s.arrived l (managementMsg 0x81#8 args) with mode := if s.allIdle then .standby else .draining } [] := by
      simp only [State.judgeStop, arrived_mode, hmode, arrived_allIdle]
    obtain ⟨t, ht, hsends, hframe⟩ := request_of_quiet (i := .stop l args) (k := .stop) rfl horigin hdel hjudge ⟨rfl, rfl⟩ hroom
    rw [Answer.state, arrived_frame] at hframe
    have htmode : t.mode = if s.allIdle then .standby else .draining := by rw [hframe]
    refine ⟨t, ht, hsends, by rw [hframe], fun hidle => ?_, fun ⟨n, hn⟩ => ?_⟩
    · rw [htmode, if_pos (allIdle_iff.mpr hidle)]
    · rw [htmode, if_neg fun h => hn (allIdle_iff.mp h n)]
  · refine request_of_turnedDown (k := .stop) rfl horigin hdel ?_ hroom
    rw [State.judgeStop, arrived_mode]
    cases hm : s.mode with
    | run => exact absurd hm hmode
    | standby => rfl
    | draining => rfl
  · exact exec_event (i := .drainEnd) (s := s) (out := []) (f := State.endDrain)
      (u := { s with mode := .standby, attention := s.attention ||| 0x40#8 }) rfl (noticeOf_raised rfl rfl) hroom
      (if_pos ⟨hmode, allIdle_iff.mpr hidle⟩)

end Sys2Proof.Machine
end

section
/-!
PROOF. The requests that write the switch: the parameters (O47), the pending set (O53), the quiet flags, the counters and
the time (O52); and the directory, put and read (O48, O50).
-/

namespace Sys2Proof.Machine

/-! ### O47: the parameters -/

theorem value_write_ne (p : Params) {x y : ParamId} (v : Nat) (h : y ≠ x) : (p.write x v).value y = p.value y := by
  have hne : ∀ {n : Nat} {i j : Fin n}, j ≠ i → (i : Nat) ≠ j := fun hij e => hij (Fin.ext e.symm)
  cases x <;> cases y <;> first | rfl | exact absurd rfl h | skip
  case panelGain.panelGain i j | riserGain.riserGain i j | stations.stations i j | cadence.cadence i j =>
    have hij : j ≠ i := fun e => h (congrArg _ e)
    simp [Params.write, Params.value, Vector.getElem_set_ne, hne hij]

theorem clampTo_eq {lo hi : Nat} (h : lo ≤ hi) (v : Nat) : clampTo lo hi v = max lo (min v hi) := by
  unfold clampTo
  split
  · omega
  · split <;> omega

theorem applied_of_range {x : ParamId} {lo hi : Nat} (h : x.range = some (lo, hi)) (v : BitVec 16) :
    x.applied v = max lo (min v.toNat hi) := by
  simp only [ParamId.applied, h]
  exact clampTo_eq (range_le h) _

theorem applied_originSet (v : BitVec 16) : ParamId.originSet.applied v = v.toNat % 4096 + 4096 := by
  have h : ((v &&& 0x1FFF#16) ||| 0x1000#16) = (v &&& 0x0FFF#16) ||| 0x1000#16 := by
    ext i hi
    interval_cases i <;> simp
  show ((v &&& 0x1FFF#16) ||| 0x1000#16).toNat = _
  have hlow : (v &&& 0x0FFF#16).toNat = v.toNat % 4096 := by
    rw [BitVec.toNat_and]; exact Nat.and_two_pow_sub_one_eq_mod _ 12
  rw [h, BitVec.toNat_or, hlow]
  have hadd := Nat.two_pow_add_eq_or_of_lt (b := v.toNat % 4096) (i := 12) (Nat.mod_lt _ (by decide)) 1
  rw [Nat.or_comm, Nat.add_comm]
  exact hadd.symm

theorem applied_noticeMask (v : BitVec 16) : ParamId.noticeMask.applied v = v.toNat % 128 := by
  show (v &&& 0x007F#16).toNat = _
  rw [BitVec.toNat_and]; exact Nat.and_two_pow_sub_one_eq_mod _ 7

theorem toNat_append_octets (hi lo : Octet) : (hi ++ lo : BitVec 16).toNat = hi.toNat * 256 + lo.toNat := by
  rw [BitVec.toNat_append, Nat.shiftLeft_eq, ← Nat.shiftLeft_eq, ← Nat.shiftLeft_add_eq_or_of_lt lo.isLt, Nat.shiftLeft_eq]

/-- SET applies a number: clamped to its range, or with the bits R187 fixes. -/
def ParamId.setTo (x : ParamId) (asked : Nat) : Nat :=
  match x, x.range with
  | .originSet, _ => asked % 4096 + 4096
  | .noticeMask, _ => asked % 128
  | _, some (low, high) => max low (min asked high)
  | _, none => asked

theorem applied_eq_setTo (x : ParamId) (v : BitVec 16) : x.applied v = x.setTo v.toNat := by
  cases x with
  | originSet => exact applied_originSet v
  | noticeMask => exact applied_noticeMask v
  | _ => exact applied_of_range rfl v

theorem value_write_self (p : Params) (x : ParamId) (v : BitVec 16) :
    (p.write x (x.applied v)).value x = x.applied v := by
  have hcadence : ∀ i, (ParamId.cadence i).applied v ≤ 3 := fun i => (clampTo_mem (by decide) v.toNat).2
  cases x with
  | cadence i =>
    have h := hcadence i
    simp only [Params.write, Params.value, Fin.getElem_fin, Vector.getElem_set_self, Fin.val_ofNat]
    omega
  | originSet =>
    have h := applied_originSet v
    have hlt : v.toNat % 4096 < 4096 := Nat.mod_lt _ (by decide)
    simp only [Params.write, Params.value, BitVec.toNat_ofNat]
    omega
  | noticeMask =>
    have h := applied_noticeMask v
    have hlt : v.toNat % 128 < 128 := Nat.mod_lt _ (by decide)
    simp only [Params.write, Params.value, BitVec.toNat_ofNat]
    omega
  | panelGain | riserGain | stations => simp [Params.write, Params.value]
  | _ => rfl

theorem write_noticeMask_of_ne (p : Params) {x : ParamId} (v : Nat) (h : x ≠ .noticeMask) :
    (p.write x v).noticeMask = p.noticeMask := by
  cases x with
  | noticeMask => exact absurd rfl h
  | _ => rfl

/-- The ATTENTION that a wider mask brings (R189). -/
theorem noticeOf_widened (s : State) (v : Nat) :
    noticeOf s { s with params := s.params.write .noticeMask v } =
      if s.attention &&& BitVec.ofNat 8 v &&& ~~~(s.params.noticeMask.setWidth 8) ≠ 0#8 then
        [(.trunk, attentionMsg (s.attention &&& BitVec.ofNat 8 v))]
      else [] := by
  have hmask : (BitVec.ofNat 16 v).setWidth 8 = BitVec.ofNat 8 v := by
    rw [BitVec.setWidth_ofNat_of_le (by decide)]
  have hbits : ∀ x y z : Octet, x &&& y &&& ~~~(x &&& z) = x &&& y &&& ~~~z := by
    intro x y z
    ext i hi
    simp only [BitVec.getElem_and, BitVec.getElem_not]
    cases x[i] <;> cases y[i] <;> cases z[i] <;> rfl
  simp only [noticeOf, State.maskedPending, Params.write, hmask, gains, hbits, bne_iff_ne]

theorem judgeSet_of_parameter {s : State} {number index : Octet} {x : ParamId}
    (h : ParamId.ofOctets number index = some x) (hi lo : Octet) :
    s.judgeSet number index hi lo =
      .done { s with params := s.params.write x (x.applied (hi ++ lo)) } (be16 (x.applied (hi ++ lo))) := by
  simp only [State.judgeSet, h]

theorem judgeSet_of_none {s : State} {number index : Octet} (h : ParamId.ofOctets number index = none) (hi lo : Octet) :
    s.judgeSet number index hi lo = .turnedDown .badArgument := by simp only [State.judgeSet, h]

theorem judgeGet_of_parameter {s : State} {number index : Octet} {x : ParamId}
    (h : ParamId.ofOctets number index = some x) : s.judgeGet number index = .done s (be16 (s.params.value x)) := by
  simp only [State.judgeGet, h]

theorem judgeGet_of_none {s : State} {number index : Octet} (h : ParamId.ofOctets number index = none) :
    s.judgeGet number index = .turnedDown .badArgument := by simp only [State.judgeGet, h]

/-- Settles O47. -/
theorem setAndGetParameters : Obligations.SetAndGetParameters := by
  intro s l number index hi lo more horigin
  refine ⟨fun x hx hdel => ?_, fun x hx hdel hroom => ?_, fun hx hdel hroom => ?_, fun hx hdel hroom => ?_⟩
  · intro asked v gained out hroom
    have hv : v = x.applied (hi ++ lo) := by
      rw [applied_eq_setTo, toNat_append_octets]
      cases x <;> rfl
    clear_value v
    subst hv
    have hnotice : noticeOf s { s with params := s.params.write x (x.applied (hi ++ lo)) } =
        if x = .noticeMask ∧ gained ≠ 0#8 then
          [(.trunk, attentionMsg (s.attention &&& BitVec.ofNat 8 (x.applied (hi ++ lo))))] else [] := by
      by_cases hmask : x = .noticeMask
      · subst hmask
        rw [noticeOf_widened]
        simp only [true_and]
        rfl
      · rw [if_neg fun h => hmask h.1, noticeOf_of_kept]
        simp only [State.maskedPending, write_noticeMask_of_ne s.params _ hmask]
    obtain ⟨t, ht, hsends, hframe⟩ := exec_request
      (i := .set l (number :: index :: hi :: lo :: more)) (k := .set) (out := [])
      (u := { s with params := s.params.write x (x.applied (hi ++ lo)) }) rfl horigin hdel hnotice hroom
      fun L _ => judgeSet_of_parameter hx hi lo
    exact ⟨t, ht, hsends, by rw [hframe], by rw [hframe]; exact value_write_self _ _ _,
      fun y hy => by rw [hframe]; exact value_write_ne _ _ hy⟩
  · refine request_of_read (k := .get) rfl horigin hdel ((judgeGet_of_parameter hx).trans ?_) hroom
    rw [arrived_params]
  · exact request_of_turnedDown (k := .set) rfl horigin hdel (judgeSet_of_none hx hi lo) hroom
  · exact request_of_turnedDown (k := .get) rfl horigin hdel (judgeGet_of_none hx) hroom

/-! ### O53: the pending set -/

/-- Classes taken out bring no ATTENTION (R190). -/
theorem noticeOf_acknowledged (s : State) (set : Octet) :
    noticeOf s { s with attention := s.attention &&& ~~~set } = [] := by
  have hbits : ∀ x y z : Octet, x &&& ~~~y &&& z &&& ~~~(x &&& z) = 0#8 := by
    intro x y z
    ext i hi
    simp only [BitVec.getElem_and, BitVec.getElem_not, BitVec.getElem_zero]
    cases x[i] <;> cases y[i] <;> cases z[i] <;> rfl
  simp [noticeOf, State.maskedPending, gains, hbits]

/-- Settles O53. -/
theorem ackAttentionTakesClassesOut : Obligations.AckAttentionTakesClassesOut := by
  intro s l set more horigin hdel
  refine ⟨fun hbit hroom => ?_, fun hbit hroom => ?_⟩
  · exact exec_request (i := .ackAttention l (set :: more)) (k := .ackAttention) (out := [])
      (u := { s with attention := s.attention &&& ~~~set }) rfl horigin hdel (noticeOf_acknowledged s set) hroom
      fun L _ => if_neg (by rw [hbit]; exact Bool.false_ne_true)
  · exact request_of_turnedDown (i := .ackAttention l (set :: more)) (k := .ackAttention) rfl horigin hdel (if_pos hbit) hroom

/-! ### O52: the writes -/

theorem linkOfCode_code (l : LinkId) : LinkId.ofCode l.code = some l := by
  cases l with
  | panel p => revert p; decide
  | riser r => revert r; decide
  | trunk => rfl

theorem code_of_linkOfCode {o : Octet} {l : LinkId} (h : LinkId.ofCode o = some l) : o = l.code := by
  have key : ∀ o : Octet, (LinkId.ofCode o).all (fun l => decide (o = l.code)) = true := by decide
  have := key o
  rw [h] at this
  simpa using this

theorem linkOfCode_eq_none {o : Octet} (h : ∀ l : LinkId, o ≠ l.code) : LinkId.ofCode o = none := by
  cases hl : LinkId.ofCode o with
  | none => rfl
  | some l => exact absurd (code_of_linkOfCode hl) (h l)

theorem party_addr (x : Party) : x.link.party x.addr = some x := by
  cases x with
  | station p st => revert p st; decide
  | handset r a =>
    have h : (BitVec.ofNat 8 a.val).toNat = a.val := toNat_ofNat_octet (by omega)
    exact (dif_pos (h ▸ a.isLt)).trans (congrArg (fun b => some (Party.handset r b)) (Fin.ext h))
  | position q => revert q; decide

theorem addr_of_party {l : LinkId} {a : Octet} {x : Party} (h : l.party a = some x) : x.link = l ∧ a = x.addr := by
  have hback : ∀ n : Nat, a.toNat = n → a = BitVec.ofNat 8 n := fun n hn => by rw [← hn, BitVec.ofNat_toNat, BitVec.setWidth_eq]
  cases l <;> simp only [LinkId.party] at h <;> split at h <;> cases h <;> exact ⟨rfl, hback _ rfl⟩

theorem partyOfOctets_party (x : Party) : partyOfOctets x.link.code x.addr = some x := by
  rw [partyOfOctets, linkOfCode_code]
  exact party_addr x

theorem octets_of_partyOfOctets {code a : Octet} {x : Party} (h : partyOfOctets code a = some x) :
    code = x.link.code ∧ a = x.addr := by
  obtain ⟨l, hl, hx⟩ := Option.bind_eq_some_iff.mp h
  obtain ⟨rfl, ha⟩ := addr_of_party hx
  exact ⟨code_of_linkOfCode hl, ha⟩

theorem flagOfOctet_eq_none {o : Octet} (h : 1 < o.toNat) : flagOfOctet o = none := by
  have h0 : o ≠ 0x00#8 := fun e => by rw [e] at h; exact absurd h (by decide)
  have h1 : o ≠ 0x01#8 := fun e => by rw [e] at h; exact absurd h (by decide)
  rw [flagOfOctet, if_neg h0, if_neg h1]

theorem judgePartySet_of_handset (s : State) (r : Fin 8) (a : Fin 63) (on : Bool) :
    s.judgePartySet (LinkId.riser r).code (BitVec.ofNat 8 a.val) (flagOctet on) =
      .done (s.setHandset r a { s.handset r a with quiet := on }) [flagOctet on] := by
  have hparty : partyOfOctets (LinkId.riser r).code (BitVec.ofNat 8 a.val) = some (.handset r a) :=
    partyOfOctets_party (.handset r a)
  simp only [State.judgePartySet, hparty, flagOfOctet_flagOctet]

theorem judgePartySet_of_bad {s : State} {a b c : Octet}
    (h : (∀ (r : Fin 8) (h : Fin 63), a ≠ (LinkId.riser r).code ∨ b ≠ BitVec.ofNat 8 h.val) ∨ 1 < c.toNat) :
    s.judgePartySet a b c = .turnedDown .badArgument := by
  unfold State.judgePartySet
  split
  next r x q hparty hflag =>
    obtain ⟨hcode, haddr⟩ := octets_of_partyOfOctets hparty
    obtain h | h := h
    · exact ((h r x).elim (fun h => h hcode) fun h => h haddr).elim
    · rw [flagOfOctet_eq_none h] at hflag; cases hflag
  next => rfl

theorem dropHead_zeroCounters (u : LinkUnit) : u.zeroCounters.dropHead = u.dropHead.zeroCounters := by
  unfold LinkUnit.dropHead LinkUnit.zeroCounters
  cases u.holding <;> rfl

theorem judgeClearCounts_of_all (s : State) :
    s.judgeClearCounts 0xFF#8 = .done { s with links := tableMap LinkUnit.zeroCounters s.links, refusals := 0 } [] := if_pos rfl

theorem judgeClearCounts_of_link (s : State) (k : LinkId) :
    s.judgeClearCounts k.code = .done (s.setLink k (s.link k).zeroCounters) [] := by
  have hne : k.code ≠ 0xFF#8 := fun e => by
    have h := linkOfCode_code k
    rw [e] at h
    cases h
  rw [State.judgeClearCounts, if_neg hne, linkOfCode_code]

theorem judgeClearCounts_of_bad {s : State} {code : Octet} (hne : code ≠ 0xFF#8) (h : ∀ k : LinkId, code ≠ k.code) :
    s.judgeClearCounts code = .turnedDown .badArgument := by
  rw [State.judgeClearCounts, if_neg hne, linkOfCode_eq_none h]

/-- CLEAR_COUNTS of link units chosen by `which`: their counters are 0, under the delivery and its RESULT. -/
theorem clearCounts_answers {s u : State} {l : LinkId} {args : List Octet} {which : LinkId → Bool}
    {judge : State → Answer} (horigin : s.inOrigin l = true)
    (hdel : s.deliverable l (managementMsg Request.clearCounts.code args) = true) (hroom : s.Room [(l, resultMsg Request.clearCounts.code .ok [])])
    (hjudge : judge (s.arrived l (managementMsg Request.clearCounts.code args)) = .done u [])
    (hu : ∀ j, u.link j =
      if which j then ((s.arrived l (managementMsg Request.clearCounts.code args)).link j).zeroCounters
      else (s.arrived l (managementMsg Request.clearCounts.code args)).link j)
    (hpending : u.maskedPending = s.maskedPending) :
    s.takeRequest .clearCounts l args judge =
        { u with links := (s.takeRequest .clearCounts l args judge).links } ∧
      ∀ j, (s.takeRequest .clearCounts l args judge).link j =
        let v := (if j = l then s.delivered l (managementMsg Request.clearCounts.code args) else s.link j).withTx
          (outFor j [(l, resultMsg 0x90#8 .ok [])])
        if which j = true then v.zeroCounters else v := by
  have hnotice : noticeOf (s.arrived l (managementMsg Request.clearCounts.code args)) u = [] :=
    noticeOf_of_kept (hpending.trans (by rw [arrived_frame]; rfl))
  have hsame : ∀ j, (u.link j).rx = ((s.arrived l (managementMsg Request.clearCounts.code args)).link j).rx ∧
      (u.link j).state = ((s.arrived l (managementMsg Request.clearCounts.code args)).link j).state ∧
      (u.link j).tx = ((s.arrived l (managementMsg Request.clearCounts.code args)).link j).tx := by
    intro j
    rw [hu]
    split <;> exact ⟨rfl, rfl, rfl⟩
  have h : s.takeRequest .clearCounts l args judge = _ :=
    deliverRequest_sent (a := .done u []) (u := u) (out := []) horigin hdel hjudge rfl
      (by rw [(hsame l).1]; exact arrived_head hdel)
      (by rw [hnotice]; exact room_congr (fun j => (hsame j).2) (room_arrived_iff.mpr hroom))
  rw [hnotice] at h
  refine ⟨by rw [h]; rfl, fun j => ?_⟩
  rw [h, sent_link, setLink_link, hu, hu]
  by_cases hj : j = l
  · subst hj
    cases hw : which j with
    | true => simp only [if_true, dropHead_zeroCounters]; rfl
    | false => simp only [if_true, Bool.false_eq_true, if_false]; rfl
  · rw [if_neg hj, arrived_link_ne s _ hj]
    cases hw : which j with
    | true => simp only [if_neg hj, if_true]; rfl
    | false => simp only [if_neg hj, Bool.false_eq_true, if_false]; rfl

/-- Settles O52. -/
theorem writeRequestsWrite : Obligations.WriteRequestsWrite := by
  intro s l more horigin
  refine ⟨fun a b c => ⟨fun hbad hdel => answers_of_delivers fun hroom => ?_,
    fun hne hbad hdel => answers_of_delivers fun hroom => ?_⟩, fun r a on hdel hroom => ?_,
    fun code all k hcode hdel hroom => ?_, fun a b c d hdel hroom => ?_⟩
  · exact request_of_turnedDown (i := .partySet l (a :: b :: c :: more)) (k := .partySet) rfl horigin hdel
      (judgePartySet_of_bad hbad) hroom
  · exact request_of_turnedDown (i := .clearCounts l (a :: more)) (k := .clearCounts) rfl horigin hdel
      (judgeClearCounts_of_bad hne hbad) hroom
  · exact exec_request_quiet (i := .partySet l _) (k := .partySet)
      (u := s.setHandset r a { s.handset r a with quiet := on }) rfl horigin hdel rfl hroom
      fun L _ => judgePartySet_of_handset (s.relinked L) r a on
  · cases all with
    | true =>
      obtain rfl : code = 0xFF#8 := hcode
      obtain ⟨hframe, hlink⟩ := clearCounts_answers (which := fun _ => true)
        (judge := fun t => t.judgeClearCounts 0xFF#8) horigin hdel hroom (judgeClearCounts_of_all _)
        (fun j => by rw [if_pos rfl]; exact tableMap_link _ _ j) (by rw [arrived_frame]; rfl)
      refine ⟨_, rfl, hframe.trans (by rw [arrived_frame]; rfl), fun j => (hlink j).trans ?_⟩
      simp only [true_or, if_true]
      rfl
    | false =>
      obtain rfl : code = k.code := hcode
      obtain ⟨hframe, hlink⟩ := clearCounts_answers (which := fun j => decide (j = k))
        (judge := fun t => t.judgeClearCounts k.code) horigin hdel hroom (judgeClearCounts_of_link _ k)
        (fun j => by
          rw [setLink_link]
          by_cases hj : j = k
          · subst hj; simp
          · simp [hj]) (by rw [arrived_frame]; rfl)
      refine ⟨_, rfl, hframe.trans (by rw [arrived_frame]; rfl), fun j => (hlink j).trans ?_⟩
      simp only [Bool.false_eq_true, false_or, decide_eq_true_eq]
      rfl
  · have hseconds : ofBe16 a b * 65536 + ofBe16 c d = a.toNat * 16777216 + b.toNat * 65536 + c.toNat * 256 + d.toNat := by
      unfold ofBe16; omega
    exact exec_request_quiet (i := .setTime l (a :: b :: c :: d :: more)) (k := .setTime)
      (u := { s with
              seconds := a.toNat * 16777216 + b.toNat * 65536 + c.toNat * 256 + d.toNat, secondLeft := 8000 })
      rfl horigin hdel rfl hroom fun L _ => by rw [← hseconds]; rfl

end Sys2Proof.Machine
end

section
/-!
PROOF. The directory, put and read (O48, O50), and the requests that read the switch (O51).
-/

namespace Sys2Proof.Machine

/-! ### O48: DIR_PUT -/

theorem mem_replaceEntry_of_ne {e x : Entry} {d : List Entry} (h : x.code ≠ e.code) : x ∈ replaceEntry e d ↔ x ∈ d := by
  simp only [replaceEntry, List.mem_map]
  constructor
  · rintro ⟨y, hy, rfl⟩
    split at h
    · exact absurd rfl h
    next hne => rw [if_neg hne]; exact hy
  · intro hx
    exact ⟨x, hx, if_neg h⟩

theorem self_mem_replaceEntry {e : Entry} {d : List Entry} (h : ∃ x ∈ d, x.code = e.code) : e ∈ replaceEntry e d := by
  obtain ⟨x, hx, hcode⟩ := h
  exact List.mem_map.mpr ⟨x, hx, if_pos hcode⟩

theorem replaceEntry_codes (e : Entry) (d : List Entry) : (replaceEntry e d).map (·.code) = d.map (·.code) := by
  simp only [replaceEntry, List.map_map]
  refine List.map_congr_left fun x _ => ?_
  simp only [Function.comp_apply]
  split
  next h => exact h.symm
  next => rfl

@[simp] theorem replaceEntry_length (e : Entry) (d : List Entry) : (replaceEntry e d).length = d.length := by
  simp [replaceEntry]

theorem putEntry_of_present {e : Entry} {d : List Entry} (h : ∃ x ∈ d, x.code = e.code) :
    putEntry e d = some (replaceEntry e d, false) := by
  have hfound : (entryOf e.code d).isSome = true := by
    rw [Option.isSome_iff_ne_none, ne_eq, entryOf_eq_none_iff]
    obtain ⟨x, hx, hcode⟩ := h
    exact fun hall => hall x hx hcode
  exact if_pos hfound

theorem putEntry_of_absent {e : Entry} {d : List Entry} (h : ∀ x ∈ d, x.code ≠ e.code) :
    putEntry e d = if d.length < 1024 then some (insertEntry e d, true) else none := by
  have hnone := (entryOf_eq_none_iff e.code d).mpr h
  rw [putEntry, hnone]
  rfl

/-- The targets that a payload holds: two octets for each, a riser and an address (Table 9-8). -/
theorem targetsOf_spec {k : Nat} {os : List Octet} {ts : List (Fin 8 × Fin 63)} (h : targetsOf k os = some ts) :
    2 * k ≤ os.length ∧ ∀ i, i < k → ∃ t, ts[i]? = some t ∧ (os.getD (2 * i) 0#8).toNat = t.1.val ∧
      (os.getD (2 * i + 1) 0#8).toNat = t.2.val := by
  induction k generalizing os ts with
  | zero => exact ⟨Nat.zero_le _, fun i hi => absurd hi (Nat.not_lt_zero i)⟩
  | succ k ih =>
    match os, h with
    | [], h | [_], h => simp [targetsOf] at h
    | r :: a :: rest, h =>
      unfold targetsOf at h
      split at h
      next t ts' ht hrest =>
        obtain rfl := Option.some.inj h
        obtain ⟨hlen, hplaces⟩ := ih hrest
        refine ⟨by simp only [List.length_cons]; omega, fun i hi => ?_⟩
        cases i with
        | zero =>
          unfold targetOf at ht
          split at ht
          · obtain rfl := Option.some.inj ht
            exact ⟨_, rfl, rfl, rfl⟩
          · cases ht
        | succ i => exact hplaces i (by omega)
      next => cases h

/-- A payload that holds an entry passes every check of Table 2-3 on its code, its kind and its entrances, and a FLAT one
those on its fields (R36). -/
theorem entryOfOctets_checks {f : CodeField} {kind entrances fallback camp duplex alert uses count : Octet}
    {targets : List Octet} {e : Entry}
    (h : entryOfOctets
      (f.octets ++ [kind, entrances, fallback, camp, duplex, alert, uses, count] ++ targets) = some e) :
    (1 ≤ f.length.toNat ∧ f.length.toNat ≤ 6 ∧ ∀ d ∈ f.digits, d ≤ 9) ∧ (1 ≤ kind.toNat ∧ kind.toNat ≤ 4) ∧
      (1 ≤ entrances.toNat ∧ entrances.toNat ≤ 15) ∧
      (kind = 0x01#8 →
        (1 ≤ count.toNat ∧ count.toNat ≤ 4 ∧ (alert.toNat = 0 ∨ (5 ≤ alert.toNat ∧ alert.toNat ≤ 120))) ∧
          (∃ ts, targetsOf count.toNat targets = some ts ∧ ts.Nodup) ∧ flagOfOctet fallback ≠ none ∧
          flagOfOctet camp ≠ none ∧ flagOfOctet duplex ≠ none) := by
  have hcode : f.code ≠ none → 1 ≤ f.length.toNat ∧ f.length.toNat ≤ 6 ∧ ∀ d ∈ f.digits, d ≤ 9 := fun hne => by
    by_contra hbad
    exact hne (code_of_not_good hbad)
  simp only [entryOfOctets, CodeField.octets, List.cons_append, List.nil_append] at h
  split at h
  next c b hc hb =>
    split at h
    next hent =>
      refine ⟨hcode (by show CodeField.code ⟨f.length, f.places12, f.places34, f.places56⟩ ≠ none; rw [hc]; exact Option.some_ne_none c), ?_,
        hent, ?_⟩
      · by_cases h1 : kind = 0x01#8
        · subst h1; decide
        · rw [if_neg h1] at hb
          by_cases h2 : kind = 0x02#8
          · subst h2; decide
          · rw [if_neg h2] at hb
            by_cases h3 : kind = 0x03#8
            · subst h3; decide
            · rw [if_neg h3] at hb
              by_cases h4 : kind = 0x04#8
              · subst h4; decide
              · rw [if_neg h4] at hb; cases hb
      · intro h1
        rw [if_pos h1] at hb
        unfold flatBodyOf at hb
        split at hb
        next hcheck =>
          split at hb
          next ts fb cm du hts hfb hcm hdu =>
            split at hb
            next hnodup =>
              exact ⟨hcheck, ⟨ts, hts, hnodup⟩, by rw [hfb]; exact Option.some_ne_none _,
                by rw [hcm]; exact Option.some_ne_none _, by rw [hdu]; exact Option.some_ne_none _⟩
            next => cases hb
          next => cases hb
        next => cases hb
    next => cases h
  next => cases h

theorem flag_of_flagOfOctet {o : Octet} (h : flagOfOctet o ≠ none) : o = 0x00#8 ∨ o = 0x01#8 := by
  by_contra hno
  obtain ⟨h0, h1⟩ := not_or.mp hno
  exact h (by rw [flagOfOctet, if_neg h0, if_neg h1])

/-- Two places of a list without repeats that hold the same target are one. -/
theorem targets_distinct {ts : List (Fin 8 × Fin 63)} (h : ts.Nodup) {i j : Nat} {t u : Fin 8 × Fin 63} (hij : i < j)
    (hi : ts[i]? = some t) (hj : ts[j]? = some u) : ¬ (t.1.val = u.1.val ∧ t.2.val = u.2.val) := by
  rintro ⟨h1, h2⟩
  obtain rfl : t = u := Prod.ext (Fin.ext h1) (Fin.ext h2)
  obtain ⟨hlt, hit⟩ := List.getElem?_eq_some_iff.mp hi
  obtain ⟨hlt', hjt⟩ := List.getElem?_eq_some_iff.mp hj
  have := (List.Nodup.getElem_inj_iff h).mp (hit.trans hjt.symm)
  omega

/-- An entry that fails a check of Table 2-3 is no entry. -/
theorem entryOfOctets_of_bad {f : CodeField} {kind entrances fallback camp duplex alert uses count : Octet}
    {targets : List Octet}
    (h : f.length.toNat < 1 ∨ 6 < f.length.toNat ∨ (∃ d ∈ f.digits, 9 < d) ∨ kind.toNat < 1 ∨ 4 < kind.toNat ∨
      entrances.toNat < 1 ∨ 15 < entrances.toNat ∨
      (kind = 0x01#8 ∧
        (count.toNat < 1 ∨ 4 < count.toNat ∨ targets.length < 2 * count.toNat ∨
          (∃ i, i < count.toNat ∧
            (7 < (targets.getD (2 * i) 0#8).toNat ∨ 62 < (targets.getD (2 * i + 1) 0#8).toNat)) ∨
          (∃ i j, i < j ∧ j < count.toNat ∧ (targets.getD (2 * i) 0#8).toNat = (targets.getD (2 * j) 0#8).toNat ∧
            (targets.getD (2 * i + 1) 0#8).toNat = (targets.getD (2 * j + 1) 0#8).toNat) ∨
          ¬ (fallback = 0x00#8 ∨ fallback = 0x01#8) ∨ ¬ (camp = 0x00#8 ∨ camp = 0x01#8) ∨
          ¬ (duplex = 0x00#8 ∨ duplex = 0x01#8) ∨ (0 < alert.toNat ∧ alert.toNat < 5) ∨ 120 < alert.toNat))) :
    entryOfOctets (f.octets ++ [kind, entrances, fallback, camp, duplex, alert, uses, count] ++ targets) = none := by
  by_contra hsome
  obtain ⟨e, he⟩ := Option.ne_none_iff_exists'.mp hsome
  obtain ⟨⟨h1, h2, h3⟩, ⟨h4, h5⟩, ⟨h6, h7⟩, hflat⟩ := entryOfOctets_checks he
  obtain h | h | ⟨d, hd, h⟩ | h | h | h | h | ⟨hkind, h⟩ := h
  · omega
  · omega
  · exact absurd (h3 d hd) (by omega)
  · omega
  · omega
  · omega
  · omega
  · obtain ⟨⟨hpos, hfour, halert⟩, ⟨ts, hts, hnodup⟩, hfb, hcm, hdu⟩ := hflat hkind
    obtain ⟨hlen, hplaces⟩ := targetsOf_spec hts
    obtain h | h | h | ⟨i, hi, h⟩ | ⟨i, j, hij, hj, h, h'⟩ | h | h | h | h | h := h
    · omega
    · omega
    · omega
    · obtain ⟨t, -, hr, ha⟩ := hplaces i hi
      omega
    · obtain ⟨t, ht, hr, ha⟩ := hplaces i (by omega)
      obtain ⟨u, hu, hr', ha'⟩ := hplaces j hj
      exact targets_distinct hnodup hij ht hu ⟨by omega, by omega⟩
    · exact h (flag_of_flagOfOctet hfb)
    · exact h (flag_of_flagOfOctet hcm)
    · exact h (flag_of_flagOfOctet hdu)
    · omega
    · omega

theorem judgeDirPut_of_entry {s : State} {args : List Octet} {e : Entry} {d : List Entry} {inserted : Bool}
    (he : entryOfOctets args = some e) (hput : putEntry e s.directory = some (d, inserted)) :
    s.judgeDirPut args = .done { s with directory := d } ((if inserted then 0x01#8 else 0x02#8) :: be16 d.length) := by
  simp only [State.judgeDirPut, he, hput]

theorem judgeDirPut_of_full {s : State} {args : List Octet} {e : Entry} (he : entryOfOctets args = some e)
    (hput : putEntry e s.directory = none) : s.judgeDirPut args = .turnedDown .full := by
  simp only [State.judgeDirPut, he, hput]

theorem judgeDirPut_of_bad {s : State} {args : List Octet} (he : entryOfOctets args = none) :
    s.judgeDirPut args = .turnedDown .badArgument := by simp only [State.judgeDirPut, he]

/-- Settles O48. -/
theorem dirPutReplacesOrInserts : Obligations.DirPutReplacesOrInserts := by
  refine ⟨fun s l e more hord hkept horigin hdel => ⟨fun hpresent hroom => ?_, fun habsent hlt hroom => ?_,
    fun habsent hfull hroom => ?_⟩, fun s l f kind entrances fallback camp duplex alert uses count targets horigin => ?_⟩
  · have hput := putEntry_of_present hpresent
    obtain ⟨t, ht, hsends, hframe⟩ := exec_request_quiet (i := .dirPut l (entryOctets e ++ more)) (k := .dirPut)
      (u := { s with directory := replaceEntry e s.directory }) (data := 0x02#8 :: be16 s.directory.length) rfl horigin hdel
      rfl hroom fun L _ => by
        rw [judgeDirPut_of_entry (s := s.relinked L) (entryPayloadRoundTrip e more hkept) hput, replaceEntry_length]; rfl
    exact ⟨t, ht, hsends, by rw [hframe], by rw [hframe]; exact replaceEntry_codes e s.directory,
      by rw [hframe]; exact self_mem_replaceEntry hpresent, fun x hx => by rw [hframe]; exact mem_replaceEntry_of_ne hx⟩
  · have hput : putEntry e s.directory = some (insertEntry e s.directory, true) := by
      rw [putEntry_of_absent habsent, if_pos hlt]
    have hperm := insertEntry_perm e s.directory
    have hlen : (insertEntry e s.directory).length = s.directory.length + 1 := by rw [hperm.length_eq]; rfl
    obtain ⟨t, ht, hsends, hframe⟩ := exec_request_quiet (i := .dirPut l (entryOctets e ++ more)) (k := .dirPut)
      (u := { s with directory := insertEntry e s.directory }) (data := 0x01#8 :: be16 (s.directory.length + 1)) rfl horigin
      hdel rfl hroom fun L _ => by
        rw [judgeDirPut_of_entry (s := s.relinked L) (entryPayloadRoundTrip e more hkept) hput, hlen]; rfl
    refine ⟨t, ht, hsends, by rw [hframe], by rw [hframe]; exact hperm, ?_⟩
    rw [directoryOrdered_iff, hframe]
    exact directoryKept_insert hkept habsent hlt (directoryOrdered_iff.mp hord)
  · have hput : putEntry e s.directory = none := by rw [putEntry_of_absent habsent, if_neg (by omega)]
    refine request_of_turnedDown (k := .dirPut) rfl horigin hdel
      (judgeDirPut_of_full (entryPayloadRoundTrip e more hkept) ?_) hroom
    rw [arrived_directory]
    exact hput
  · intro args hdel hroom riser address isFlag hbad
    exact request_of_turnedDown (k := .dirPut) rfl horigin hdel (judgeDirPut_of_bad (entryOfOctets_of_bad hbad)) hroom

/-! ### O50: DIR_GET and DIR_NEXT -/

theorem codeOrEmpty_of_fits {f : CodeField} (h : f.length.toNat ≤ 6 ∧ ∀ d ∈ f.digits, d ≤ 9) :
    f.codeOrEmpty = some f.digits := by
  rw [← digitsOk_iff] at h
  exact if_pos h

theorem codeOrEmpty_of_not_fits {f : CodeField} (h : ¬ (f.length.toNat ≤ 6 ∧ ∀ d ∈ f.digits, d ≤ 9)) :
    f.codeOrEmpty = none := by
  rw [← digitsOk_iff] at h
  exact if_neg h

/-- In dial order the entry with a code is the one found. -/
theorem entryOf_of_mem {d : List Entry} {e : Entry} (hord : d.Pairwise fun x y => dialBefore x.code y.code = true)
    (he : e ∈ d) : entryOf e.code d = some e := by
  obtain ⟨before, after, rfl⟩ := List.append_of_mem he
  refine List.find?_eq_some_iff_append.mpr ⟨by simp, before, after, rfl, fun x hx => ?_⟩
  simpa using (code_ne_of_ordered hord).1 x hx

/-- In dial order the first entry after a code is the one found. -/
theorem entryAfter_of_first {c : Code} {d : List Entry} {e : Entry}
    (hord : d.Pairwise fun x y => dialBefore x.code y.code = true) (he : e ∈ d) (hafter : dialBefore c e.code = true)
    (hfirst : ∀ x ∈ d, dialBefore c x.code = true → x = e ∨ dialBefore e.code x.code = true) :
    entryAfter c d = some e := by
  obtain ⟨before, after, rfl⟩ := List.append_of_mem he
  refine List.find?_eq_some_iff_append.mpr ⟨hafter, before, after, rfl, fun x hx => ?_⟩
  rw [Bool.not_eq_true', Bool.eq_false_iff]
  intro hcx
  have hxe : dialBefore x.code e.code = true := (List.pairwise_append.mp hord).2.2 x hx e List.mem_cons_self
  obtain rfl | hex := hfirst x (List.mem_append_left _ hx) hcx
  · rw [dialBefore_self] at hxe; cases hxe
  · have := dialBefore_trans hex hxe
    rw [dialBefore_self] at this; cases this

theorem entryAfter_of_none {c : Code} {d : List Entry} (h : ∀ e ∈ d, dialBefore c e.code = false) :
    entryAfter c d = none := List.find?_eq_none.mpr fun e he => by simp [h e he]

theorem judgeDirGet_of_code {s : State} {f : CodeField} {c : Code} (h : f.code = some c) :
    s.judgeDirGet f = s.entryAnswer (entryOf c s.directory) := by simp only [State.judgeDirGet, h]
theorem judgeDirGet_of_bad {s : State} {f : CodeField} (h : f.code = none) : s.judgeDirGet f = .turnedDown .badArgument := by
  simp only [State.judgeDirGet, h]
theorem judgeDirNext_of_code {s : State} {f : CodeField} {c : Code} (h : f.codeOrEmpty = some c) :
    s.judgeDirNext f = s.entryAnswer (entryAfter c s.directory) := by simp only [State.judgeDirNext, h]
theorem judgeDirNext_of_bad {s : State} {f : CodeField} (h : f.codeOrEmpty = none) :
    s.judgeDirNext f = .turnedDown .badArgument := by simp only [State.judgeDirNext, h]

/-- Settles O50. -/
theorem dirReadsReturnEntries : Obligations.DirReadsReturnEntries := by
  intro s l f more hord horigin answers get next fits
  refine ⟨fun hbad hdel hroom => ?_, fun hbad hdel hroom => ?_, fun hfits hpos => ⟨fun e he hcode hdel hroom => ?_,
    fun habsent hdel hroom => ?_⟩, fun hfits => ⟨fun e he hafter hfirst hdel hroom => ?_, fun hnone hdel hroom => ?_⟩⟩
  · refine request_of_turnedDown (i := get) (k := .dirGet) rfl horigin hdel
      (judgeDirGet_of_bad (code_of_not_good fun h => hbad ⟨⟨h.2.1, h.2.2⟩, h.1⟩)) hroom
  · exact request_of_turnedDown (i := next) (k := .dirNext) rfl horigin hdel
      (judgeDirNext_of_bad (codeOrEmpty_of_not_fits hbad)) hroom
  · refine request_of_read (i := get) (k := .dirGet) rfl horigin hdel
      ((judgeDirGet_of_code (code_of_good ⟨hpos, hfits.1, hfits.2⟩)).trans ?_) hroom
    rw [arrived_directory, ← hcode, entryOf_of_mem hord.order he]
    rfl
  · refine request_of_turnedDown (i := get) (k := .dirGet) rfl horigin hdel
      ((judgeDirGet_of_code (code_of_good ⟨hpos, hfits.1, hfits.2⟩)).trans ?_) hroom
    rw [arrived_directory, (entryOf_eq_none_iff _ _).mpr habsent]
    rfl
  · refine request_of_read (i := next) (k := .dirNext) rfl horigin hdel
      ((judgeDirNext_of_code (codeOrEmpty_of_fits hfits)).trans ?_) hroom
    rw [arrived_directory, entryAfter_of_first hord.order he hafter hfirst]
    rfl
  · refine request_of_turnedDown (i := next) (k := .dirNext) rfl horigin hdel
      ((judgeDirNext_of_code (codeOrEmpty_of_fits hfits)).trans ?_) hroom
    rw [arrived_directory, entryAfter_of_none hnone]
    rfl

/-! ### O51: the requests that read the switch -/

theorem calls_toList (s : State) : s.calls.toList = allCalls.map s.call := by
  have e : allCalls = List.finRange 16 := by decide
  rw [e]
  refine List.ext_getElem (by simp) fun i h1 h2 => ?_
  simp [State.call]

theorem inUse_eq (s : State) : s.inUse = allCalls.countP fun n => decide ((s.call n).state ≠ .idle) := by
  rw [State.inUse, calls_toList, List.countP_map]; rfl

theorem toNat_call_octet (n : CallNo) : (BitVec.ofNat 8 n.val).toNat = n.val := toNat_ofNat_octet (by omega)

/-- CALL_GET of a record and a part of its number. -/
theorem judgeCallGet_of_number (s : State) (n : CallNo) (part : Octet) :
    s.judgeCallGet (BitVec.ofNat 8 n.val) part =
      (match part.toNat with
       | 0 => .done s ((s.call n).part0 n)
       | 1 =>
         match (s.call n).resolved with
         | some x => .done s x.part1
         | none => .done { s with freeIndex := s.freeIndex + 9 } s.part1Absent
       | 2 => .done s (s.call n).part2
       | 3 => .done s (s.call n).part3
       | _ => .turnedDown .badArgument) := by
  have h := toNat_call_octet n
  have hlt : (BitVec.ofNat 8 n.val).toNat < 16 := by omega
  have hn : (⟨(BitVec.ofNat 8 n.val).toNat, hlt⟩ : CallNo) = n := Fin.ext h
  rw [State.judgeCallGet, dif_pos hlt, hn] <;> rfl

theorem judgeCallGet_part1 {s : State} {n : CallNo} {x : Resolved} (h : (s.call n).resolved = some x) :
    s.judgeCallGet (BitVec.ofNat 8 n.val) 0x01#8 = .done s x.part1 := by
  rw [judgeCallGet_of_number, h]
  rfl

theorem judgeCallGet_part1_absent {s : State} {n : CallNo} (h : (s.call n).resolved = none) :
    s.judgeCallGet (BitVec.ofNat 8 n.val) 0x01#8 =
      .done { s with freeIndex := s.freeIndex + 9 } s.part1Absent := by
  rw [judgeCallGet_of_number, h]
  rfl

theorem judgeCallGet_of_bad {s : State} {a b : Octet} (h : 15 < a.toNat ∨ 3 < b.toNat) :
    s.judgeCallGet a b = .turnedDown .badArgument := by
  unfold State.judgeCallGet
  split
  next hlt =>
    have hb : 3 < b.toNat := h.resolve_left (by omega)
    dsimp only
    split
    next h0 => omega
    next h1 => omega
    next h2 => omega
    next h3 => omega
    next => rfl
  next => rfl

/-- The causes in the order of Table 1-9. -/
def allCauses : List Cause :=
  [.callerCancel, .callerHungup, .targetHungup, .unknown, .barred, .busy, .quiet, .absent, .noAnswer, .declined,
   .congestion, .noDesk, .timeLimit, .linkLost, .forced, .restart, .accessDone, .accessDenied]

/-- The PROGRESS values in the order of Table 9-7. -/
def allProgress : List Progress :=
  [.ringback, .wait, .busy, .unknown, .barred, .unavailable, .noReply, .talk, .warn, .cleared, .closed, .opened, .denied]

theorem causeCode_some (k : Cause) : causeCode (some k) = BitVec.ofNat 8 (allCauses.idxOf k + 1) := by cases k <;> rfl

theorem causeCode_eq (x : Option Cause) :
    causeCode x =
      match x with
      | some k => BitVec.ofNat 8 (allCauses.idxOf k + 1)
      | none => 0x00#8 := by
  cases x with
  | none => rfl
  | some k => exact causeCode_some k

theorem progress_code (v : Progress) : v.code = BitVec.ofNat 8 (allProgress.idxOf v + 1) := by cases v <;> rfl

theorem callState_code (x : CallState) :
    x.code = BitVec.ofNat 8 ([CallState.idle, .dialling, .seeking, .camped, .queued, .alerting, .talking].idxOf x) := by
  cases x <;> rfl

theorem callKind_code (k : CallKind) : k.code = BitVec.ofNat 8 ([CallKind.entrance, .resident, .desk].idxOf k + 1) := by
  cases k <;> rfl

theorem stateCountName_eq (x : Option StateCount) :
    stateCountName x =
      match x with
      | some x => [StateTimer.digit, .camp, .alert, .deskRing].idxOf x.timer + 1
      | none => 0 := by
  cases x with
  | none => rfl
  | some x =>
    obtain ⟨timer, frames⟩ := x
    cases timer <;> rfl

theorem waitCountName_eq (x : Option WaitCount) :
    waitCountName x =
      match x with
      | some x => [WaitTimer.seek, .deskWait].idxOf x.timer + 5
      | none => 0 := by
  cases x with
  | none => rfl
  | some x =>
    obtain ⟨timer, frames, held⟩ := x
    cases timer <;> rfl

theorem octetOr_map {α : Type} (f : α → Octet) (g : α → Nat) (h : ∀ a, f a = BitVec.ofNat 8 (g a)) (x : Option α) :
    (x.map f).getD 0xFF#8 = octetOr (x.map g) := by
  cases x with
  | none => rfl
  | some a => exact h a

theorem part0_eq (n : CallNo) (c : CallRecord) :
    c.part0 n =
      [BitVec.ofNat 8 n.val,
        BitVec.ofNat 8 ([CallState.idle, .dialling, .seeking, .camped, .queued, .alerting, .talking].idxOf c.state),
        octetOr (c.kind.map fun k => [CallKind.entrance, .resident, .desk].idxOf k + 1)] ++ partyOctets c.origin ++
        codeOctets c.digits ++ [flagOctet c.forwarded, flagOctet c.extended] ++ partyOctets c.answerer ++
        partyOctets c.joinedParty ++
        [BitVec.ofNat 8 c.releases, causeCode c.lastCause, octetOr (c.lastProgress.map fun v => allProgress.idxOf v + 1)] := by
  rw [CallRecord.part0, callState_code, octetOr_map _ _ callKind_code, octetOr_map _ _ progress_code]

/-- The link unit of a link once a message has arrived. -/
theorem arrived_link (s : State) (l k : LinkId) (m : Message) :
    (s.arrived l m).link k =
      { s.link k with rx := if k = l ∧ (s.link k).rx = [] then [.message m] else (s.link k).rx } := by
  by_cases hk : k = l
  · subst hk
    by_cases hrx : (s.link k).rx = []
    · simp [State.arrived, hrx]
    · simp [State.arrived, hrx]
  · rw [arrived_link_ne s m hk, if_neg fun h => hk h.1]

theorem arrived_stationExists (s : State) (l : LinkId) (m : Message) (p : Fin 4) (a : Octet) :
    (s.arrived l m).stationExists p a = s.stationExists p a := by
  simp only [State.stationExists, arrived_link, arrived_params]

theorem idlePlace_of_not_mem {s : State} {q : Fin 6} (h : q ∉ s.idleOrder) : s.idlePlace q = none := if_neg h

theorem idlePlace_of_append {s : State} {q : Fin 6} {before after : List (Fin 6)} (h : s.idleOrder = before ++ q :: after)
    (hq : q ∉ before) : s.idlePlace q = some (before.length + 1) := by
  have hmem : q ∈ s.idleOrder := by simp [h]
  rw [State.idlePlace, if_pos hmem, h, List.idxOf_append_of_notMem hq]
  simp

theorem judgePartyGet_of_party (s : State) (x : Party) : s.judgePartyGet x.link.code x.addr = .done s (s.partyData x) := by
  simp only [State.judgePartyGet, partyOfOctets_party]

theorem judgePartyGet_of_bad {s : State} {a b : Octet} (h : ∀ x : Party, a ≠ x.link.code ∨ b ≠ x.addr) :
    s.judgePartyGet a b = .turnedDown .badArgument := by
  unfold State.judgePartyGet
  split
  next x hx =>
    obtain ⟨ha, hb⟩ := octets_of_partyOfOctets hx
    exact ((h x).elim (fun h => h ha) fun h => h hb).elim
  next => rfl

theorem judgeLinkGet_of_link (s : State) (k : LinkId) : s.judgeLinkGet k.code = .done s (s.linkData k) := by
  simp only [State.judgeLinkGet, linkOfCode_code]

theorem judgeLinkGet_of_bad {s : State} {a : Octet} (h : ∀ k : LinkId, a ≠ k.code) :
    s.judgeLinkGet a = .turnedDown .badArgument := by
  simp only [State.judgeLinkGet, linkOfCode_eq_none h]

/-- A part of CALL_GET that is read and changes nothing. -/
theorem callGet_answers {s : State} {l : LinkId} {n : CallNo} {part : Octet} {more data : List Octet}
    (horigin : s.inOrigin l = true)
    (hdel : s.deliverable l (managementMsg 0x8C#8 (BitVec.ofNat 8 n.val :: part :: more)) = true)
    (hroom : s.Room [(l, resultMsg 0x8C#8 .ok data)])
    (hdata : ∀ t : State, t.call n = s.call n → t.judgeCallGet (BitVec.ofNat 8 n.val) part = .done t data) :
    ∃ t, exec (.callGet l (BitVec.ofNat 8 n.val :: part :: more)) s = .next t ∧
      DeliversAndSends s t l (managementMsg 0x8C#8 (BitVec.ofNat 8 n.val :: part :: more)) [(l, resultMsg 0x8C#8 .ok data)] ∧
      t = { s with links := t.links } :=
  request_of_read (k := .callGet) rfl horigin hdel (hdata _ (arrived_call ..)) hroom

theorem part1_eq (x : Resolved) :
    x.part1 =
      [0x01#8] ++
        (match x.targets with
         | .flat ts => BitVec.ofNat 8 ts.length :: padTo 8 (ts.flatMap fun t => partyOctets (some (.handset t.1 t.2)))
         | .desk => 0x0F#8 :: List.replicate 8 0xFF#8) ++
        [flagOctet x.fallback, flagOctet x.camp, flagOctet x.duplex, BitVec.ofNat 8 x.alertTime] ++ codeOctets x.code := by
  rw [Resolved.part1]
  cases x.targets <;> rfl

theorem part3_eq (c : CallRecord) :
    c.part3 =
      match c.state, c.lastPeriod with
      | .talking, some v =>
        [match v.mode with
         | .switched => 1#8
         | .duplex => 2#8
         | .mixed => 3#8] ++ be16 v.originMeter ++ be16 v.answererMeter ++
          (match v.joinedMeter with
           | some j => be16 j
           | none => [0xFF#8, 0xFF#8]) ++
          [match v.direction with
           | .neutral => 0#8
           | .entrance => 1#8
           | .inside => 2#8] ++ be16 v.hang
      | _, _ => [0xFF#8, 0#8, 0#8, 0#8, 0#8, 0#8, 0#8, 0#8, 0#8, 0#8] := by
  rw [CallRecord.part3]
  cases c.state <;> cases c.lastPeriod <;> rfl

theorem part2_eq (c : CallRecord) :
    c.part2 =
      BitVec.ofNat 8 c.alerted.length :: padTo 8 (c.alerted.flatMap fun x => partyOctets (some x)) ++
        BitVec.ofNat 8 c.reservations.length :: padTo 4 (c.reservations.map reservationOctet) ++
        [BitVec.ofNat 8 (stateCountName c.stateCount * 16 + waitCountName c.waitCount)] ++
        timerOctets (c.stateCount.map (·.frames)) ++ timerOctets (c.waitCount.map (·.frames)) ++ talkOctets c.talk ++
        [octetOr c.graceBound] := by
  simp only [CallRecord.part2, List.append_assoc, List.cons_append, List.nil_append]

/-- The data of LINK_GET once the request has arrived. -/
theorem linkData_arrived (s : State) (l k : LinkId) (m : Message) :
    (s.arrived l m).linkData k =
      [(s.link k).state.code] ++ be16 (s.link k).badFrames ++ be16 (s.link k).checkErrors ++ be16 (s.link k).overruns ++
        be16 (s.link k).txDrops ++
        [BitVec.ofNat 8 (if k = l ∧ (s.link k).rx = [] then 1 else (s.link k).rx.length), flagOctet (s.link k).holding.isSome,
          BitVec.ofNat 8 (s.link k).tx.length,
          flagOctet (decide (4 ≤ if k = l ∧ (s.link k).rx = [] then 1 else (s.link k).rx.length))] ++
        s.linkTail k := by
  have hrx : ((s.arrived l m).link k).rx.length = if k = l ∧ (s.link k).rx = [] then 1 else (s.link k).rx.length := by
    rw [arrived_link]
    split
    · rfl
    · rfl
  have htail : (s.arrived l m).linkTail k = s.linkTail k := by
    cases k <;> simp only [State.linkTail, arrived_link, arrived_door, arrived_turn]
  have hother : ((s.arrived l m).link k) = { s.link k with rx := ((s.arrived l m).link k).rx } := by
    rw [arrived_link]
  simp only [State.linkData, LinkUnit.holdsOff, Config.receivePlaces, hrx, htail]
  rw [hother]

/-- Settles O51. -/
theorem readRequestsReturnTheirData : Obligations.ReadRequestsReturnTheirData := by
  intro s l more horigin answers turnsDown two flag party number timer filled code
  refine ⟨fun a b => ⟨fun hbad hdel => answers_of_delivers fun hroom => ?_,
    fun hbad hdel => answers_of_delivers fun hroom => ?_, fun hbad hdel => answers_of_delivers fun hroom => ?_⟩,
    fun hdel hroom => ?_, fun x data hdata hdel hroom => ?_, fun n => ?_, fun k hdel hroom => ?_⟩
  · exact request_of_turnedDown (i := .callGet l (a :: b :: more)) (k := .callGet) rfl horigin hdel
      (judgeCallGet_of_bad hbad) hroom
  · exact request_of_turnedDown (i := .partyGet l (a :: b :: more)) (k := .partyGet) rfl horigin hdel
      (judgePartyGet_of_bad hbad) hroom
  · exact request_of_turnedDown (i := .linkGet l (a :: more)) (k := .linkGet) rfl horigin hdel
      (judgeLinkGet_of_bad hbad) hroom
  · refine request_of_read (k := .status) (judge := fun t => .done t t.statusData) rfl horigin hdel
      (congrArg (Answer.done _) ?_) hroom
    have hkept : (s.arrived l (managementMsg Request.status.code more)).statusData = s.statusData := by
      rw [arrived_frame]; rfl
    rw [hkept, State.statusData, inUse_eq]
    rfl
  · refine request_of_read (k := .partyGet) rfl horigin hdel
      ((judgePartyGet_of_party _ x).trans (congrArg (Answer.done _) ?_)) hroom
    cases x with
    | station p st =>
      have hst : (BitVec.ofNat 8 st.val).toNat = st.val := toNat_ofNat_octet (by omega)
      obtain rfl : data = _ := hdata
      rw [State.partyData, arrived_stationExists, arrived_station, State.stationExists, hst, Bool.decide_and]
      rfl
    | handset r a =>
      obtain rfl : data = _ := hdata
      simp only [State.partyData, arrived_handset]
      rfl
    | position q =>
      obtain ⟨place, hplace, rfl⟩ := hdata
      have hidle : (s.arrived l (managementMsg Request.partyGet.code
          ((Party.position q).link.code :: (Party.position q).addr :: more))).idlePlace q = place := by
        obtain ⟨hq, rfl⟩ | ⟨before, after, horder, hq, rfl⟩ := hplace
        · exact idlePlace_of_not_mem (by rwa [arrived_idleOrder])
        · exact idlePlace_of_append (by rwa [arrived_idleOrder]) hq
      simp only [State.partyData, arrived_position, hidle]
      rfl
  · intro c args part causes shown stateTimers waitTimers
    refine ⟨fun hdel hroom => callGet_answers horigin hdel hroom fun t ht => ?_,
      fun x hx hdel hroom => callGet_answers horigin hdel hroom fun t ht => ?_, fun hx => ?_,
      fun hdel hroom => callGet_answers horigin hdel hroom fun t ht => ?_,
      fun hdel hroom => callGet_answers horigin hdel hroom fun t ht => ?_⟩
    · rw [judgeCallGet_of_number, ht]
      refine congrArg (Answer.done t) ((part0_eq n _).trans ?_)
      show _ = _ ++ [BitVec.ofNat 8 c.releases, _, _]
      rw [causeCode_eq]
      rfl
    · rw [judgeCallGet_part1 (x := x) (by rw [ht]; exact hx)]
      exact congrArg (Answer.done t) (part1_eq x)
    · refine ⟨Config.freeOctet s.freeIndex, (List.range 8).map fun k => Config.freeOctet (s.freeIndex + 1 + k),
        by simp, fun hdel hroom => ?_⟩
      obtain ⟨t, ht, hsends, hframe⟩ := exec_request_quiet (i := .callGet l (BitVec.ofNat 8 n.val :: 0x01#8 :: more)) (s := s)
        (u := { s with freeIndex := s.freeIndex + 9 }) (k := .callGet) (data := s.part1Absent) rfl horigin hdel rfl hroom
        fun L _ => judgeCallGet_part1_absent (s := s.relinked L) hx
      exact ⟨t, ht, hsends, by rw [hframe]⟩
    · rw [judgeCallGet_of_number, ht]
      refine congrArg (Answer.done t) ((part2_eq _).trans ?_)
      rw [stateCountName_eq, waitCountName_eq]
      rfl
    · rw [judgeCallGet_of_number, ht]
      exact congrArg (Answer.done t) (part3_eq _)
  · refine request_of_read (k := .linkGet) rfl horigin hdel
      ((judgeLinkGet_of_link _ k).trans (congrArg (Answer.done _) ?_)) hroom
    rw [linkData_arrived]
    rfl

end Sys2Proof.Machine
end

section
/-!
PROOF. What the doors and the plain expiries do: the door contact (O33, O35), the release a party asks for (O40), the talk
warning (O58), the hold-off wait and the second (O59).
-/

namespace Sys2Proof.Machine

/-! ### Stations and talkers -/

theorem alike_stationExists {s : State} {L : Vector LinkUnit 13} (h : s.Alike L) (p : Fin 4) (a : Octet) :
    (s.relinked L).stationExists p a = s.stationExists p a := by
  rw [State.stationExists, (h _).1]; rfl

/-- The delivery of a station's message whose work writes `u` beside the link units, sends `out` and brings `notice`. -/
theorem exec_station {i : Instr} {s u : State} {p : Fin 4} {st : Fin 2} {m : Message} {f : Fin 2 → State → State}
    {out notice : List (LinkId × Message)}
    (hexec : exec i s = .next (s.deliverParty (.panel p) m fun t => t.fromStation p (BitVec.ofNat 8 st.val) f))
    (hexists : s.stationExists p (BitVec.ofNat 8 st.val) = true) (haddr : m.addr = BitVec.ofNat 8 st.val)
    (hdel : s.deliverable (.panel p) m = true) (hnotice : noticeOf s u = notice) (hroom : s.Room (out ++ notice))
    (hf : ∀ L, s.Alike L → f st (s.relinked L) = (u.relinked L).sent out) :
    ∃ t, exec i s = .next t ∧ DeliversAndSends s t (.panel p) m (out ++ notice) ∧ t = { u with links := t.links } :=
  exec_party hexec (by rw [haddr]; exact stationAddress_ne_management st) hdel hnotice hroom fun L hL => by
    rw [fromStation_of_exists _ (by rw [alike_stationExists hL]; exact hexists)]
    exact hf L hL

/-- A station's message that raises nothing. -/
theorem exec_station_quiet {i : Instr} {s u : State} {p : Fin 4} {st : Fin 2} {m : Message} {f : Fin 2 → State → State}
    {out : List (LinkId × Message)}
    (hexec : exec i s = .next (s.deliverParty (.panel p) m fun t => t.fromStation p (BitVec.ofNat 8 st.val) f))
    (hexists : s.stationExists p (BitVec.ofNat 8 st.val) = true) (haddr : m.addr = BitVec.ofNat 8 st.val)
    (hdel : s.deliverable (.panel p) m = true) (hquiet : u.maskedPending = s.maskedPending) (hroom : s.Room out)
    (hf : ∀ L, s.Alike L → f st (s.relinked L) = (u.relinked L).sent out) :
    ∃ t, exec i s = .next t ∧ DeliversAndSends s t (.panel p) m out ∧ t = { u with links := t.links } := by
  have h := exec_station hexec hexists haddr hdel (noticeOf_of_kept hquiet) (by rwa [List.append_nil]) hf
  rwa [List.append_nil] at h

theorem setHandset_handset_eq (s : State) (r : Fin 8) (a : Fin 63) : s.setHandset r a (s.handset r a) = s := by
  simp [State.setHandset, State.handset]

theorem notePresence_of_heard {s : State} {r : Fin 8} {a : Fin 63} (h : s.Heard (.handset r a)) : s.notePresence r a = s := by
  obtain ⟨hpresent, hmisses⟩ := h
  rw [State.notePresence, if_pos hpresent]
  have hsame : ({ s.handset r a with present := true, misses := 0 } : Handset) = s.handset r a := by
    rw [← hpresent, ← hmisses]
  rw [hsame, setHandset_handset_eq]

theorem fromTalker_of_heard {s : State} {y : Talker} {x : Party} (f : Party → State → State) (hx : y.party = some x)
    (h : s.Heard y) : s.fromTalker y f = f x s := by
  cases y with
  | handset r a =>
    obtain rfl : Party.handset r a = x := Option.some.inj hx
    rw [State.fromTalker, State.fromHandset, notePresence_of_heard h]
  | position a =>
    have ha : a.toNat < 6 := h
    obtain rfl : Party.position ⟨a.toNat, ha⟩ = x := by
      have hparty : Talker.party (.position a) = some (.position ⟨a.toNat, ha⟩) := dif_pos ha
      exact Option.some.inj (hparty.symm.trans hx)
    rw [State.fromTalker, State.fromPosition, dif_pos ha]

theorem talkerAddress_ne_management {y : Talker} (h : talkerOk y = true) : y.addr ≠ Config.managementAddress := by
  intro haddr
  rw [talkerOk, haddr] at h
  exact absurd h (by decide)

/-- The delivery of a talker's message whose work writes `u` beside the link units, sends `out` and brings `notice`. -/
theorem exec_talker {i : Instr} {s u : State} {y : Talker} {x : Party} {m : Message} {f : Party → State → State}
    {out notice : List (LinkId × Message)} (hexec : exec i s = .next (s.deliverParty y.link m fun t => t.fromTalker y f))
    (hx : y.party = some x) (hheard : s.Heard y) (hok : talkerOk y = true) (haddr : m.addr = y.addr)
    (hdel : s.deliverable y.link m = true) (hnotice : noticeOf s u = notice) (hroom : s.Room (out ++ notice))
    (hf : ∀ L, s.Alike L → f x (s.relinked L) = (u.relinked L).sent out) :
    ∃ t, exec i s = .next t ∧ DeliversAndSends s t y.link m (out ++ notice) ∧ t = { u with links := t.links } :=
  exec_party hexec (by rw [haddr]; exact talkerAddress_ne_management hok) hdel hnotice hroom fun L hL => by
    have hheard' : (s.relinked L).Heard y := by cases y <;> exact hheard
    rw [fromTalker_of_heard f hx hheard']
    exact hf L hL

/-- A talker's message that raises nothing. -/
theorem exec_talker_quiet {i : Instr} {s u : State} {y : Talker} {x : Party} {m : Message} {f : Party → State → State}
    {out : List (LinkId × Message)} (hexec : exec i s = .next (s.deliverParty y.link m fun t => t.fromTalker y f))
    (hx : y.party = some x) (hheard : s.Heard y) (hok : talkerOk y = true) (haddr : m.addr = y.addr)
    (hdel : s.deliverable y.link m = true) (hquiet : u.maskedPending = s.maskedPending) (hroom : s.Room out)
    (hf : ∀ L, s.Alike L → f x (s.relinked L) = (u.relinked L).sent out) :
    ∃ t, exec i s = .next t ∧ DeliversAndSends s t y.link m out ∧ t = { u with links := t.links } := by
  have h := exec_talker hexec hx hheard hok haddr hdel (noticeOf_of_kept hquiet) (by rwa [List.append_nil]) hf
  rwa [List.append_nil] at h

/-! ### The door contact (R129 to R133) -/

theorem heldOpenLoad_eq (p : Params) : heldOpenLoad p = if p.heldLimit = 0 then none else some (p.heldLimit * 8000) := by
  rw [heldOpenLoad, Nat.mul_assoc]; rfl

/-- A door that has just opened. -/
def openedDoor (p : Params) : Door := { state := .opened, releaseTimer := none, heldOpenTimer := heldOpenLoad p }

theorem openedDoor_eq (p : Params) :
    openedDoor p =
      { state := .opened, releaseTimer := none, heldOpenTimer := if p.heldLimit = 0 then none else some (p.heldLimit * 8000) } := by
  rw [openedDoor, heldOpenLoad_eq]

theorem doorOpens_of_released {s : State} {p : Fin 4} (h : (s.door p).state = .released) :
    s.doorOpens p = s.setDoor p (openedDoor s.params) := by
  simp only [State.doorOpens, h]; rfl

theorem doorOpens_of_locked {s : State} {p : Fin 4} (h : (s.door p).state = .locked) :
    s.doorOpens p = (s.setDoor p (openedDoor s.params)).raise .door := by
  simp only [State.doorOpens, h]; rfl

theorem doorOpens_of_opened {s : State} {p : Fin 4} (h : (s.door p).state = .opened) : s.doorOpens p = s := by
  simp only [State.doorOpens, h]

theorem heldOpenExpires_of_due {s : State} {p : Fin 4} (h : (s.door p).state = .opened)
    (ht : (s.door p).heldOpenTimer = some 0) :
    s.heldOpenExpires p = (s.setDoor p { s.door p with heldOpenTimer := none }).raise .door := if_pos ⟨h, ht⟩

theorem event_of_unchanged {s : State} {f : State → State} (h : f s = s) : s.event f = s := by
  rw [State.event, h, settle_of_not_gains (gains_self _)]

/-- DOOR_OPEN from a station that exists, by what its door makes of it. -/
theorem exec_doorOpen {s u : State} {p : Fin 4} {st : Fin 2} {notice : List (LinkId × Message)}
    (hexists : s.stationExists p (BitVec.ofNat 8 st.val) = true)
    (hdel : s.deliverable (.panel p) (doorMsg (BitVec.ofNat 8 st.val) true) = true) (hnotice : noticeOf s u = notice)
    (hroom : s.Room notice) (hf : ∀ L, (s.relinked L).doorOpens p = u.relinked L) :
    ∃ t, exec (.doorOpen p (BitVec.ofNat 8 st.val)) s = .next t ∧
      DeliversAndSends s t (.panel p) (doorMsg (BitVec.ofNat 8 st.val) true) notice ∧ t = { u with links := t.links } :=
  exec_station (out := []) rfl hexists rfl hdel hnotice hroom fun L _ => hf L

/-- Settles O33: what the contact's report does by the state of the door, and the expiry of its held-open timer. -/
theorem doorOpenAndHeldOpenExpiry : Obligations.DoorOpenAndHeldOpenExpiry := by
  refine ⟨fun s p st hexists hdel => ?_, fun s p => ⟨fun hstate htimer hroom => ?expired, fun hnot => ?early⟩⟩
  · intro opened
    have hopened : openedDoor s.params = opened := openedDoor_eq s.params
    refine ⟨fun h => ?released, fun h hroom => ?locked, fun h => ?opened⟩
    case released =>
      refine exec_doorOpen (u := { s with doors := s.doors.set p opened }) hexists hdel (noticeOf_of_kept rfl) (room_nil s)
        fun L => ?_
      rw [doorOpens_of_released (s := s.relinked L) h, relinked_params, hopened]
      rfl
    case locked =>
      refine exec_doorOpen (u := { s with doors := s.doors.set p opened, attention := s.attention ||| 0x08#8 }) hexists hdel
        (noticeOf_raised rfl rfl) hroom fun L => ?_
      rw [doorOpens_of_locked (s := s.relinked L) h, relinked_params, hopened]
      rfl
    case opened =>
      exact exec_doorOpen (u := s) hexists hdel (noticeOf_of_kept rfl) (room_nil s) fun L => doorOpens_of_opened h
  case expired =>
    refine exec_event (out := []) (u := { s with
      attention := s.attention ||| 0x08#8, doors := s.doors.set p { s.door p with heldOpenTimer := none } }) rfl
      (noticeOf_raised rfl rfl) hroom ?_
    rw [heldOpenExpires_of_due hstate htimer]
    rfl
  case early =>
    exact congrArg Host.Outcome.next (event_of_unchanged (if_neg fun h => hnot.elim (· h.1) (· h.2)))

/-! ### The release timer (R131) -/

theorem releaseExpires_of_due {s : State} {p : Fin 4} (h : (s.door p).state = .released)
    (ht : (s.door p).releaseTimer = some 0) : s.releaseExpires p = s.setDoor p Door.lockedShut := if_pos ⟨h, ht⟩

theorem exec_releaseTimerExpiry_early {s : State} {p : Fin 4}
    (h : (s.door p).state ≠ .released ∨ (s.door p).releaseTimer ≠ some 0) :
    exec (.releaseTimerExpiry p) s = .next s :=
  congrArg Host.Outcome.next (event_of_unchanged (if_neg fun hdue => h.elim (· hdue.1) (· hdue.2)))

theorem exec_releaseTimerExpiry_due {s : State} {p : Fin 4} (h : (s.door p).state = .released)
    (ht : (s.door p).releaseTimer = some 0) :
    exec (.releaseTimerExpiry p) s = .next (s.setDoor p Door.lockedShut) := by
  refine congrArg Host.Outcome.next ?_
  rw [State.event, releaseExpires_of_due h ht]
  exact settle_of_not_gains (gains_self _)

/-- DOOR_SHUT from a station that exists leaves its door LOCKED. -/
theorem exec_doorShut_locks {s : State} {p : Fin 4} {st : Fin 2} (hexists : s.stationExists p (BitVec.ofNat 8 st.val) = true)
    (hdel : s.deliverable (.panel p) (doorMsg (BitVec.ofNat 8 st.val) false) = true) :
    ∃ t, exec (.doorShut p (BitVec.ofNat 8 st.val)) s = .next t ∧ (t.door p).state = .locked := by
  obtain ⟨t, ht, -, hframe⟩ := exec_station_quiet (i := .doorShut p (BitVec.ofNat 8 st.val)) (s := s) (u := s.doorShuts p)
    (out := []) rfl hexists rfl hdel (doorShuts_maskedPending s p) (room_nil s) fun L _ => by
      rw [doorShuts_frame, doorShuts_frame s]
      show _ = ({ s with doors := (s.doorShuts p).doors } : State).relinked L
      unfold State.doorShuts
      rw [relinked_door]
      cases (s.door p).state <;> rfl
  refine ⟨t, ht, ?_⟩
  have hdoor : t.door p = (s.doorShuts p).door p := by rw [hframe]; rfl
  rw [hdoor]
  cases h : (s.door p).state with
  | locked => rw [doorShuts_of_locked h, h]
  | released => rw [doorShuts_of_unlocked (.inr h), setDoor_door_self]; rfl
  | opened => rw [doorShuts_of_unlocked (.inl h), setDoor_door_self]; rfl

/-- A class pending before a message is put is pending after it. -/
theorem put_keeps_class (s : State) (l : LinkId) (m : Message) {i : Nat} (h : s.attention.getLsbD i = true) :
    (s.put l m).attention.getLsbD i = true := by
  rcases put_cases s l m with ⟨-, e⟩ | ⟨-, -, e⟩ | ⟨-, -, e⟩
  · rwa [e]
  · rw [e]; exact h
  · rw [e]
    show (s.attention ||| AttentionClass.bit .fault).getLsbD i = true
    rw [BitVec.getLsbD_or, h, Bool.true_or]

/-- A class pending at the end of an event stays pending. -/
theorem settle_keeps_class {s : State} (before : State) {i : Nat} (h : s.attention.getLsbD i = true) :
    (s.settle before).attention.getLsbD i = true := by
  rcases settle_cases s before with e | e | e
  · rwa [e]
  · rw [e]; exact put_keeps_class _ _ _ h
  · rw [e]; exact put_keeps_class _ _ _ (put_keeps_class _ _ _ h)

theorem removeHead_frame (s : State) (l : LinkId) (e : RxEntry) :
    s.removeHead l e = { s with links := (s.removeHead l e).links } := by
  unfold State.removeHead
  split
  · rfl
  · rfl

/-- DOOR_OPEN from a station that exists leaves its door OPEN; it raises no class on a RELEASED door, and DOOR on a LOCKED
one. -/
theorem exec_doorOpen_opens {s : State} {p : Fin 4} {st : Fin 2} (hexists : s.stationExists p (BitVec.ofNat 8 st.val) = true)
    (hdel : s.deliverable (.panel p) (doorMsg (BitVec.ofNat 8 st.val) true) = true) :
    ((s.door p).state = .released →
      ∃ t, exec (.doorOpen p (BitVec.ofNat 8 st.val)) s = .next t ∧ (t.door p).state = .opened ∧
        t.attention = s.attention) ∧
    ((s.door p).state = .locked →
      ∃ t, exec (.doorOpen p (BitVec.ofNat 8 st.val)) s = .next t ∧ (t.door p).state = .opened ∧
        t.attention.getLsbD 3 = true) := by
  refine ⟨fun h => ?released, fun h => ?locked⟩
  case released =>
    obtain ⟨t, ht, -, hframe⟩ := exec_doorOpen (s := s) (u := s.setDoor p (openedDoor s.params)) hexists hdel
      (noticeOf_of_kept rfl) (room_nil s) fun L => doorOpens_of_released (s := s.relinked L) h
    have hdoor : t.door p = (s.setDoor p (openedDoor s.params)).door p := by rw [hframe]; rfl
    exact ⟨t, ht, by rw [hdoor, setDoor_door_self]; rfl, by rw [hframe]; rfl⟩
  case locked =>
    have harrived : ((s.arrived (.panel p) (doorMsg (BitVec.ofNat 8 st.val) true)).door p).state = .locked := by
      rw [arrived_door]; exact h
    have hexec : exec (.doorOpen p (BitVec.ofNat 8 st.val)) s = .next
        (((((s.arrived (.panel p) (doorMsg (BitVec.ofNat 8 st.val) true)).setDoor p (openedDoor s.params)).raise .door).settle
          (s.arrived (.panel p) (doorMsg (BitVec.ofNat 8 st.val) true))).removeHead (.panel p)
            (.message (doorMsg (BitVec.ofNat 8 st.val) true))) := by
      refine congrArg Host.Outcome.next ?_
      rw [deliverParty_eq_deliver _ (stationAddress_ne_management st), deliver_of_deliverable _ hdel,
        fromStation_of_exists _ (by rw [arrived_stationExists]; exact hexists), doorOpens_of_locked harrived, arrived_params]
    refine ⟨_, hexec, ?_, ?_⟩
    · rw [removeHead_frame, settle_frame]
      show ((State.setDoor _ p _).door p).state = _
      rw [setDoor_door_self]; rfl
    · rw [removeHead_frame]
      refine settle_keeps_class _ ?_
      show (_ ||| AttentionClass.bit .door).getLsbD 3 = true
      rw [BitVec.getLsbD_or]
      exact Bool.or_eq_true_iff.mpr (.inr rfl)

/-- Settles O35: both orders of the expiry and the contact's report, each step by what it leaves of the door. -/
theorem releaseTimerExpiryLocksTheDoor : Obligations.ReleaseTimerExpiryLocksTheDoor := by
  intro s p st
  refine ⟨exec_releaseTimerExpiry_early, fun hstate htimer => ⟨exec_releaseTimerExpiry_due hstate htimer, fun hexists =>
    ⟨fun hdel => ?opening, fun hdel => ?shutting⟩⟩⟩
  case opening =>
    obtain ⟨t, ht, hopen, hkept⟩ := (exec_doorOpen_opens hexists hdel).1 hstate
    obtain ⟨w, hw, hopen', hraised⟩ := (exec_doorOpen_opens (s := s.setDoor p Door.lockedShut) hexists hdel).2
      (by rw [setDoor_door_self]; rfl)
    exact ⟨t, t, _, w, ht, exec_releaseTimerExpiry_early (.inl (by rw [hopen]; decide)),
      exec_releaseTimerExpiry_due hstate htimer, hw, rfl, hopen, hkept, hopen', hraised⟩
  case shutting =>
    obtain ⟨t, ht, hlocked⟩ := exec_doorShut_locks hexists hdel
    obtain ⟨w, hw, hlocked'⟩ := exec_doorShut_locks (s := s.setDoor p Door.lockedShut) hexists hdel
    exact ⟨t, t, _, w, ht, exec_releaseTimerExpiry_early (.inl (by rw [hlocked]; decide)),
      exec_releaseTimerExpiry_due hstate htimer, hw, hlocked, hlocked'⟩

/-! ### A release asked for (R126 to R128, R137 to R139) -/

/-- The journal record of a release started now (R137). -/
def State.releaseRecord (s : State) (p : Fin 4) (st : Fin 2) (kind : ReleaseKind) (granting : Option Party) (code : Code) :
    JournalRecord :=
  { sequence := s.journalSeq, stamp := s.seconds, panel := p, station := st, kind := kind, granting := granting,
    code := code }

/-- The journal with a record appended: what is kept of it, and the record. -/
def State.journalWith (s : State) (x : JournalRecord) : List JournalRecord :=
  (if decide (64 ≤ s.journal.length) then s.journal.drop 1 else s.journal) ++ [x]

/-- The class that an append to the journal raises. -/
def State.journalClass (s : State) (x : JournalRecord) : Octet :=
  if decide (64 ≤ s.journal.length) = true ∨ s.params.journalThreshold ≤ (s.journalWith x).length then 0x10#8 else 0x00#8

/-- The state with a record appended to the journal. -/
def State.withRecord (s : State) (x : JournalRecord) : State :=
  { s with
    journal := s.journalWith x
    journalSeq := (s.journalSeq + 1) % 65536
    overwrites := if decide (64 ≤ s.journal.length) then min (s.overwrites + 1) 65535 else s.overwrites
    attention := s.attention ||| s.journalClass x }

theorem appendJournal_eq (s : State) (p : Fin 4) (st : Fin 2) (kind : ReleaseKind) (granting : Option Party) (code : Code) :
    s.appendJournal p st kind granting code = s.withRecord (s.releaseRecord p st kind granting code) := by
  have hdrop : s.journal.tail = s.journal.drop 1 := List.drop_one.symm
  unfold State.appendJournal
  rw [hdrop]
  by_cases h : decide (64 ≤ s.journal.length) = true ∨
      s.params.journalThreshold ≤ (s.journalWith (s.releaseRecord p st kind granting code)).length
  · have hclass : s.journalClass (s.releaseRecord p st kind granting code) = 0x10#8 := if_pos h
    rw [State.withRecord, hclass]
    exact if_pos h
  · have hclass : s.journalClass (s.releaseRecord p st kind granting code) = 0x00#8 := if_neg h
    rw [State.withRecord, hclass, BitVec.or_zero]
    exact if_neg h

/-- What a release that starts writes beside its UNLOCK (R127). -/
def State.releasing (s : State) (n : CallNo) (p : Fin 4) (x : JournalRecord) : State :=
  { s.withRecord x with
    doors := s.doors.set p
      { state := .released, releaseTimer := some (s.params.releaseTime * 800), heldOpenTimer := none }
    calls := s.calls.set n { s.call n with releases := min ((s.call n).releases + 1) 255 } }

theorem startRelease_sent {s : State} {n : CallNo} {p : Fin 4} {st : Fin 2} {kind : ReleaseKind} {granting : Option Party}
    {code : Code} {out : List (LinkId × Message)}
    (hroom : s.Room (out ++ [(.panel p, unlockMsg (BitVec.ofNat 8 st.val) s.params.releaseTime)])) :
    (s.sent out).startRelease n p st kind granting code =
      (s.releasing n p (s.releaseRecord p st kind granting code)).sent (out ++ [(.panel p, unlockMsg (BitVec.ofNat 8 st.val) s.params.releaseTime)]) := by
  unfold State.startRelease
  rw [sent_params, show (Party.station p st).addr = BitVec.ofNat 8 st.val from rfl, put_sent hroom]
  simp only [appendJournal_eq]
  rfl

theorem requestRelease_of_unlocked {s : State} {n : CallNo} {p : Fin 4} {st : Fin 2} {kind : ReleaseKind}
    {granting : Option Party} {code : Code} (h : (s.door p).state ≠ .locked) :
    s.requestRelease n p st kind granting code = (.already, s) := by
  unfold State.requestRelease
  split
  next hl => exact absurd hl h
  next => rfl
  next => rfl

theorem requestRelease_of_down {s : State} {n : CallNo} {p : Fin 4} {st : Fin 2} {kind : ReleaseKind}
    {granting : Option Party} {code : Code} (h : (s.door p).state = .locked) (hl : (s.link (.panel p)).state = .down) :
    s.requestRelease n p st kind granting code = (.refused, s) := by
  simp only [State.requestRelease, h, hl, if_true]

theorem requestRelease_of_locked {s : State} {n : CallNo} {p : Fin 4} {st : Fin 2} {kind : ReleaseKind}
    {granting : Option Party} {code : Code} (h : (s.door p).state = .locked) (hl : (s.link (.panel p)).state ≠ .down) :
    s.requestRelease n p st kind granting code = (.started, s.startRelease n p st kind granting code) := by
  simp only [State.requestRelease, h, if_neg hl]

/-- A party may open the door of a station (R126). -/
def State.MayOpen (s : State) (x : Party) (n : CallNo) (role : Role) (p : Fin 4) (st : Fin 2) : Prop :=
  s.roleOf x = some (n, role) ∧ (role = .answerer ∨ role = .joined) ∧ (s.call n).kind = some .entrance ∧
    (s.call n).state = .talking ∧ (s.call n).origin = some (.station p st)

theorem doorCall_of_mayOpen {s : State} {x : Party} {n : CallNo} {role : Role} {p : Fin 4} {st : Fin 2}
    (h : s.MayOpen x n role p st) : s.doorCall x = some (n, p, st) := by
  obtain ⟨hrole, hro, hkind, hstate, horigin⟩ := h
  simp only [State.doorCall, hrole, hro, hkind, hstate, horigin, and_self, if_true]

theorem doorCall_eq_none {s : State} {x : Party} (h : ∀ n role p st, ¬ s.MayOpen x n role p st) : s.doorCall x = none := by
  unfold State.doorCall
  split
  next n ro hrole =>
    split
    next hcall =>
      obtain ⟨hro, hkind, hstate⟩ := hcall
      split
      next p st horigin => exact absurd ⟨hrole, hro, hkind, hstate, horigin⟩ (h n ro p st)
      next => rfl
    next => rfl
  next => rfl

theorem releaseKindOf_eq (x : Party) :
    releaseKindOf x =
      match x with
      | .position _ => .byDesk
      | _ => .byResident := by cases x <;> rfl

theorem entryCode_eq (c : CallRecord) :
    c.entryCode =
      match c.resolved with
      | some x => x.code
      | none => [] := by
  unfold CallRecord.entryCode
  cases c.resolved <;> rfl

/-- OPEN_DOOR of a sender that is heard, by what it writes and sends. -/
theorem exec_openDoor {s u : State} {y : Talker} {x : Party} {out notice : List (LinkId × Message)} (hx : y.party = some x)
    (hheard : s.Heard y) (hok : wellFormed (.openDoor y) = true)
    (hdel : s.deliverable y.link (bareMsg y.addr 0x14#8) = true) (hnotice : noticeOf s u = notice)
    (hroom : s.Room (out ++ notice)) (hf : ∀ L, s.Alike L → (s.relinked L).opensDoor x = (u.relinked L).sent out) :
    ∃ t, exec (.openDoor y) s = .next t ∧ DeliversAndSends s t y.link (bareMsg y.addr 0x14#8) (out ++ notice) ∧
      t = { u with links := t.links } :=
  exec_talker rfl hx hheard hok rfl hdel hnotice hroom hf

/-- OPEN_DOOR answered with a REPLY alone. -/
theorem openDoor_answers {s : State} {y : Talker} {x : Party} (v : Reply) (hx : y.party = some x)
    (hheard : s.Heard y) (hok : wellFormed (.openDoor y) = true)
    (hdel : s.deliverable y.link (bareMsg y.addr 0x14#8) = true)
    (hf : ∀ L, s.Alike L → (s.relinked L).opensDoor x = (s.relinked L).sendReply x v) :
    Answers (.openDoor y) s s (s.taking y.link (bareMsg y.addr 0x14#8)) [(x.link, replyMsg x.addr v)] :=
  answers_of_delivers fun hroom => exec_talker_quiet (i := .openDoor y) rfl hx hheard hok rfl hdel rfl hroom fun L hL =>
    (hf L hL).trans (put_of_room_sent (Alike.room hL hroom))

/-- Settles O40: the door unit's three answers, and the four steps of a release that starts. -/
theorem openDoorStartsARelease : Obligations.OpenDoorStartsARelease := by
  refine ⟨fun s y x hx hheard hok hdel => ?answered, ?started⟩
  case answered =>
    refine ⟨fun hnone => ?_, fun n role p st hmay => ⟨fun hdoor => ?_, fun hdoor hdown => ?_⟩⟩
    · refine openDoor_answers .refused hx hheard hok hdel fun L hL => ?_
      rw [State.opensDoor, doorCall_eq_none (s := s.relinked L) hnone]
    · refine openDoor_answers .already hx hheard hok hdel fun L hL => ?_
      rw [State.opensDoor, doorCall_of_mayOpen (s := s.relinked L) hmay]
      simp only [requestRelease_of_unlocked (s := s.relinked L) hdoor]
      rfl
    · refine openDoor_answers .refused hx hheard hok hdel fun L hL => ?_
      rw [State.opensDoor, doorCall_of_mayOpen (s := s.relinked L) hmay]
      simp only [requestRelease_of_down (s := s.relinked L) hdoor ((hL _).1.trans hdown)]
      rfl
  case started =>
    intro s y x n role p st hx hheard hok hrole hro hkind hstate horigin hdoor hdel record full journal raised out hroom hup
    have hmay : s.MayOpen x n role p st := ⟨hrole, hro, hkind, hstate, horigin⟩
    refine exec_openDoor (u := s.releasing n p record) hx hheard hok hdel (noticeOf_raised rfl rfl) hroom fun L hL => ?_
    have hrecord : s.releaseRecord p st (releaseKindOf x) (some x) (s.call n).entryCode = record := by
      rw [releaseKindOf_eq, entryCode_eq] <;> rfl
    have hout : (s.relinked L).Room ([(LinkId.panel p, unlockMsg (BitVec.ofNat 8 st.val) s.params.releaseTime)] ++
        [(LinkId.panel p, progressMsg (BitVec.ofNat 8 st.val) .opened)] ++ [(x.link, replyMsg x.addr .accepted)]) :=
      Alike.room hL (room_of_append_left hroom)
    have hstart : (s.relinked L).startRelease n p st (releaseKindOf x) (some x) (s.call n).entryCode =
        ((s.releasing n p record).relinked L).sent [(.panel p, unlockMsg (BitVec.ofNat 8 st.val) s.params.releaseTime)] := by
      rw [← hrecord]
      exact startRelease_sent (s := s.relinked L) (out := []) (room_of_append_left (room_of_append_left hout))
    rw [State.opensDoor, doorCall_of_mayOpen (s := s.relinked L) hmay]
    simp only [requestRelease_of_locked (s := s.relinked L) hdoor (by rw [(hL _).1]; exact hup), relinked_call, hstart]
    have hprogress := put_sent (s := (s.releasing n p record).relinked L)
      (room_of_links (s := s.relinked L) rfl (room_of_append_left hout))
    have hreply := put_sent (s := (s.releasing n p record).relinked L) (room_of_links (s := s.relinked L) rfl hout)
    exact (congrArg (fun t => State.put t x.link (replyMsg x.addr .accepted)) hprogress).trans hreply

/-! ### The talk warning (R101 to R103) -/

/-- The messages of a talk warning, in their order. -/
def CallRecord.warnings (c : CallRecord) : List (LinkId × Message) :=
  (match c.origin with
   | some (.station p st) => [(LinkId.panel p, progressMsg (BitVec.ofNat 8 st.val) .warn)]
   | _ => []) ++ c.warned.map fun x => (x.link, replyMsg x.addr .warn)

/-- REPLYs to a list of parties, put where there is room. -/
theorem foldl_sendReply_sent {s : State} {v : Reply} (xs : List Party) {out : List (LinkId × Message)}
    (hroom : s.Room (out ++ xs.map fun x => (x.link, replyMsg x.addr v))) :
    xs.foldl (fun t x => t.sendReply x v) (s.sent out) = s.sent (out ++ xs.map fun x => (x.link, replyMsg x.addr v)) := by
  induction xs generalizing out with
  | nil => simp
  | cons x xs ih =>
    have hsplit : out ++ (x :: xs).map (fun x => (x.link, replyMsg x.addr v)) =
        out ++ [(x.link, replyMsg x.addr v)] ++ xs.map fun x => (x.link, replyMsg x.addr v) := by simp
    rw [hsplit] at hroom ⊢
    rw [List.foldl_cons, State.sendReply, put_sent (room_of_append_left hroom), ih hroom]

theorem warn_sent {s : State} {c : CallRecord} (hroom : s.Room c.warnings) : s.warn c = s.sent c.warnings := by
  have hprogress : (match c.origin with
      | some (.station p st) => s.sendProgress p st .warn
      | _ => s) = s.sent (match c.origin with
      | some (.station p st) => [(LinkId.panel p, progressMsg (BitVec.ofNat 8 st.val) .warn)]
      | _ => []) := by
    have hfirst := room_of_append_left hroom
    split
    next p st horigin =>
      rw [horigin] at hfirst
      exact put_of_room_sent hfirst
    next => rfl
  exact (congrArg (fun u => c.warned.foldl (fun t x => t.sendReply x .warn) u) hprogress).trans (foldl_sendReply_sent _ hroom)

theorem talkWarns_of_due {s : State} {n : CallNo} {x : TalkCount} (hstate : (s.call n).state = .talking)
    (htalk : (s.call n).talk = some x) (hx : x.seconds ≤ 0) (hgrace : (s.call n).graceBound = none) :
    s.talkWarns n = (s.setCall n { s.call n with graceBound := some s.params.grace }).warn (s.call n) := by
  simp only [State.talkWarns, hstate, htalk, hgrace, hx, if_true]

theorem talkWarns_of_not {s : State} {n : CallNo}
    (h : (∀ x, (s.call n).talk = some x → 0 < x.seconds) ∨ (s.call n).graceBound ≠ none ∨ (s.call n).state ≠ .talking) :
    s.talkWarns n = s := by
  unfold State.talkWarns
  split
  next t hstate htalk hgrace =>
    obtain h | h | h := h
    · exact if_neg (by have := h t htalk; omega)
    · exact absurd hgrace h
    · exact absurd hstate h
  next => rfl

/-- Settles O58: the warnings are put in their order once the count has run out. -/
theorem talkCountWarningWarnsTheParties : Obligations.TalkCountWarningWarnsTheParties := by
  refine ⟨fun s n x o y hstate htalk hx hgrace horigin hanswerer => ?_, fun s n h =>
    congrArg Host.Outcome.next (event_of_unchanged (talkWarns_of_not h))⟩
  intro out hroom
  have hout : (s.call n).warnings = out := by
    unfold CallRecord.warnings CallRecord.warned
    simp only [out, horigin, hanswerer]
    cases o <;> cases (s.call n).joined <;> rfl
  have hroom' : (s.setCall n { s.call n with graceBound := some s.params.grace }).Room (s.call n).warnings := by
    rw [hout]; exact room_of_links (s := s) rfl hroom
  obtain ⟨t, ht, hsends, hframe⟩ := exec_event (i := .talkCountWarning n) (s := s) (out := out)
    (u := s.setCall n { s.call n with graceBound := some s.params.grace }) rfl (noticeOf_of_kept rfl)
    (by rwa [List.append_nil]) (by rw [talkWarns_of_due hstate htalk hx hgrace, warn_sent hroom', hout]; rfl)
  exact ⟨t, ht, by rwa [List.append_nil] at hsends, hframe⟩

/-! ### The hold-off wait and the second (R168, R192) -/

theorem discardHead_of_cons {u : LinkUnit} {m : Message} {rest : List Message} (h : u.tx = m :: rest) :
    u.discardHead =
      { u with
        tx := rest
        txDrops := min (u.txDrops + 1) 65535
        holdOffWait := if rest ≠ [] ∧ u.partnerHoldOff = true then some 8000 else none } := by
  unfold LinkUnit.discardHead
  simp only [h, List.tail_cons, List.isEmpty_eq_false_iff]
  rfl

theorem holdOffExpires_of_due {s : State} {l : LinkId} (h : (s.link l).holdOffWait = some 0) :
    s.holdOffExpires l = (s.setLink l (s.link l).discardHead).raise .fault := if_pos h

theorem outFor_notice_length (s : State) (k : LinkId) (set : Octet) : (outFor k (s.notice set)).length ≤ 1 := by
  have hle : (outFor k (s.notice set)).length ≤ (s.notice set).length :=
    (List.length_map _).trans_le (List.length_filter_le _ _)
  refine Nat.le_trans hle ?_
  unfold State.notice
  split
  · exact Nat.le_refl 1
  · exact Nat.zero_le 1

/-- Settles O59. -/
theorem holdOffWaitAndSecondsTick : Obligations.HoldOffWaitAndSecondsTick := by
  intro s l m rest
  refine ⟨fun htx hwait hroom => ?discard, fun h => ?early, fun h => ?second, fun h => ?unmeasured⟩
  case discard =>
    have hunit := discardHead_of_cons htx
    have hnotice : noticeOf s ((s.setLink l (s.link l).discardHead).raise .fault) = s.notice 0x04#8 :=
      noticeOf_raised rfl rfl
    have hroom' : ((s.setLink l (s.link l).discardHead).raise .fault).Room ([] ++ s.notice 0x04#8) := by
      intro x hx
      obtain ⟨hup, hlen⟩ := hroom x hx
      have hone : (outFor x.1 (s.notice 0x04#8)).length ≤ 1 := outFor_notice_length ..
      have hlink : ((s.setLink l (s.link l).discardHead).raise .fault).link x.1 =
          if x.1 = l then (s.link l).discardHead else s.link x.1 := setLink_link ..
      rw [hlink]
      split
      next hl =>
        rw [hl] at hup hlen
        rw [hunit]
        rw [htx, List.length_cons] at hlen
        exact ⟨hup, by simp only [List.nil_append]; omega⟩
      next => exact ⟨hup, by rw [List.nil_append]; omega⟩
    have hsettled := settle_sent (s := s) (out := []) (by rw [hnotice]; exact hroom')
    rw [hnotice] at hsettled
    refine ⟨_, congrArg Host.Outcome.next ((congrArg (State.settle · s) (holdOffExpires_of_due hwait)).trans hsettled), rfl,
      fun k => ?_⟩
    rw [sent_link, ← hunit]
    exact congrArg (LinkUnit.withTx · _) (setLink_link ..)
  case early => exact congrArg Host.Outcome.next (event_of_unchanged (if_neg h))
  case second =>
    refine congrArg Host.Outcome.next ((if_pos h).trans ?_)
    have htop : (s.seconds + 1) % 4294967296 =
        if s.seconds + 1 = 4294967296 then 0 else (s.seconds + 1) % 4294967296 := by
      split
      next htop => rw [htop]
      next => rfl
    exact congrArg (fun v => ({ s with seconds := v, secondLeft := 8000 } : State)) htop
  case unmeasured => exact congrArg Host.Outcome.next (if_neg h)

end Sys2Proof.Machine
end

section
/-!
PROOF. The frames the switch sends and the turns it begins: TURN_BEGIN (O28) and DOWNSTREAM_FRAME (O23).
-/

namespace Sys2Proof.Machine

/-! ### TURN_BEGIN (R54) -/

theorem mayBeginTurn_of {s : State} {r : Fin 8} (hturn : s.turn r = none) (hup : (s.link (.riser r)).state ≠ .down)
    (hrx : (s.link (.riser r)).rx.length < 4) : s.mayBeginTurn r = true := by
  have hfree : (s.link (.riser r)).holdsOff = false := decide_eq_false (by simp only [Config.receivePlaces]; omega)
  rw [State.mayBeginTurn, hturn, decide_eq_true hup, hfree]
  rfl

theorem beginTurn_roll {s : State} {r : Fin 8} (h : s.mayBeginTurn r = true) (hk : (s.scheduler r).nextKind = .roll) :
    s.beginTurn r = s.beginRoll r .engaged := by
  simp only [State.beginTurn, h, if_true, hk]

theorem beginTurn_engaged {s : State} {r : Fin 8} {a : Fin 63} (h : s.mayBeginTurn r = true)
    (hk : (s.scheduler r).nextKind = .engaged) (ha : s.nextEngaged r = some a) :
    s.beginTurn r =
      s.setScheduler r { s.scheduler r with lastServed := a, nextKind := .roll, turn := freshTurn a .engaged } := by
  simp only [State.beginTurn, h, if_true, hk, ha]

theorem beginTurn_unengaged {s : State} {r : Fin 8} (h : s.mayBeginTurn r = true)
    (hk : (s.scheduler r).nextKind = .engaged) (ha : s.nextEngaged r = none) : s.beginTurn r = s.beginRoll r .roll := by
  simp only [State.beginTurn, h, if_true, hk, ha]

theorem addressesAfter_length (a : Fin 63) : (addressesAfter a).length = 63 := by
  rw [addressesAfter, List.length_map]; rfl

theorem getElem_addressesAfter (a : Fin 63) {i : Nat} (h : i < (addressesAfter a).length) :
    (addressesAfter a)[i] = a + Fin.ofNat 63 (i + 1) := by
  have hall : allAddresses = List.finRange 63 := by decide
  have hi : i < 63 := by rwa [addressesAfter_length] at h
  simp only [addressesAfter, hall, List.getElem_map, List.getElem_finRange]
  refine Fin.ext ?_
  simp only [Fin.val_add, Fin.ofNat, Fin.val_cast, Fin.val_one]
  omega

/-- The first engaged handset is the one found at its distance (R54). -/
theorem nextEngaged_of_distance {s : State} {r : Fin 8} {d : Nat} (h1 : 1 ≤ d) (h63 : d ≤ 63)
    (hd : (s.handset r ((s.scheduler r).lastServed + Fin.ofNat 63 d)).engaged ≠ none)
    (hbefore : ∀ e : Nat, 1 ≤ e → e < d → (s.handset r ((s.scheduler r).lastServed + Fin.ofNat 63 e)).engaged = none) :
    s.nextEngaged r = some ((s.scheduler r).lastServed + Fin.ofNat 63 d) := by
  obtain ⟨k, rfl⟩ : ∃ k, d = k + 1 := ⟨d - 1, by omega⟩
  have hk : k < (addressesAfter (s.scheduler r).lastServed).length := by rw [addressesAfter_length]; omega
  refine List.find?_eq_some_iff_getElem.mpr ⟨Option.isSome_iff_ne_none.mpr hd, k, hk, getElem_addressesAfter _ hk, ?_⟩
  intro j hj
  rw [getElem_addressesAfter, hbefore (j + 1) (by omega) (by omega)]
  rfl

theorem nextEngaged_eq_none {s : State} {r : Fin 8} (h : ∀ a, (s.handset r a).engaged = none) : s.nextEngaged r = none :=
  List.find?_eq_none.mpr fun a _ => by rw [h a]; decide

/-- Settles O28, by the kind meant for the turn and the handsets engaged. -/
theorem turnBeginGrantsAnAddress : Obligations.TurnBeginGrantsAnAddress := by
  intro s r hturn hup hrx
  have hmay := mayBeginTurn_of hturn hup hrx
  have hframe : s.beginTurn r = { s with schedulers := (s.beginTurn r).schedulers } := by
    simp only [State.beginTurn, hmay, if_true]
    split
    · rfl
    · split
      · rfl
      · rfl
  have hothers : ∀ k, k ≠ r → (s.beginTurn r).scheduler k = s.scheduler k := by
    intro k hk
    simp only [State.beginTurn, hmay, if_true]
    split
    · exact setScheduler_scheduler_ne _ _ hk
    · split
      · exact setScheduler_scheduler_ne _ _ hk
      · exact setScheduler_scheduler_ne _ _ hk
  refine ⟨s.beginTurn r, rfl, hframe, hothers, fun hk => ?_, fun d hk h1 h63 hd hbefore => ?_, fun hk hnone => ?_⟩
  · rw [beginTurn_roll hmay hk]; exact setScheduler_scheduler_self ..
  · rw [beginTurn_engaged hmay hk (nextEngaged_of_distance h1 h63 hd hbefore)]; exact setScheduler_scheduler_self ..
  · rw [beginTurn_unengaged hmay hk (nextEngaged_eq_none hnone)]; exact setScheduler_scheduler_self ..

/-! ### The octets of a message on the line (R158, R167) -/

theorem delimiter_notMem_escapeOctet (o : Octet) : Config.delimiter ∉ escapeOctet o := by
  unfold escapeOctet
  split
  next h =>
    obtain rfl | rfl := h
    · decide
    · decide
  next h =>
    rw [List.mem_singleton]
    exact fun hd => h (.inl hd.symm)

theorem escapeOctet_length_pos (o : Octet) : 1 ≤ (escapeOctet o).length := by
  unfold escapeOctet
  split
  · exact Nat.le_of_ble_eq_true rfl
  · exact Nat.le_refl 1

theorem length_le_flatMap_escapeOctet (os : List Octet) : os.length ≤ (os.flatMap escapeOctet).length := by
  induction os with
  | nil => exact Nat.le_refl 0
  | cons o os ih =>
    have := escapeOctet_length_pos o
    rw [List.flatMap_cons, List.length_append, List.length_cons]
    omega

theorem lineOctets_shape (m : Message) :
    5 ≤ m.lineOctets.length ∧ m.lineOctets.getLast? = some 0xE7#8 ∧ 0xE7#8 ∉ m.lineOctets.dropLast := by
  have hbody : 4 ≤ m.body.length := by rw [body_length]; omega
  have hlen := length_le_flatMap_escapeOctet m.body
  refine ⟨?_, ?_, ?_⟩
  · rw [Message.lineOctets, List.length_append, List.length_singleton]; omega
  · rw [Message.lineOctets, List.getLast?_concat]; rfl
  · rw [Message.lineOctets, List.dropLast_concat]
    intro h
    obtain ⟨o, -, ho⟩ := List.mem_flatMap.mp h
    exact delimiter_notMem_escapeOctet o ho

/-! ### The signalling octets of a frame (R166 to R168) -/

/-- The two signalling octets of a frame, and the link unit after them. -/
def LinkUnit.twoOctets (u : LinkUnit) : Octet × Octet × LinkUnit :=
  (u.nextOctet.1, u.nextOctet.2.nextOctet.1, u.nextOctet.2.nextOctet.2)

/-- A link unit that waits for its partner's hold-off to end. -/
def LinkUnit.heldOff (u : LinkUnit) : LinkUnit :=
  { u with lastDelimiter := true, holdOffWait := some (u.holdOffWait.getD 8000) }

theorem nextOctet_idle {u : LinkUnit} (hs : u.sending = none) (htx : u.tx = []) :
    u.nextOctet = (0xE7#8, { u with lastDelimiter := true }) := by
  simp only [LinkUnit.nextOctet, hs, htx]; rfl

theorem nextOctet_heldOff {u : LinkUnit} {m : Message} {rest : List Message} (hs : u.sending = none) (htx : u.tx = m :: rest)
    (hp : u.partnerHoldOff = true) : u.nextOctet = (0xE7#8, u.heldOff) := by
  simp only [LinkUnit.nextOctet, hs, htx, hp, if_true, LinkUnit.heldOff]
  cases u.holdOffWait <;> rfl

theorem nextOctet_begins {u : LinkUnit} {m : Message} {rest : List Message} {a b : Octet} {more : List Octet}
    (hs : u.sending = none) (htx : u.tx = m :: rest) (hp : u.partnerHoldOff = false) (hm : m.lineOctets = a :: b :: more)
    (hd : u.lastDelimiter = true) :
    u.nextOctet = (a, { u with sending := some (b :: more), lastDelimiter := decide (a = 0xE7#8), holdOffWait := none }) := by
  simp only [LinkUnit.nextOctet, hs, htx, hp, hd, hm, if_true, Bool.false_eq_true, if_false, LinkUnit.sendOctets]; rfl

theorem nextOctet_opens {u : LinkUnit} {m : Message} {rest : List Message}
    (hs : u.sending = none) (htx : u.tx = m :: rest) (hp : u.partnerHoldOff = false) (hd : u.lastDelimiter = false) :
    u.nextOctet = (0xE7#8, { u with lastDelimiter := true, holdOffWait := none, sending := some m.lineOctets }) := by
  simp only [LinkUnit.nextOctet, hs, htx, hp, hd, Bool.false_eq_true, if_false]; rfl

theorem nextOctet_goesOn {u : LinkUnit} {a o : Octet} {more : List Octet} (hs : u.sending = some (a :: o :: more)) :
    u.nextOctet = (a, { u with sending := some (o :: more), lastDelimiter := decide (a = 0xE7#8) }) := by
  simp only [LinkUnit.nextOctet, hs, LinkUnit.sendOctets]; rfl

theorem nextOctet_ends {u : LinkUnit} {a : Octet} (hs : u.sending = some [a]) :
    u.nextOctet = (a, { u with sending := none, tx := u.tx.tail, lastDelimiter := true }) := by
  simp only [LinkUnit.nextOctet, hs, LinkUnit.sendOctets]

/-! ### DOWNSTREAM_FRAME (R143, R150) -/

theorem countTurnFrame_frame (s : State) (l : LinkId) :
    s.countTurnFrame l = { s with schedulers := (s.countTurnFrame l).schedulers } := by
  unfold State.countTurnFrame
  split
  · split
    · rfl
    · rfl
  · rfl

/-- The scheduler of a riser after one more frame of a link (R55). -/
theorem countTurnFrame_scheduler (s : State) (r : Fin 8) :
    (s.countTurnFrame (.riser r)).scheduler r =
      { s.scheduler r with turn := (s.turn r).map fun x => { x with frames := x.frames + 1 } } := by
  unfold State.countTurnFrame
  dsimp only
  split
  next x hx => rw [State.setTurn, setScheduler_scheduler_self, hx]; rfl
  next hx =>
    rw [hx]
    exact congrArg (fun y => ({ s.scheduler r with turn := y } : Scheduler)) hx

theorem countTurnFrame_scheduler_ne (s : State) {l : LinkId} {r : Fin 8} (h : l ≠ .riser r) :
    (s.countTurnFrame l).scheduler r = s.scheduler r := by
  unfold State.countTurnFrame
  split
  next k =>
    split
    · exact setScheduler_scheduler_ne _ _ fun hr => h (by rw [hr])
    · rfl
  next => rfl

/-- The frame that DOWNSTREAM_FRAME sends. -/
def State.frameSent (s : State) (l : LinkId) : List Octet :=
  frameOf (s.statusOctet l) (s.link l).twoOctets.1 (s.link l).twoOctets.2.1 (s.link l).handed

theorem downstream_eq {s : State} (l : LinkId) (h : s.resetLow = false) :
    s.downstream l =
      (s.setLink l { (s.link l).twoOctets.2.2 with line := some (s.frameSent l) }).countTurnFrame l := by
  rw [State.downstream, if_neg (by rw [h]; decide)]
  rfl

theorem octetSum_frame (status sig1 sig2 : Octet) (voice : List Octet) :
    octetSum ((frameOf status sig1 sig2 voice).drop 1) = 0#8 := by
  rw [frameOf_eq_cons]
  exact octetSum_append_check _

theorem grantField_eq (s : State) (l : LinkId) :
    s.grantField l =
      match l with
      | .riser r => match s.turn r with
        | some x => x.addr.val
        | none => 63
      | _ => 0 := by
  cases l with
  | riser r => cases h : s.turn r <;> simp only [State.grantField, h]
  | panel p => rfl
  | trunk => rfl

theorem statusOctet_eq (s : State) (l : LinkId) :
    s.statusOctet l = BitVec.ofNat 8 ((if 4 ≤ (s.link l).rx.length then 128 else 0) + s.grantField l) :=
  congrArg (fun v => BitVec.ofNat 8 (v + s.grantField l)) (if_congr decide_eq_true_iff rfl rfl)

/-- The two signalling octets are `a` and `b`, and they leave the link unit `v`. -/
def LinkUnit.Sends (u : LinkUnit) (a b : Octet) (v : LinkUnit) : Prop := u.twoOctets = (a, b, v)

theorem sends_of {u w v : LinkUnit} {a b : Octet} (hfirst : u.nextOctet = (a, w)) (hsecond : w.nextOctet = (b, v)) :
    u.Sends a b v := by
  simp only [LinkUnit.Sends, LinkUnit.twoOctets, hfirst, hsecond]

/-- What a link with nothing begun sends (R166 to R168). -/
theorem sends_of_not_sending {u : LinkUnit} (hs : u.sending = none) :
    (u.tx = [] → u.Sends 0xE7#8 0xE7#8 { u with lastDelimiter := true }) ∧
    ∀ m rest, u.tx = m :: rest →
      (u.partnerHoldOff = true → u.Sends 0xE7#8 0xE7#8 u.heldOff) ∧
      ∀ a b o more, u.partnerHoldOff = false → m.lineOctets = a :: b :: o :: more →
        (u.lastDelimiter = true →
          u.Sends a b { u with sending := some (o :: more), lastDelimiter := decide (b = 0xE7#8), holdOffWait := none }) ∧
        (u.lastDelimiter = false →
          u.Sends 0xE7#8 a
            { u with sending := some (b :: o :: more), lastDelimiter := decide (a = 0xE7#8), holdOffWait := none }) := by
  refine ⟨fun htx => sends_of (nextOctet_idle hs htx) (nextOctet_idle hs htx), fun m rest htx => ⟨fun hp => ?_,
    fun a b o more hp hm => ⟨fun hd => ?_, fun hd => ?_⟩⟩⟩
  · exact sends_of (nextOctet_heldOff hs htx hp) (nextOctet_heldOff (u := u.heldOff) hs htx hp)
  · exact sends_of (nextOctet_begins hs htx hp hm hd) (nextOctet_goesOn rfl)
  · exact sends_of (nextOctet_opens hs htx hp hd) (nextOctet_goesOn (congrArg some hm))

/-- What a link sends whose message has one octet to go (R167). -/
theorem sends_of_last {u : LinkUnit} {a : Octet} (hs : u.sending = some [a]) :
    (u.tx.tail = [] → u.Sends a 0xE7#8 { u with sending := none, tx := u.tx.tail, lastDelimiter := true }) ∧
    ∀ m rest, u.tx.tail = m :: rest →
      (u.partnerHoldOff = true →
        u.Sends a 0xE7#8 (LinkUnit.heldOff { u with sending := none, tx := u.tx.tail, lastDelimiter := true })) ∧
      ∀ b o more, u.partnerHoldOff = false → m.lineOctets = b :: o :: more →
        u.Sends a b
          { u with
            sending := some (o :: more), tx := u.tx.tail, lastDelimiter := decide (b = 0xE7#8), holdOffWait := none } :=
  ⟨fun htx => sends_of (nextOctet_ends hs) (nextOctet_idle rfl htx), fun _ _ htx => ⟨fun hp =>
    sends_of (nextOctet_ends hs) (nextOctet_heldOff rfl htx hp), fun _ _ _ hp hm =>
    sends_of (nextOctet_ends hs) (nextOctet_begins rfl htx hp hm rfl)⟩⟩

/-- A message has more than two octets on the line. -/
theorem lineOctets_goOn {m : Message} {before more : List Octet} (h : m.lineOctets = before ++ more)
    (hb : before.length ≤ 2) : ∃ o rest, more = o :: rest := by
  have hlen := (lineOctets_shape m).1
  rw [h, List.length_append] at hlen
  cases more with
  | nil => rw [List.length_nil] at hlen; omega
  | cons o rest => exact ⟨o, rest, rfl⟩

/-- Settles O23: the frame's octets, its signalling octets by what the link is sending, and what is left as it was. -/
theorem downstreamFrameIsSent : Obligations.DownstreamFrameIsSent := by
  intro s l hreset hhanded
  have hlink : (s.downstream l).link l = { (s.link l).twoOctets.2.2 with line := some (s.frameSent l) } := by
    rw [downstream_eq l hreset, countTurnFrame_frame]
    exact setLink_link_self ..
  have hframe : s.downstream l = { s with links := (s.downstream l).links, schedulers := (s.downstream l).schedulers } := by
    rw [downstream_eq l hreset, countTurnFrame_frame]
    rfl
  refine ⟨s.downstream l, s.frameSent l, rfl, by rw [hlink], ?_, rfl, octetSum_frame .., ?_, ?_, ?_,
    lineOctets_shape, fun k hk => ?_, hframe, fun r hr => ?_, fun r hr => ?_⟩
  · rw [State.frameSent, frameOf_length, hhanded]; cases l <;> rfl
  · show ((s.link l).handed ++ [_]).take l.voiceChannels = _
    rw [← hhanded, List.take_left]
  · show s.statusOctet l = _
    rw [statusOctet_eq, grantField_eq] <;> rfl
  · have hsends : ∀ {a b : Octet} {v : LinkUnit}, (s.link l).Sends a b v →
        (s.frameSent l).getD 2 0#8 = a ∧ (s.frameSent l).getD 3 0#8 = b ∧
          (s.downstream l).link l = { v with line := some (s.frameSent l) } := by
      intro a b v h
      have hab : (s.link l).twoOctets = (a, b, v) := h
      refine ⟨?_, ?_, by rw [hlink, hab]⟩
      · show (s.link l).twoOctets.1 = a
        rw [hab]
      · show (s.link l).twoOctets.2.1 = b
        rw [hab]
    refine ⟨fun hs => ⟨fun htx => hsends ((sends_of_not_sending hs).1 htx), fun m rest htx => ?_⟩, ?_, ?_, ?_⟩
    · obtain ⟨hheld, hbegins⟩ := (sends_of_not_sending hs).2 m rest htx
      refine ⟨fun hp => hsends (hheld hp), fun a b more hp hm => ?_⟩
      obtain ⟨o, more, rfl⟩ := lineOctets_goOn (before := [a, b]) hm (Nat.le_refl 2)
      obtain ⟨hdelim, hopens⟩ := hbegins a b o more hp hm
      exact ⟨fun hd => hsends (hdelim hd), fun hd => hsends (hopens hd)⟩
    · exact fun a b o more hs => hsends (sends_of (nextOctet_goesOn hs) (nextOctet_goesOn rfl))
    · exact fun a b hs => hsends (sends_of (nextOctet_goesOn hs) (nextOctet_ends rfl))
    · intro a hs v
      obtain ⟨hnone, hnext⟩ := sends_of_last hs
      refine ⟨fun htx => hsends (hnone htx), fun m rest htx => ?_⟩
      obtain ⟨hheld, hbegins⟩ := hnext m rest htx
      refine ⟨fun hp => hsends (hheld hp), fun b more hp hm => ?_⟩
      obtain ⟨o, more, rfl⟩ := lineOctets_goOn (before := [b]) hm (Nat.le_succ 1)
      exact hsends (hbegins b o more hp hm)
  · rw [downstream_eq l hreset, countTurnFrame_frame]
    exact setLink_link_ne _ _ hk
  · rw [downstream_eq l hreset, countTurnFrame_scheduler_ne _ hr]
    rfl
  · subst hr
    rw [downstream_eq _ hreset, countTurnFrame_scheduler]
    rfl

end Sys2Proof.Machine
end

section
/-!
PROOF. Messages put on links that may be DOWN, and RESTART (O46).
-/

namespace Sys2Proof.Machine

/-! ### Messages put, and those that are put on a DOWN link (R166) -/

theorem reached_append (s : State) (a b : List (LinkId × Message)) : s.reached (a ++ b) = s.reached a ++ s.reached b :=
  List.filter_append ..

theorem reached_cons_of_down {s : State} {l : LinkId} (m : Message) (out : List (LinkId × Message))
    (h : (s.link l).state = .down) : s.reached ((l, m) :: out) = s.reached out :=
  List.filter_cons_of_neg (by simp [h])

theorem reached_cons_of_up {s : State} {l : LinkId} (m : Message) (out : List (LinkId × Message))
    (h : (s.link l).state ≠ .down) : s.reached ((l, m) :: out) = (l, m) :: s.reached out :=
  List.filter_cons_of_pos (by simp [h])

theorem reached_congr {s u : State} (h : ∀ k, (u.link k).state = (s.link k).state) (out : List (LinkId × Message)) :
    u.reached out = s.reached out := by
  simp only [State.reached, h]

theorem reached_of_room {s : State} {out : List (LinkId × Message)} (h : s.Room out) : s.reached out = out :=
  List.filter_eq_self.mpr fun x hx => decide_eq_true (h x hx).1

theorem outFor_reached (s : State) (k : LinkId) (out : List (LinkId × Message)) :
    outFor k (s.reached out) = if (s.link k).state = .down then [] else outFor k out := by
  induction out with
  | nil => simp [State.reached, outFor]
  | cons x out ih =>
    obtain ⟨l, m⟩ := x
    by_cases hl : (s.link l).state = .down
    · rw [reached_cons_of_down m out hl, ih]
      by_cases hk : l = k
      · subst hk; simp [hl]
      · rw [outFor_cons_ne m out hk]
    · rw [reached_cons_of_up m out hl]
      by_cases hk : l = k
      · subst hk; simp [hl, ih]
      · rw [outFor_cons_ne m _ hk, outFor_cons_ne m _ hk, ih]

/-- Messages put, in their order. -/
def State.putAll (s : State) (out : List (LinkId × Message)) : State := out.foldl (fun t x => t.put x.1 x.2) s

theorem putAll_append (s : State) (a b : List (LinkId × Message)) : s.putAll (a ++ b) = (s.putAll a).putAll b :=
  List.foldl_append ..

/-- Messages put where those that are put have room. -/
theorem putAll_sent {s : State} (xs : List (LinkId × Message)) {out : List (LinkId × Message)}
    (hroom : s.Room (out ++ s.reached xs)) : (s.sent out).putAll xs = s.sent (out ++ s.reached xs) := by
  induction xs generalizing out with
  | nil => simp [State.putAll, State.reached]
  | cons x xs ih =>
    obtain ⟨l, m⟩ := x
    show ((s.sent out).put l m).putAll xs = _
    by_cases hl : (s.link l).state = .down
    · rw [reached_cons_of_down m xs hl] at hroom ⊢
      rw [put_of_down m (by rw [sent_link]; exact hl), ih hroom]
    · rw [reached_cons_of_up m xs hl] at hroom ⊢
      have hsplit : out ++ (l, m) :: s.reached xs = out ++ [(l, m)] ++ s.reached xs := by simp
      rw [hsplit] at hroom ⊢
      rw [put_sent (room_of_append_left hroom), ih hroom]

/-- Room where nothing is queued and few messages are sent on each link. -/
theorem room_of_empty {s : State} {out : List (LinkId × Message)} (hup : ∀ x ∈ out, (s.link x.1).state ≠ .down)
    (htx : ∀ k, (s.link k).tx = []) (hlen : ∀ k, (outFor k out).length ≤ 8) : s.Room out := by
  intro x hx
  refine ⟨hup x hx, ?_⟩
  rw [htx, List.length_nil, Nat.zero_add]
  exact hlen x.1

theorem putAll_params (s : State) (out : List (LinkId × Message)) : (s.putAll out).params = s.params := by
  induction out generalizing s with
  | nil => rfl
  | cons x out ih => exact (ih (s.put x.1 x.2)).trans (put_params ..)

/-! ### RESTART (R193, R194) -/

/-- The message that RESTART sends to a station that there is (R194). -/
def clearedStation (x : Params) (p : Fin 4) (st : Fin 2) : List (LinkId × Message) :=
  if st.val < x.stations[p] then [(.panel p, progressMsg (BitVec.ofNat 8 st.val) .cleared)] else []

/-- The messages of RESTART, short of its RESULT (R194). -/
def restartOut (x : Params) : List (LinkId × Message) :=
  (allRisers.map fun r => (LinkId.riser r, clearMsg 63#8 .restart)) ++ [(.trunk, clearMsg 63#8 .restart)] ++
    allPanels.flatMap fun p => clearedStation x p 0 ++ clearedStation x p 1

theorem clearStation_eq (s : State) (p : Fin 4) (st : Fin 2) :
    (if s.stationExists p (BitVec.ofNat 8 st.val) then s.sendProgress p st .cleared else s) =
      s.putAll (clearedStation s.params p st) := by
  have hst : (BitVec.ofNat 8 st.val).toNat = st.val := toNat_ofNat_octet (by omega)
  unfold clearedStation State.stationExists
  rw [hst]
  by_cases hlt : st.val < s.params.stations[p]
  · rw [if_pos hlt, decide_eq_true hlt, Bool.and_true]
    by_cases hdown : (s.link (.panel p)).state = .down
    · rw [if_neg (by simp [hdown])]
      exact (put_of_down _ hdown).symm
    · rw [if_pos (decide_eq_true hdown)]
      rfl
  · rw [if_neg hlt, decide_eq_false hlt, Bool.and_false]
    rfl

theorem clearedStations_eq (s : State) (p : Fin 4) :
    s.clearedStations p = s.putAll (clearedStation s.params p 0 ++ clearedStation s.params p 1) := by
  have htwo := clearStation_eq (s.putAll (clearedStation s.params p 0)) p 1
  rw [putAll_params] at htwo
  rw [putAll_append, ← htwo, ← clearStation_eq s p 0]
  rfl

theorem foldl_clearedStations (ps : List (Fin 4)) (s : State) :
    ps.foldl State.clearedStations s =
      s.putAll (ps.flatMap fun p => clearedStation s.params p 0 ++ clearedStation s.params p 1) := by
  induction ps generalizing s with
  | nil => rfl
  | cons p ps ih =>
    rw [List.foldl_cons, ih, clearedStations_eq, putAll_params, List.flatMap_cons, putAll_append s (_ ++ _)]

/-- CLEAR(RESTART) to the handsets of every riser. -/
def restartRisers : List (LinkId × Message) := allRisers.map fun r => (LinkId.riser r, clearMsg 63#8 .restart)

theorem putAll_singleton (s : State) (l : LinkId) (m : Message) : s.putAll [(l, m)] = s.put l m := rfl

theorem putAll_restartRisers (s : State) :
    s.putAll restartRisers =
      allRisers.foldl (fun t r => t.put (.riser r) (clearMsg Config.managementAddress .restart)) s := by
  rw [State.putAll, restartRisers, List.foldl_map, Config.managementAddress]

theorem restartMessages_eq (s : State) : s.restartMessages = s.putAll (restartOut s.params) := by
  have hsplit : restartOut s.params =
      restartRisers ++ ([(.trunk, clearMsg Config.managementAddress .restart)] ++
        allPanels.flatMap fun p => clearedStation s.params p 0 ++ clearedStation s.params p 1) := by
    rw [← List.append_assoc]; rfl
  rw [hsplit, putAll_append, putAll_append, putAll_singleton, putAll_restartRisers]
  unfold State.restartMessages
  rw [foldl_clearedStations, put_params, ← putAll_restartRisers, putAll_params]

theorem outFor_clearedStation (x : Params) (p : Fin 4) (st : Fin 2) (k : LinkId) :
    outFor k (clearedStation x p st) =
      if k = .panel p ∧ st.val < x.stations[p] then [progressMsg (BitVec.ofNat 8 st.val) .cleared] else [] := by
  unfold clearedStation
  by_cases hk : LinkId.panel p = k
  · subst hk
    by_cases hlt : st.val < x.stations[p]
    · rw [if_pos hlt, if_pos ⟨rfl, hlt⟩, outFor_cons_self]; rfl
    · rw [if_neg hlt, if_neg fun h => hlt h.2]; rfl
  · rw [if_neg (c := k = .panel p ∧ st.val < x.stations[p]) fun h => hk h.1.symm]
    split
    · rw [outFor_cons_ne _ _ hk]; rfl
    · rfl

theorem outFor_restartOut (x : Params) (k : LinkId) :
    outFor k (restartOut x) =
      match k with
      | .panel p =>
        (if 0 < x.stations[p] then [progressMsg 0x00#8 .cleared] else []) ++
          (if 1 < x.stations[p] then [progressMsg 0x01#8 .cleared] else [])
      | _ => [clearMsg 63#8 .restart] := by
  have hfirst : outFor k (allRisers.map (fun r => (LinkId.riser r, clearMsg 63#8 .restart)) ++
      [(.trunk, clearMsg 63#8 .restart)]) =
      match k with
      | .panel _ => []
      | _ => [clearMsg 63#8 .restart] := by
    cases k with
    | panel p => rfl
    | riser r => revert r; decide
    | trunk => rfl
  have hpanels : outFor k (allPanels.flatMap fun p => clearedStation x p 0 ++ clearedStation x p 1) =
      outFor k (clearedStation x 0 0 ++ clearedStation x 0 1 ++ (clearedStation x 1 0 ++ clearedStation x 1 1) ++
        (clearedStation x 2 0 ++ clearedStation x 2 1) ++ (clearedStation x 3 0 ++ clearedStation x 3 1)) := by
    simp [allPanels]
  rw [restartOut, outFor_append, hfirst, hpanels]
  simp only [outFor_append, outFor_clearedStation]
  cases k with
  | panel p => revert p; simp [Fin.forall_fin_succ]
  | riser r => simp
  | trunk => simp

theorem gains_zero (x : Octet) : gains x 0#8 = false := by simp [gains]

theorem restartBlocks_maskedPending (s : State) : s.restartBlocks.maskedPending = 0#8 := BitVec.zero_and

/-- The messages of RESTART asked for on link `l`, with its RESULT. -/
def restartAnswer (x : Params) (l : LinkId) : List (LinkId × Message) := restartOut x ++ [(l, resultMsg 0x82#8 .ok [])]

theorem outFor_restartAnswer_length (x : Params) (l k : LinkId) : (outFor k (restartAnswer x l)).length ≤ 8 := by
  have hout : (outFor k (restartOut x)).length ≤ 2 := by
    rw [outFor_restartOut]
    split
    · rw [List.length_append]
      split
      · split
        · exact Nat.le_refl 2
        · exact Nat.le_succ 1
      · split
        · exact Nat.le_succ 1
        · exact Nat.zero_le 2
    · exact Nat.le_succ 1
  have hone : (outFor k [(l, resultMsg 0x82#8 .ok [])]).length ≤ 1 := by
    by_cases h : l = k
    · subst h; rw [outFor_cons_self]; exact Nat.le_refl 1
    · rw [outFor_cons_ne _ _ h]; exact Nat.zero_le 1
  rw [restartAnswer, outFor_append, List.length_append]
  omega

theorem room_restartAnswer (s : State) (l : LinkId) : s.restartBlocks.Room (s.restartBlocks.reached (restartAnswer s.params l)) := by
  refine room_of_empty (fun x hx => ?_) (fun k => ?_) fun k => ?_
  · exact of_decide_eq_true (List.mem_filter.mp hx).2
  · rw [restartBlocks_link]; rfl
  · rw [outFor_reached]
    split
    · exact Nat.zero_le 8
    · exact outFor_restartAnswer_length ..

/-- Messages put and a RESULT behind them, where nothing is pending: no ATTENTION comes between. -/
theorem answerRequest_putAll {s u : State} {l : LinkId} {type : Octet} {data : List Octet} {out : List (LinkId × Message)}
    (hq : u.maskedPending = 0#8) (hroom : u.Room (u.reached (out ++ [(l, resultMsg type .ok data)]))) :
    s.answerRequest l type (.done (u.putAll out) data) = u.sent (u.reached (out ++ [(l, resultMsg type .ok data)])) := by
  rw [reached_append] at hroom
  have hput : u.putAll out = u.sent (u.reached out) :=
    putAll_sent (s := u) (out := []) out (room_of_append_left (s := u) (a := u.reached out) hroom)
  have hsettled : (u.putAll out).settle s = u.putAll out :=
    settle_of_not_gains (by rw [hput, sent_maskedPending, hq, gains_zero])
  have hresult := putAll_sent [(l, resultMsg type .ok data)] hroom
  rw [← reached_append, putAll_singleton, ← hput] at hresult
  show State.settle (State.put (State.settle (u.putAll out) s) l (resultMsg type .ok data))
    (State.settle (u.putAll out) s) = _
  rw [hsettled, hresult]
  exact settle_of_not_gains (by rw [sent_maskedPending, hq, gains_zero])

/-- The answer to RESTART: the blocks set, and every message put that can be. -/
theorem answerRequest_restart (s : State) (l : LinkId) :
    s.answerRequest l 0x82#8 (.done s.restartBlocks.restartMessages []) =
      s.restartBlocks.sent (s.restartBlocks.reached (restartAnswer s.params l)) := by
  have hmessages : s.restartBlocks.restartMessages = s.restartBlocks.putAll (restartOut s.params) := restartMessages_eq _
  rw [hmessages, restartAnswer]
  exact answerRequest_putAll (restartBlocks_maskedPending s) (room_restartAnswer s l)

/-- What RESTART leaves (R193, R194). -/
theorem exec_restart {s : State} {l : LinkId} {args : List Octet} (horigin : s.inOrigin l = true)
    (hdel : s.deliverable l (managementMsg 0x82#8 args) = true) :
    exec (.restart l args) s =
      .next ((s.arrived l (managementMsg 0x82#8 args)).restartBlocks.sent
        ((s.arrived l (managementMsg 0x82#8 args)).restartBlocks.reached (restartAnswer s.params l))) := by
  refine congrArg Host.Outcome.next ?_
  have htaken : s.takeRequest .restart l args (fun t => .done t.restartBlocks.restartMessages []) =
      ((s.arrived l (managementMsg 0x82#8 args)).answerRequest l 0x82#8
        (.done (s.arrived l (managementMsg 0x82#8 args)).restartBlocks.restartMessages [])).removeHead l
          (.message (managementMsg 0x82#8 args)) := if_pos ⟨horigin, hdel⟩
  rw [htaken, answerRequest_restart, arrived_params]
  refine removeHead_of_ne ?_
  rw [sent_link, restartBlocks_link]
  exact nofun

theorem restartBlocks_call (s : State) (n : CallNo) :
    s.restartBlocks.call n = { CallRecord.blank with lastCause := some .restart, releases := (s.call n).releases } := by
  simp [State.restartBlocks, State.call, CallRecord.restarted]

theorem restartBlocks_station (s : State) (p : Fin 4) (st : Fin 2) : s.restartBlocks.station p st = none := by
  simp [State.restartBlocks, State.station]

theorem restartBlocks_position (s : State) (q : Fin 6) :
    s.restartBlocks.position q = { s.position q with engaged := none } := by
  simp [State.restartBlocks, State.position]

theorem restartBlocks_scheduler (s : State) (r : Fin 8) : s.restartBlocks.scheduler r = (s.scheduler r).restarted := by
  simp [State.restartBlocks, State.scheduler]

theorem restartBlocks_channel (s : State) (r : Fin 8) (c : Fin 4) : s.restartBlocks.channel r c = none := by
  simp [State.restartBlocks, State.channel]

theorem restartBlocks_seekQueue (s : State) (r : Fin 8) : s.restartBlocks.seekQueue r = [] := by
  simp [State.restartBlocks, State.seekQueue]

theorem restartBlocks_door (s : State) (p : Fin 4) : s.restartBlocks.door p = Door.lockedShut := by
  simp [State.restartBlocks, State.door]

/-- Settles O46: every block is read off RESTART's table, and each link's queue off its messages. -/
theorem restartReturnsEverything : Obligations.RestartReturnsEverything := by
  intro s l args horigin hdel
  have hexec := exec_restart horigin hdel
  have hlink : ∀ k, ((s.arrived l (managementMsg 0x82#8 args)).link k).flushed = (s.link k).flushed := fun k => by
    rw [arrived_link]; rfl
  obtain ⟨L, hL⟩ : ∃ L, s.arrived l (managementMsg 0x82#8 args) = s.relinked L := ⟨_, arrived_eq_relinked s l _⟩
  rw [hL] at hexec hlink
  refine ⟨_, hexec, rfl, restartBlocks_call (s.relinked L), restartBlocks_handset (s.relinked L),
    restartBlocks_station (s.relinked L), restartBlocks_position (s.relinked L), restartBlocks_scheduler (s.relinked L),
    restartBlocks_channel (s.relinked L), restartBlocks_seekQueue (s.relinked L), restartBlocks_door (s.relinked L),
    fun k => ?_⟩
  have hout : outFor k [(l, resultMsg 0x82#8 .ok [])] = if k = l then [resultMsg 0x82#8 .ok []] else [] := by
    by_cases h : k = l
    · subst h; rw [outFor_cons_self, if_pos rfl]; rfl
    · rw [outFor_cons_ne _ _ (Ne.symm h), if_neg h]; rfl
  rw [sent_link, outFor_reached, restartBlocks_link, hlink, restartAnswer, outFor_append, outFor_restartOut, hout]
  rfl

end Sys2Proof.Machine
end

section
/-!
PROOF. What the work on calls leaves as it was (R27, R152), and a link's way DOWN: LINK_RESET (O54).
-/

namespace Sys2Proof.Machine

/-! ### What the work on calls leaves as it was -/

theorem LinkKept.refl (s : State) (k : LinkId) : LinkKept s s k := rfl

theorem LinkKept.of_eq {s t : State} {k : LinkId} (h : t.link k = s.link k) : LinkKept s t k := by
  rw [LinkKept, h]

theorem LinkKept.trans {s t u : State} {k : LinkId} (h : LinkKept s t k) (h' : LinkKept t u k) : LinkKept s u k := by
  rw [LinkKept, h', h]

/-- The state with a wider part of it rewritten: the tables of the work on calls. -/
def State.withCalls (s t : State) : State :=
  { s with
    links := t.links, calls := t.calls, handsets := t.handsets, stations := t.stations, positions := t.positions,
    channels := t.channels, seekQueues := t.seekQueues, deskQueue := t.deskQueue, idleOrder := t.idleOrder,
    mode := t.mode, attention := t.attention }

/-- `t` comes from `s` by work on calls: beside the tables of that work nothing has changed, no party has come or gone, a
link has kept all but its queues and transmit drops, a DOWN one these too, and no class has been taken back. -/
structure OnCalls (s t : State) : Prop where
  frame : t = s.withCalls t
  link : ∀ k, LinkKept s t k
  down : ∀ k, (s.link k).state = .down → t.link k = s.link k
  present : ∀ r a, (t.handset r a).present = (s.handset r a).present
  misses : ∀ r a, (t.handset r a).misses = (s.handset r a).misses
  quiet : ∀ r a, (t.handset r a).quiet = (s.handset r a).quiet
  loggedOn : ∀ q, (t.position q).loggedOn = (s.position q).loggedOn
  idle : ∀ q ∈ t.idleOrder, q ∈ s.idleOrder ∨ (s.position q).loggedOn = true
  pending : ∀ i, s.attention.getLsbD i = true → t.attention.getLsbD i = true

theorem OnCalls.refl (s : State) : OnCalls s s :=
  ⟨rfl, .refl s, fun _ _ => rfl, fun _ _ => rfl, fun _ _ => rfl, fun _ _ => rfl, fun _ => rfl, fun _ h => .inl h,
    fun _ h => h⟩

theorem withCalls_trans {s t u : State} (h : t = s.withCalls t) (h' : u = t.withCalls u) : u = s.withCalls u := by
  rw [h', h]; rfl

theorem OnCalls.trans {s t u : State} (h : OnCalls s t) (h' : OnCalls t u) : OnCalls s u where
  frame := withCalls_trans h.frame h'.frame
  link k := (h.link k).trans (h'.link k)
  down k hk := (h'.down k (by rw [h.down k hk]; exact hk)).trans (h.down k hk)
  present r a := (h'.present r a).trans (h.present r a)
  misses r a := (h'.misses r a).trans (h.misses r a)
  quiet r a := (h'.quiet r a).trans (h.quiet r a)
  loggedOn q := (h'.loggedOn q).trans (h.loggedOn q)
  idle q hq := (h'.idle q hq).elim (h.idle q) fun hon => .inr (by rw [← h.loggedOn q]; exact hon)
  pending i hi := h'.pending i (h.pending i hi)

/-- A write of none but the call's tables leaves links, parties and the pending set alone. -/
theorem onCalls_of_kept {s t : State} (frame : t = s.withCalls t) (links : t.links = s.links)
    (attention : t.attention = s.attention)
    (handset : ∀ r a, (t.handset r a).present = (s.handset r a).present ∧ (t.handset r a).misses = (s.handset r a).misses ∧
      (t.handset r a).quiet = (s.handset r a).quiet)
    (loggedOn : ∀ q, (t.position q).loggedOn = (s.position q).loggedOn)
    (idle : ∀ q ∈ t.idleOrder, q ∈ s.idleOrder ∨ (s.position q).loggedOn = true) : OnCalls s t :=
  ⟨frame, fun k => .of_eq (link_eq_of_links_eq links k), fun k _ => link_eq_of_links_eq links k,
    fun r a => (handset r a).1, fun r a => (handset r a).2.1, fun r a => (handset r a).2.2, loggedOn, idle,
    fun i h => by rw [attention]; exact h⟩

theorem onCalls_put (s : State) (l : LinkId) (m : Message) : OnCalls s (s.put l m) where
  frame := by rw [put_frame]; rfl
  link k := by
    by_cases hk : k = l
    · subst hk
      have h := put_link_self s k m
      rw [LinkKept, h]
    · exact .of_eq (put_link_ne s m hk)
  down k hk := by
    by_cases hl : k = l
    · subst hl; rw [put_of_down m hk]
    · exact put_link_ne s m hl
  present r a := by rw [put_frame]; rfl
  misses r a := by rw [put_frame]; rfl
  quiet r a := by rw [put_frame]; rfl
  loggedOn q := by rw [put_frame]; rfl
  idle q hq := .inl (by rwa [put_frame] at hq)
  pending i h := put_keeps_class s l m h

theorem onCalls_raise (s : State) (c : AttentionClass) : OnCalls s (s.raise c) :=
  ⟨rfl, fun k => .of_eq rfl, fun _ _ => rfl, fun _ _ => rfl, fun _ _ => rfl, fun _ _ => rfl, fun _ => rfl, fun _ h => .inl h, fun i h => by
    rw [State.raise, BitVec.getLsbD_or, h, Bool.true_or]⟩

theorem CallMove.onCalls {T K : CallNo → Prop} {s t : State} (h : CallMove T K s t) : OnCalls s t := by
  cases h with
  | put l m => exact onCalls_put s l m
  | raise c => exact onCalls_raise s c
  | endDrain =>
    obtain e | ⟨-, -, e⟩ := endDrain_cases s
    · rw [e]; exact .refl s
    · rw [e]
      exact OnCalls.trans (t := { s with mode := .standby })
        (onCalls_of_kept rfl rfl rfl (fun _ _ => ⟨rfl, rfl, rfl⟩) (fun _ => rfl) fun _ h => .inl h) (onCalls_raise _ _)
  | handset r a e w _ _ _ =>
    refine onCalls_of_kept rfl rfl rfl (fun i j => ?_) (fun _ => rfl) fun _ h => .inl h
    rw [setHandset_handset]
    split
    next h => obtain ⟨rfl, rfl⟩ := h; exact ⟨rfl, rfl, rfl⟩
    next => exact ⟨rfl, rfl, rfl⟩
  | leavePlaces n =>
    refine onCalls_of_kept rfl rfl rfl (fun r a => ?_) (fun _ => rfl) fun _ h => .inl h
    rw [leavePlaces_handset]
    exact ⟨rfl, rfl, rfl⟩
  | position q e _ =>
    refine onCalls_of_kept rfl rfl rfl (fun _ _ => ⟨rfl, rfl, rfl⟩) (fun p => ?_) fun _ h => .inl h
    rw [setPosition_position]
    split
    next h => subst h; rfl
    next => rfl
  | idleOrder o _ ho => exact onCalls_of_kept rfl rfl rfl (fun _ _ => ⟨rfl, rfl, rfl⟩) (fun _ => rfl) ho
  | _ => exact onCalls_of_kept rfl rfl rfl (fun _ _ => ⟨rfl, rfl, rfl⟩) (fun _ => rfl) fun _ h => .inl h

theorem CallMoves.onCalls {T K : CallNo → Prop} {s t : State} (h : CallMoves T K s t) : OnCalls s t := by
  induction h with
  | refl => exact .refl s
  | tail _ hm ih => exact ih.trans hm.onCalls

/-- Work that may touch every call is work on calls. -/
theorem EventWorks.onCalls {s t : State} (h : EventWorks (fun _ => True) s t) : OnCalls s t :=
  CallMoves.onCalls (h fun _ _ => trivial)

theorem onCalls_foldl {α : Type} {f : State → α → State} (as : List α) (s : State) (hf : ∀ t a, OnCalls t (f t a)) :
    OnCalls s (as.foldl f s) := by
  induction as generalizing s with
  | nil => exact .refl s
  | cons a as ih => exact (hf s a).trans (ih (f s a))

theorem onCalls_settle (s before : State) : OnCalls s (s.settle before) := by
  rcases settle_cases s before with e | e | e
  · rw [e]; exact .refl s
  · rw [e]; exact onCalls_put ..
  · rw [e]; exact (onCalls_put ..).trans (onCalls_put ..)

/-! ### A link's way DOWN (R151 to R153) -/

/-- The tables that a link's way DOWN may write. -/
def State.withLoss (s t : State) : State :=
  { s with
    links := t.links, calls := t.calls, handsets := t.handsets, stations := t.stations, positions := t.positions,
    schedulers := t.schedulers, channels := t.channels, seekQueues := t.seekQueues, deskQueue := t.deskQueue,
    idleOrder := t.idleOrder, doors := t.doors, mode := t.mode, attention := t.attention }

theorem KeepsToLinkLoss.trans {s t u : State} {l : LinkId} (h : KeepsToLinkLoss s t l) (h' : KeepsToLinkLoss t u l) :
    KeepsToLinkLoss s u l := by
  obtain ⟨hframe, hlink, hdoor, hturn, hquiet, hpresent, hlogged⟩ := h
  obtain ⟨hframe', hlink', hdoor', hturn', hquiet', hpresent', hlogged'⟩ := h'
  have hs : t = s.withLoss t := hframe
  have ht : u = t.withLoss u := hframe'
  refine ⟨(by rw [ht, hs]; rfl : u = s.withLoss u), fun k hk => (hlink k hk).trans (hlink' k hk),
    fun p hp => (hdoor' p hp).trans (hdoor p hp), fun r hr => (hturn' r hr).trans (hturn r hr),
    fun r a => (hquiet' r a).trans (hquiet r a), fun r a hr => (hpresent' r a hr).trans (hpresent r a hr),
    fun hl q => (hlogged' hl q).trans (hlogged hl q)⟩

theorem OnCalls.keepsToLinkLoss {s t : State} (h : OnCalls s t) (l : LinkId) : KeepsToLinkLoss s t l := by
  have hdoor : t.doors = s.doors := by rw [h.frame]; rfl
  have hturn : t.schedulers = s.schedulers := by rw [h.frame]; rfl
  refine ⟨?_, fun k _ => h.link k, fun p _ => by rw [State.door, hdoor]; rfl, fun r _ => by rw [State.scheduler, hturn]; rfl,
    h.quiet, fun r a _ => h.present r a, fun _ => h.loggedOn⟩
  show t = s.withLoss t
  rw [h.frame]; rfl

/-- Link units rewritten, those of other links in their queues alone. -/
theorem keepsToLinkLoss_of_links {s t : State} {l : LinkId} (hframe : t = { s with links := t.links })
    (hlink : ∀ k, k ≠ l → LinkKept s t k) : KeepsToLinkLoss s t l :=
  ⟨by rw [hframe], hlink, fun _ _ => by rw [hframe]; rfl, fun _ _ => by rw [hframe]; rfl,
    fun _ _ => by rw [hframe]; rfl, fun _ _ _ => by rw [hframe]; rfl, fun _ _ => by rw [hframe]; rfl⟩

/-- The link `l` has gone DOWN, with all that follows (R61, R66, R134, R151 to R153). -/
structure LinkGone (s t : State) (l : LinkId) : Prop where
  link : t.link l = (s.link l).lost
  raised : t.attention.getLsbD 0 = true
  keeps : KeepsToLinkLoss s t l
  door : ∀ p, l = .panel p → t.door p = Door.lockedShut
  riser : ∀ r, l = .riser r → t.turn r = none ∧
    ∀ a, (t.handset r a).present = false ∧ (t.handset r a).misses = 0
  trunk : l = .trunk → t.idleOrder = [] ∧ ∀ q, (t.position q).loggedOn = false

theorem LinkGone.onCalls {s t u : State} {l : LinkId} (h : LinkGone s t l) (hu : OnCalls t u) : LinkGone s u l where
  link := (hu.down l (by rw [h.link]; rfl)).trans h.link
  raised := hu.pending 0 h.raised
  keeps := h.keeps.trans (hu.keepsToLinkLoss l)
  door p hp := by
    have hdoor : u.doors = t.doors := by rw [hu.frame]; rfl
    rw [State.door, hdoor]; exact h.door p hp
  riser r hr := by
    have hturn : u.schedulers = t.schedulers := by rw [hu.frame]; rfl
    obtain ⟨hnone, haway⟩ := h.riser r hr
    exact ⟨by rw [State.turn, State.scheduler, hturn]; exact hnone, fun a =>
      ⟨(hu.present r a).trans (haway a).1, (hu.misses r a).trans (haway a).2⟩⟩
  trunk hl := by
    obtain ⟨hidle, haway⟩ := h.trunk hl
    refine ⟨List.eq_nil_iff_forall_not_mem.mpr fun q hq => ?_, fun q => (hu.loggedOn q).trans (haway q)⟩
    obtain hmem | hon := hu.idle q hq
    · rw [hidle] at hmem; exact List.not_mem_nil hmem
    · rw [haway q] at hon; cases hon

/-- A riser whose handsets are all ABSENT and that has no turn (R56, R61). -/
def State.riserGone (s : State) (r : Fin 8) : State :=
  { s.setScheduler r { s.scheduler r with turn := none } with
    handsets := s.handsets.set r (tableMap (fun h : Handset => { h with present := false, misses := 0 }) s.handsets[r]) }

/-- The trunk with every position logged off (R66). -/
def State.trunkGone (s : State) : State :=
  { s with positions := tableMap (fun x : Position => { x with loggedOn := false }) s.positions, idleOrder := [] }

/-- Whether a link's way DOWN changes presence or logon (R61, R66). -/
def State.tells (s : State) (l : LinkId) : Bool :=
  match l with
  | .panel _ => false
  | .riser r => (s.handsets[r]).toList.any fun h => h.present
  | .trunk => s.positions.toList.any fun x => x.loggedOn

/-- What a link's way DOWN writes before the calls that follow from it. -/
def State.goneBase (s : State) (l : LinkId) : State :=
  let s1 := (s.setLink l (s.link l).lost).raise .link
  let s2 :=
    match l with
    | .panel p => s1.setDoor p Door.lockedShut
    | .riser r => s1.riserGone r
    | .trunk => s1.trunkGone
  if s.tells l then s2.raise .party else s2

theorem onCalls_wakeAll (s : State) (r : Fin 8) (a : Fin 63) : OnCalls s (s.wakeAll r a) :=
  EventWorks.onCalls (works_wakeAll (fun _ h => h) s r a)

theorem onCalls_outcome (s : State) (n : CallNo) (cause : Cause) : OnCalls s (s.outcome n cause) :=
  (eventWorks_outcome s cause trivial).onCalls

theorem onCalls_clear (s : State) (n : CallNo) (cause : Cause) : OnCalls s (s.clear n cause) :=
  (eventWorks_clear s cause trivial).onCalls

theorem onCalls_handOverQueue (s : State) : OnCalls s s.handOverQueue :=
  OnCalls.trans (t := { s with deskQueue := [] })
    (onCalls_of_kept rfl rfl rfl (fun _ _ => ⟨rfl, rfl, rfl⟩) (fun _ => rfl) fun _ h => .inl h)
    (onCalls_foldl _ _ fun t n => onCalls_outcome t n .noDesk)

/-- The calls that follow from a link's way DOWN: those its handsets' watch lists or the desk queue held. -/
def State.goneCalls (l : LinkId) (s : State) : State :=
  match l with
  | .panel _ => s
  | .riser r => allAddresses.foldl (fun t a => t.wakeAll r a) s
  | .trunk => s.handOverQueue

theorem goDown_eq_goneCalls (s : State) (l : LinkId) : s.goDown l = State.goneCalls l (s.goneBase l) := by
  rw [goDown_eq]
  cases l <;> rfl

theorem onCalls_goneCalls (l : LinkId) (s : State) : OnCalls s (State.goneCalls l s) := by
  cases l with
  | panel p => exact .refl s
  | riser r => exact onCalls_foldl _ s fun t a => onCalls_wakeAll t r a
  | trunk => exact onCalls_handOverQueue s

theorem riserGone_handset (s : State) (r i : Fin 8) (a : Fin 63) :
    (s.riserGone r).handset i a = if i = r then { s.handset r a with present := false, misses := 0 } else s.handset i a :=
  riserAbsent_handset (s.setScheduler r { s.scheduler r with turn := none }) r i a

theorem riserGone_scheduler (s : State) (r i : Fin 8) :
    (s.riserGone r).scheduler i = if i = r then { s.scheduler r with turn := none } else s.scheduler i :=
  setScheduler_scheduler ..

theorem trunkGone_position (s : State) (q : Fin 6) : s.trunkGone.position q = { s.position q with loggedOn := false } := by
  simp [State.trunkGone, State.position]

/-- The link unit of a link gone DOWN, with LINK raised. -/
theorem link_pending_lost (s : State) (l : LinkId) :
    ((s.setLink l (s.link l).lost).raise .link).attention.getLsbD 0 = true := by
  rw [State.raise, BitVec.getLsbD_or]
  exact Bool.or_eq_true_iff.mpr (.inr rfl)

theorem keepsToLinkLoss_lost (s : State) (l : LinkId) :
    KeepsToLinkLoss s ((s.setLink l (s.link l).lost).raise .link) l :=
  KeepsToLinkLoss.trans (keepsToLinkLoss_of_links (t := s.setLink l (s.link l).lost) rfl fun k hk =>
    .of_eq (setLink_link_ne _ _ hk)) ((onCalls_raise _ _).keepsToLinkLoss l)

theorem LinkGone.raise {s t : State} {l : LinkId} (h : LinkGone s t l) (b : Bool) :
    LinkGone s (if b then t.raise .party else t) l := by
  cases b with
  | false => exact h
  | true => exact h.onCalls (onCalls_raise t .party)

theorem gone_goneBase (s : State) (l : LinkId) : LinkGone s (s.goneBase l) l := by
  have hlink := setLink_link_self s l (s.link l).lost
  have hpending := link_pending_lost s l
  have hkeeps := keepsToLinkLoss_lost s l
  refine LinkGone.raise ?_ (s.tells l)
  cases l with
  | panel p =>
    refine ⟨hlink, hpending, hkeeps.trans ⟨rfl, fun _ _ => .of_eq rfl, fun q hq => ?_, fun _ _ => rfl, fun _ _ => rfl,
      fun _ _ _ => rfl, fun _ _ => rfl⟩, fun q hq => ?_, nofun, nofun⟩
    · exact setDoor_door_ne _ _ fun h => hq (by rw [h])
    · obtain rfl := LinkId.panel.inj hq
      exact setDoor_door_self ..
  | riser r =>
    refine ⟨hlink, hpending, hkeeps.trans ⟨rfl, fun k _ => .of_eq rfl, fun _ _ => rfl, fun i hi => ?_, fun i a => ?_,
      fun i a hi => ?_, fun _ _ => rfl⟩, nofun, fun i hi => ?_, nofun⟩
    · rw [riserGone_scheduler, if_neg fun h => hi (by rw [h])]
    · rw [riserGone_handset]
      split
      next h => rw [h]
      next => rfl
    · rw [riserGone_handset, if_neg fun h => hi (by rw [h])]
    · obtain rfl := LinkId.riser.inj hi
      exact ⟨by rw [State.turn, riserGone_scheduler, if_pos rfl], fun a => by
        rw [riserGone_handset, if_pos rfl]; exact ⟨rfl, rfl⟩⟩
  | trunk =>
    refine ⟨hlink, hpending, hkeeps.trans ⟨rfl, fun k _ => .of_eq rfl, fun _ _ => rfl, fun _ _ => rfl, fun _ _ => rfl,
      fun _ _ _ => rfl, fun h => absurd rfl h⟩, nofun, nofun, fun _ => ⟨rfl, fun q => ?_⟩⟩
    rw [trunkGone_position]

theorem gone_goDown (s : State) (l : LinkId) : LinkGone s (s.goDown l) l := by
  rw [goDown_eq_goneCalls]
  exact (gone_goneBase s l).onCalls (onCalls_goneCalls l _)

/-! ### LINK_RESET (R155) -/

theorem linkReset_of_up {s : State} {k : LinkId} (h : (s.link k).state ≠ .down) :
    s.linkReset k = (s.setLink k (s.link k).zeroCounters).goDown k := if_neg h

theorem linkReset_of_down {s : State} {k : LinkId} (h : (s.link k).state = .down) :
    s.linkReset k = s.setLink k { (s.link k).zeroCounters with candidate := none, markerRun := 0 } := by
  rw [State.linkReset, if_pos h, setLink_link_self]
  simp only [State.setLink, Vector.set_set]

theorem judgeLinkReset_of_link (s : State) (k : LinkId) : s.judgeLinkReset k.code = .done (s.linkReset k) [] := by
  simp only [State.judgeLinkReset, linkOfCode_code]

theorem judgeLinkReset_of_bad {s : State} {a : Octet} (h : ∀ k : LinkId, a ≠ k.code) :
    s.judgeLinkReset a = .turnedDown .badArgument := by
  simp only [State.judgeLinkReset, linkOfCode_eq_none h]

/-- The answer to a request whose work writes `u`, whatever its links: the ATTENTION of its event, then its RESULT, each if
its link is not DOWN. -/
theorem answerRequest_reached {s u : State} {l : LinkId} {type : Octet} {a : Answer} (ha : a.state s = u)
    (hroom : u.Room (u.reached (noticeOf s u ++ [(l, a.result type)]))) :
    s.answerRequest l type a = u.sent (u.reached (noticeOf s u ++ [(l, a.result type)])) := by
  rw [reached_append] at hroom
  have hsettled : u.settle s = u.sent (u.reached (noticeOf s u)) := by
    have hput := putAll_sent (s := u) (out := []) (noticeOf s u) (room_of_append_left (a := u.reached (noticeOf s u)) hroom)
    unfold noticeOf at hput ⊢
    cases hg : gains s.maskedPending u.maskedPending with
    | false => exact settle_of_not_gains hg
    | true =>
      rw [hg, if_pos rfl, putAll_singleton] at hput
      have hkept : (u.put .trunk (attentionMsg u.maskedPending)).maskedPending = u.maskedPending :=
        (congrArg State.maskedPending hput).trans (sent_maskedPending u _)
      simp only [State.settle, hg, if_true, hkept, gains_self, Bool.false_eq_true, if_false]
      exact hput
  have hresult := putAll_sent [(l, a.result type)] hroom
  show State.settle (State.put (State.settle (a.state s) s) l (a.result type)) (State.settle (a.state s) s) = _
  rw [ha, hsettled, ← putAll_singleton, hresult, ← reached_append]
  exact settle_of_not_gains (by rw [sent_maskedPending, sent_maskedPending, gains_self])

/-- LINK_RESET of a link: the answer of its judgement, and the request gone from the queue. -/
theorem exec_linkReset {s : State} {l k : LinkId} {more : List Octet} (horigin : s.inOrigin l = true)
    (hdel : s.deliverable l (managementMsg 0x8F#8 (k.code :: more)) = true) :
    exec (.linkReset l (k.code :: more)) s =
      .next (((s.arrived l (managementMsg 0x8F#8 (k.code :: more))).answerRequest l 0x8F#8
        (.done ((s.arrived l (managementMsg 0x8F#8 (k.code :: more))).linkReset k) [])).removeHead l
          (.message (managementMsg 0x8F#8 (k.code :: more)))) := by
  have htaken : s.takeRequest .linkReset l (k.code :: more) (fun t => t.judgeLinkReset k.code) =
      ((s.arrived l (managementMsg 0x8F#8 (k.code :: more))).answerRequest l 0x8F#8
        ((s.arrived l (managementMsg 0x8F#8 (k.code :: more))).judgeLinkReset k.code)).removeHead l
          (.message (managementMsg 0x8F#8 (k.code :: more))) := if_pos ⟨horigin, hdel⟩
  rw [judgeLinkReset_of_link] at htaken
  exact congrArg Host.Outcome.next htaken

theorem onCalls_answerRequest (s : State) (l : LinkId) (type : Octet) (a : Answer) :
    OnCalls (a.state s) (s.answerRequest l type a) :=
  ((onCalls_settle _ _).trans (onCalls_put ..)).trans (onCalls_settle _ _)

theorem linkKept_arrived (s : State) (l k : LinkId) (m : Message) : LinkKept s (s.arrived l m) k := by
  rw [LinkKept, arrived_link]

theorem dropHead_frame (u : LinkUnit) :
    u.dropHead = { u with rx := u.dropHead.rx, holding := u.dropHead.holding } := by
  unfold LinkUnit.dropHead
  split <;> rfl

theorem linkKept_removeHead (s : State) (l k : LinkId) (e : RxEntry) : LinkKept s (s.removeHead l e) k := by
  unfold State.removeHead
  split
  · by_cases hk : k = l
    · subst hk; rw [LinkKept, setLink_link_self, dropHead_frame]
    · exact .of_eq (setLink_link_ne _ _ hk)
  · exact .refl s k

/-- A message that leaves a queue leaves that of a link gone DOWN alone. -/
theorem removeHead_link_of_lost {s : State} {l k : LinkId} {m : Message} (h : (s.link k).rx = [.lost]) :
    (s.removeHead l (.message m)).link k = s.link k := by
  by_cases hl : l = k
  · subst hl; rw [removeHead_of_ne (by rw [h]; exact nofun)]
  · unfold State.removeHead
    split
    · exact setLink_link_ne _ _ (Ne.symm hl)
    · rfl

/-- The link units after the delivery of `m` from `l` in a state with `out` sent, where link `k` has gone DOWN. -/
theorem removeHead_sent_link {s u : State} {l k : LinkId} {m : Message} {out : List (LinkId × Message)}
    (hdel : s.deliverable l m = true) (hk : (u.link k).rx = [.lost]) (hlink : ∀ j, j ≠ k → u.link j = (s.arrived l m).link j)
    {j : LinkId} (hj : j ≠ k) : ((u.sent out).removeHead l (.message m)).link j = (s.taking l m j).withTx (outFor j out) := by
  by_cases hl : l = k
  · subst hl
    rw [removeHead_of_ne (by rw [sent_link]; show (u.link l).rx.head? ≠ _; rw [hk]; exact nofun), sent_link, hlink j hj,
      arrived_link_ne s m hj, State.taking, if_neg hj]
  · have hhead : (u.link l).rx.head? = some (.message m) := by rw [hlink l hl]; exact arrived_head hdel
    rw [removeHead_sent hhead, sent_link, setLink_link, hlink l hl, hlink j hj, State.taking]
    split
    · rfl
    next h => rw [arrived_link_ne s m h]

theorem tells_iff (s : State) (l : LinkId) :
    s.tells l = true ↔ (∃ r a, l = .riser r ∧ (s.handset r a).present = true) ∨
      (l = .trunk ∧ ∃ q, (s.position q).loggedOn = true) := by
  cases l with
  | panel p => simp [State.tells]
  | riser r =>
    rw [State.tells, List.any_eq_true]
    constructor
    · rintro ⟨h, hmem, hp⟩
      obtain ⟨a, ha, rfl⟩ := Vector.mem_iff_getElem.mp (Vector.mem_toList_iff.mp hmem)
      exact .inl ⟨r, ⟨a, ha⟩, rfl, hp⟩
    · rintro (⟨i, a, hi, hp⟩ | ⟨h, -⟩)
      · obtain rfl := LinkId.riser.inj hi
        exact ⟨_, Vector.mem_toList_iff.mpr (Vector.getElem_mem a.isLt), hp⟩
      · cases h
  | trunk =>
    rw [State.tells, List.any_eq_true]
    constructor
    · rintro ⟨h, hmem, hp⟩
      obtain ⟨q, hq, rfl⟩ := Vector.mem_iff_getElem.mp (Vector.mem_toList_iff.mp hmem)
      exact .inr ⟨rfl, ⟨q, hq⟩, hp⟩
    · rintro (⟨i, a, hi, -⟩ | ⟨-, q, hp⟩)
      · cases hi
      · exact ⟨_, Vector.mem_toList_iff.mpr (Vector.getElem_mem q.isLt), hp⟩

theorem goneBase_handset_watch (s : State) (l : LinkId) (r : Fin 8) (a : Fin 63) :
    ((s.goneBase l).handset r a).watch = (s.handset r a).watch := by
  have hraise : ∀ (t : State) (b : Bool), (if b then t.raise .party else t).handset r a = t.handset r a := by
    intro t b; cases b <;> rfl
  unfold State.goneBase
  dsimp only
  rw [hraise]
  cases l with
  | panel p => rfl
  | trunk => rfl
  | riser i =>
    show ((State.riserGone _ i).handset r a).watch = _
    rw [riserGone_handset]
    split
    next h => rw [h]; rfl
    next => rfl

theorem goneBase_deskQueue (s : State) (l : LinkId) : (s.goneBase l).deskQueue = s.deskQueue := by
  unfold State.goneBase
  cases s.tells l <;> cases l <;> rfl

/-- A link's way DOWN on which no call follows. -/
theorem goDown_of_quiet {s : State} {l : LinkId} (hwatch : ∀ r a, l = .riser r → (s.handset r a).watch = [])
    (hdesk : l = .trunk → s.deskQueue = []) : s.goDown l = s.goneBase l := by
  rw [goDown_eq_goneCalls]
  cases l with
  | panel p => rfl
  | riser r =>
    have hwake : ∀ a, (s.goneBase (.riser r)).wakeAll r a = s.goneBase (.riser r) := fun a => by
      rw [State.wakeAll, goneBase_handset_watch, hwatch r a rfl, List.foldl_nil]
    exact foldl_keeps (P := (· = s.goneBase (.riser r))) (fun a _ t ht => by rw [ht, hwake a]) rfl
  | trunk =>
    have hempty := (goneBase_deskQueue s .trunk).trans (hdesk rfl)
    rw [State.goneCalls, State.handOverQueue, hempty, List.foldl_nil, ← hempty]

/-- The classes that a link's way DOWN raises. -/
theorem goneBase_attention (s : State) (l : LinkId) :
    (s.goneBase l).attention = s.attention ||| (if s.tells l then 0x03#8 else 0x01#8) := by
  have h3 : ∀ x : Octet, x ||| 0x01#8 ||| 0x02#8 = x ||| 0x03#8 := fun x => by rw [BitVec.or_assoc]; rfl
  unfold State.goneBase
  cases s.tells l with
  | false => cases l <;> rfl
  | true => cases l <;> exact h3 _

theorem goneBase_calls (s : State) (l : LinkId) : (s.goneBase l).calls = s.calls := by
  unfold State.goneBase
  cases s.tells l <;> cases l <;> rfl

theorem goneBase_params (s : State) (l : LinkId) : (s.goneBase l).params = s.params := by
  unfold State.goneBase
  cases s.tells l <;> cases l <;> rfl

theorem goneBase_link (s : State) (l k : LinkId) :
    (s.goneBase l).link k = if k = l then (s.link l).lost else s.link k := by
  have h : (s.goneBase l).links = (s.setLink l (s.link l).lost).links := by
    unfold State.goneBase
    cases s.tells l <;> cases l <;> rfl
  rw [link_eq_of_links_eq h, setLink_link]

/-- LINK_RESET of a link that is not DOWN, whatever follows from it (R155). -/
theorem linkReset_gone {s t : State} {l k : LinkId} {more : List Octet} (hup : (s.link k).state ≠ .down)
    (ht : t = (((s.arrived l (managementMsg 0x8F#8 (k.code :: more))).answerRequest l 0x8F#8
      (.done ((s.arrived l (managementMsg 0x8F#8 (k.code :: more))).linkReset k) [])).removeHead l
        (.message (managementMsg 0x8F#8 (k.code :: more))))) :
    t.link k = (s.link k).zeroCounters.lost ∧ t.attention.getLsbD 0 = true ∧
      (∀ p, k = .panel p → t.door p = Door.lockedShut) ∧ KeepsToLinkLoss s t k := by
  set s0 := s.arrived l (managementMsg 0x8F#8 (k.code :: more)) with hs0
  have hup0 : (s0.link k).state ≠ .down := by rw [hs0, arrived_link]; exact hup
  have hgone := (gone_goDown (s0.setLink k (s0.link k).zeroCounters) k).onCalls
    (onCalls_answerRequest s0 l 0x8F#8 (.done ((s0.setLink k (s0.link k).zeroCounters).goDown k) []))
  rw [← linkReset_of_up hup0] at hgone
  have hlost : (s0.link k).zeroCounters.lost = (s.link k).zeroCounters.lost := by rw [hs0, arrived_link]; rfl
  have hlink := hgone.link
  rw [setLink_link_self, hlost] at hlink
  have harrived : KeepsToLinkLoss s s0 k := keepsToLinkLoss_of_links (arrived_frame ..) fun j _ => linkKept_arrived ..
  have hzero : KeepsToLinkLoss s0 (s0.setLink k (s0.link k).zeroCounters) k :=
    keepsToLinkLoss_of_links rfl fun j hj => .of_eq (setLink_link_ne _ _ hj)
  have hremoved := keepsToLinkLoss_of_links (l := k) (removeHead_frame (s0.answerRequest l 0x8F#8 (.done (s0.linkReset k) [])) l
    (.message (managementMsg 0x8F#8 (k.code :: more)))) fun j _ => linkKept_removeHead ..
  subst ht
  refine ⟨?_, ?_, fun p hp => ?_, ((harrived.trans hzero).trans hgone.keeps).trans hremoved⟩
  · rw [removeHead_link_of_lost (by rw [hlink]; rfl), hlink]
  · rw [removeHead_frame]; exact hgone.raised
  · rw [removeHead_frame]; exact hgone.door p hp

theorem notice_arrived (s : State) (l : LinkId) (m : Message) (set : Octet) : (s.arrived l m).notice set = s.notice set := by
  rw [arrived_frame]; rfl

/-- The messages put once link `k` is DOWN: the ATTENTION and the RESULT, each but on that link. -/
theorem reached_reset {s z : State} {l k : LinkId} {set : Octet} {m : Message} (hk : (z.link k).state = .down)
    (hroom : ∀ x ∈ (if k = .trunk then [] else s.notice set) ++ (if l = k then [] else [(l, m)]), (z.link x.1).state ≠ .down) :
    z.reached (s.notice set ++ [(l, m)]) = (if k = .trunk then [] else s.notice set) ++ (if l = k then [] else [(l, m)]) := by
  have hnotice : z.reached (s.notice set) = if k = .trunk then [] else s.notice set := by
    by_cases ht : k = .trunk
    · subst ht
      rw [if_pos rfl]
      unfold State.notice
      split
      · exact reached_cons_of_down _ _ hk
      · rfl
    · rw [if_neg ht]
      refine List.filter_eq_self.mpr fun x hx => decide_eq_true (hroom x ?_)
      rw [if_neg ht]
      exact List.mem_append_left _ hx
  have hresult : z.reached [(l, m)] = if l = k then [] else [(l, m)] := by
    by_cases hl : l = k
    · subst hl
      rw [if_pos rfl]
      exact reached_cons_of_down _ _ hk
    · rw [if_neg hl]
      exact reached_cons_of_up _ _ (hroom (l, m) (List.mem_append_right _ (by rw [if_neg hl]; exact List.mem_singleton_self _)))
  rw [reached_append, hnotice, hresult]

/-- No message of a reset goes to the link reset. -/
theorem ne_of_mem_reset {s : State} {l k : LinkId} {set : Octet} {m : Message} {x : LinkId × Message}
    (h : x ∈ (if k = .trunk then [] else s.notice set) ++ (if l = k then [] else [(l, m)])) : x.1 ≠ k := by
  obtain h | h := List.mem_append.mp h
  · by_cases ht : k = .trunk
    · rw [if_pos ht] at h; cases h
    · rw [if_neg ht, State.notice] at h
      split at h
      · rw [List.mem_singleton.mp h]; exact Ne.symm ht
      · cases h
  · by_cases hl : l = k
    · rw [if_pos hl] at h; cases h
    · rw [if_neg hl] at h
      rw [List.mem_singleton.mp h]; exact hl

/-- LINK_RESET of a link that is not DOWN, on which no call follows: the classes raised, and the ATTENTION and the RESULT
sent but on that link (R155, R189). -/
theorem linkReset_quiet {s : State} {l k : LinkId} {more : List Octet} {raised : Octet} (hup : (s.link k).state ≠ .down)
    (hdel : s.deliverable l (managementMsg 0x8F#8 (k.code :: more)) = true)
    (hwatch : ∀ r a, k = .riser r → (s.handset r a).watch = []) (hdesk : k = .trunk → s.deskQueue = [])
    (hraised : raised = if s.tells k then 0x03#8 else 0x01#8)
    (hroom : s.Room ((if k = .trunk then [] else s.notice raised) ++ (if l = k then [] else [(l, resultMsg 0x8F#8 .ok [])])))
    {t : State} (ht : t = (((s.arrived l (managementMsg 0x8F#8 (k.code :: more))).answerRequest l 0x8F#8
      (.done ((s.arrived l (managementMsg 0x8F#8 (k.code :: more))).linkReset k) [])).removeHead l
        (.message (managementMsg 0x8F#8 (k.code :: more))))) :
    t.attention = s.attention ||| raised ∧ t.calls = s.calls ∧
      ∀ j, j ≠ k → t.link j = (s.taking l (managementMsg 0x8F#8 (k.code :: more)) j).withTx
        (outFor j ((if k = .trunk then [] else s.notice raised) ++ (if l = k then [] else [(l, resultMsg 0x8F#8 .ok [])]))) := by
  set m := managementMsg 0x8F#8 (k.code :: more) with hm
  set s0 := s.arrived l m with hs0
  have hup0 : (s0.link k).state ≠ .down := by rw [hs0, arrived_link]; exact hup
  have hz : s0.linkReset k = (s0.setLink k (s0.link k).zeroCounters).goneBase k := by
    rw [linkReset_of_up hup0]
    exact goDown_of_quiet (fun r a hr => by rw [setLink_handset, hs0, arrived_handset]; exact hwatch r a hr)
      fun hk => by rw [setLink_deskQueue, hs0, arrived_deskQueue]; exact hdesk hk
  set z := s0.linkReset k with hzdef
  have hattention : z.attention = s0.attention ||| raised := by
    have htells : (s0.setLink k (s0.link k).zeroCounters).tells k = s.tells k := by
      rw [hs0, arrived_frame]; cases k <;> rfl
    rw [hz, goneBase_attention, htells, hraised]; rfl
  have hparams : z.params = s0.params := by rw [hz, goneBase_params]; rfl
  have hcalls : z.calls = s.calls := by rw [hz, goneBase_calls, hs0, arrived_frame]; rfl
  have hlink : ∀ j, j ≠ k → z.link j = s0.link j := fun j hj => by
    rw [hz, goneBase_link, if_neg hj, setLink_link_ne _ _ hj]
  have hlost : z.link k = (s0.link k).zeroCounters.lost := by rw [hz, goneBase_link, if_pos rfl, setLink_link_self]
  have hnotice : noticeOf s0 z = s.notice raised := by
    rw [noticeOf_raised hattention hparams, hs0, notice_arrived]
  have hzroom : z.Room ((if k = .trunk then [] else s.notice raised) ++
      (if l = k then [] else [(l, resultMsg 0x8F#8 .ok [])])) := by
    intro x hx
    rw [hlink x.1 (ne_of_mem_reset hx)]
    exact room_arrived_iff.mpr hroom x hx
  have hreached := reached_reset (s := s) (z := z) (l := l) (set := raised) (m := resultMsg 0x8F#8 .ok [])
    (by rw [hlost]; rfl) fun x hx => (hzroom x hx).1
  have hanswer := answerRequest_reached (s := s0) (u := z) (l := l) (type := 0x8F#8) (a := .done z []) rfl (by
    rw [hnotice]
    show z.Room (z.reached (s.notice raised ++ [(l, resultMsg 0x8F#8 .ok [])]))
    rw [hreached]; exact hzroom)
  have hsent : s0.answerRequest l 0x8F#8 (.done z []) =
      z.sent ((if k = .trunk then [] else s.notice raised) ++ (if l = k then [] else [(l, resultMsg 0x8F#8 .ok [])])) :=
    hanswer.trans (congrArg z.sent (by rw [hnotice]; exact hreached))
  rw [ht, hsent]
  refine ⟨?_, ?_, fun j hj => removeHead_sent_link hdel (by rw [hlost]; rfl) hlink hj⟩
  · rw [removeHead_frame]
    show z.attention = _
    rw [hattention, hs0, arrived_frame]
  · rw [removeHead_frame]
    exact hcalls

/-- LINK_RESET of a DOWN link (R155). -/
theorem linkReset_down {s : State} {l k : LinkId} {more : List Octet} (hdown : (s.link k).state = .down)
    (hdel : s.deliverable l (managementMsg 0x8F#8 (k.code :: more)) = true) (hroom : s.Room [(l, resultMsg 0x8F#8 .ok [])])
    {t : State} (ht : t = (((s.arrived l (managementMsg 0x8F#8 (k.code :: more))).answerRequest l 0x8F#8
      (.done ((s.arrived l (managementMsg 0x8F#8 (k.code :: more))).linkReset k) [])).removeHead l
        (.message (managementMsg 0x8F#8 (k.code :: more))))) :
    t = { s with links := t.links } ∧
      ∀ j, t.link j =
        if j = k then { (s.link k).zeroCounters with candidate := none, markerRun := 0 }
        else (if j = l then s.delivered l (managementMsg 0x8F#8 (k.code :: more)) else s.link j).withTx
          (outFor j [(l, resultMsg 0x8F#8 .ok [])]) := by
  set m := managementMsg 0x8F#8 (k.code :: more) with hm
  set s0 := s.arrived l m with hs0
  have hl : l ≠ k := fun h => (hroom _ (List.mem_singleton_self _)).1 (by rw [h]; exact hdown)
  have hkept : s0.link k = s.link k := arrived_link_ne s m (Ne.symm hl)
  have hz : s0.linkReset k = s0.setLink k { (s.link k).zeroCounters with candidate := none, markerRun := 0 } := by
    rw [linkReset_of_down (by rw [hkept]; exact hdown), hkept]
  have hlink : ∀ j, j ≠ k → (s0.linkReset k).link j = s0.link j := fun j hj => by rw [hz, setLink_link_ne _ _ hj]
  have hzroom : (s0.linkReset k).Room [(l, resultMsg 0x8F#8 .ok [])] := by
    intro x hx
    rw [List.mem_singleton.mp hx, hlink l hl]
    exact room_arrived_iff.mpr hroom _ (List.mem_singleton_self _)
  have hnotice : noticeOf s0 (s0.linkReset k) = [] := noticeOf_of_kept (by rw [hz]; rfl)
  have hanswer := answerRequest_sent (s := s0) (u := s0.linkReset k) (l := l) (type := 0x8F#8)
    (a := .done (s0.linkReset k) []) (out := []) rfl (by rw [hnotice]; exact hzroom)
  rw [hnotice] at hanswer
  have hhead : ((s0.linkReset k).link l).rx.head? = some (.message m) := by rw [hlink l hl]; exact arrived_head hdel
  rw [ht, hanswer]
  refine ⟨?_, fun j => ?_⟩
  · rw [removeHead_frame]
    generalize (State.removeHead _ l _).links = L
    rw [hz, hs0, arrived_frame]
    rfl
  · have hremoved := removeHead_sent (u := s0.linkReset k) (out := [(l, resultMsg 0x8F#8 .ok [])]) hhead
    refine (congrArg (State.link · j) hremoved).trans ?_
    rw [sent_link, setLink_link]
    by_cases hj : j = k
    · subst hj
      rw [if_neg (Ne.symm hl), if_pos rfl, hz, setLink_link_self, outFor_cons_ne _ _ hl]
      exact withTx_nil _
    · rw [if_neg hj, hlink l hl, hlink j hj]
      split
      · rfl
      next h => rw [arrived_link_ne s m h]

/-- Settles O54, by the link's state. -/
theorem linkResetTakesLinkDown : Obligations.LinkResetTakesLinkDown := by
  refine ⟨fun s l code more horigin hbad hdel => answers_of_delivers fun hroom =>
    request_of_turnedDown (i := .linkReset l (code :: more)) (k := .linkReset) rfl horigin hdel (judgeLinkReset_of_bad hbad) hroom,
    fun s l k more horigin hdel => ⟨fun hup => ?up, fun hdown hroom =>
      ⟨_, exec_linkReset horigin hdel, linkReset_down hdown hdel hroom rfl⟩⟩⟩
  obtain ⟨hlink, hraised, hdoor, hkeeps⟩ := linkReset_gone (l := l) (more := more) hup rfl
  refine ⟨_, exec_linkReset horigin hdel, by rw [hlink]; rfl, by rw [hlink]; rfl, by rw [hlink]; rfl, by rw [hlink]; rfl,
    by rw [hlink]; rfl, by rw [hlink]; rfl, by rw [hlink]; rfl, by rw [hlink]; rfl, hraised, hdoor, hkeeps, ?_⟩
  intro hwatch hdesk told raised htold huntold out hroom
  refine linkReset_quiet hup hdel hwatch hdesk ?_ hroom rfl
  by_cases h : s.tells k = true
  · rw [if_pos h]; exact htold ((tells_iff s k).mp h)
  · rw [if_neg h]; exact huntold fun ht => h ((tells_iff s k).mpr ht)

end Sys2Proof.Machine
end

section
/-!
PROOF. What a frame period brings to a link: the frame at the held alignment (O24), and the eighth lost frame (O25).
-/

namespace Sys2Proof.Machine

/-! ### The frame that starts with its frame period (R144, R145) -/

/-- The octets of a line without a pause, each with the line bit that began it. -/
def arrivalsOf (os : List Octet) : List Arrival := os.zipIdx.map fun x => ⟨(10 * x.2 : Nat), x.1⟩

theorem octetBits_length (o : Octet) : (octetBits o).length = 10 := by simp [octetBits]

theorem lineBits_length (os : List Octet) : (lineBits os).length = 10 * os.length := by
  induction os with
  | nil => rfl
  | cons o os ih =>
    rw [lineBits, List.flatMap_cons, List.length_append, octetBits_length, List.length_cons]
    rw [lineBits] at ih
    omega

/-- An arrival of a line of octets begins and ends within it. -/
theorem start_of_mem_arrivalsOf {os : List Octet} {a : Arrival} (h : a ∈ arrivalsOf os) :
    0 ≤ a.start ∧ a.start + 10 ≤ 10 * os.length := by
  obtain ⟨⟨o, i⟩, hi, rfl⟩ := List.mem_map.mp h
  have hlt := List.snd_lt_of_mem_zipIdx hi
  constructor
  · exact Int.natCast_nonneg _
  · dsimp only at hlt ⊢
    omega

/-- A link unit once its receiver, at rest, has taken a line of octets and the stop level. -/
def LinkUnit.classedOnce (u : LinkUnit) : LinkUnit := { u with unclassed := u.unclassed - 1 }

theorem received_period {u : LinkUnit} (h : u.receiver = .rest) (os : List Octet) (idle : Nat) :
    u.received (lineBits os ++ List.replicate idle true) = u.classedOnce ∧
      (u.receiver.period (lineBits os ++ List.replicate idle true)).2 = arrivalsOf os := by
  refine ⟨received_lineBits h os idle, ?_⟩
  rw [h, receiver_period]
  rfl

/-- A link is held on a frame that starts with its frame period. -/
structure LinkUnit.Whole (u : LinkUnit) : Prop where
  state : u.state ≠ .down
  acquiring : u.acquiring = false
  gathered : u.gathered = []

theorem setLink_link_eq (s : State) (l : LinkId) : s.setLink l (s.link l) = s := by simp [State.setLink, State.link]

/-- The line of a frame period brings the octets of the frame that ends with it: the frame starts with the period, or the
line is silent. -/
theorem upstream_whole {s : State} {l : LinkId} {os : List Octet} {n : Nat} (hwhole : (s.link l).Whole)
    (halign : (s.link l).alignment = some 0 ∨ os = []) (hn : 10 * os.length ≤ n) :
    s.upstream l n (arrivalsOf os) = s.takeFrame l os := by
  obtain ⟨hstate, hacq, hgathered⟩ := hwhole
  have hstart : ∀ a ∈ arrivalsOf os, 0 ≤ a.start ∧ a.start + 10 ≤ (s.link l).frameEnd n := by
    intro a ha
    obtain halign | rfl := halign
    · obtain ⟨h0, h1⟩ := start_of_mem_arrivalsOf ha
      have hend : (s.link l).frameEnd n = n := by rw [LinkUnit.frameEnd, halign]
      rw [hend]
      omega
    · cases ha
  have hplaced : placedOctets n ((s.link l).frameEnd n) (arrivalsOf os) = os := by
    obtain halign | rfl := halign
    · rw [LinkUnit.frameEnd, halign]
      exact placedOctets_lineBits os n hn
    · rfl
  have hnone : (arrivalsOf os).filter (fun a => decide (((s.link l).frameEnd n : Int) ≤ a.start)) = [] :=
    List.filter_eq_nil_iff.mpr fun a ha => by
      have := hstart a ha
      simp only [decide_eq_true_eq]
      omega
  have hrest : (arrivalsOf os).filter
      (fun a => decide (((s.link l).frameEnd n : Int) < a.start + Config.lineBitsPerOctet)) = [] :=
    List.filter_eq_nil_iff.mpr fun a ha => by
      have hbefore := hstart a ha
      refine fun h => absurd (of_decide_eq_true h) (Int.not_lt.mpr ?_)
      exact hbefore.2
  have hgather : (s.link l).gather n ((s.link l).frameEnd n) (arrivalsOf os) = s.link l := by
    rw [LinkUnit.gather, hnone, List.map_nil, ← hacq, ← hgathered]
  simp only [State.upstream, if_neg hstate, hacq, Bool.false_eq_true, if_false, hgathered, List.nil_append, hplaced, hrest,
    hgather, setLink_link_eq, State.hunt16, ite_self]

theorem settleUpstream_of_up {s before : State} {l : LinkId} (h : (before.link l).state ≠ .down) :
    s.settleUpstream before l = s.settle before := if_neg fun ht => h (by rw [ht.1]; exact ht.2.1)

/-- UPSTREAM_FRAME with the frame that starts with its frame period, or a silent line. -/
theorem exec_upstreamFrame_whole {s : State} {l : LinkId} {os : List Octet} {idle : Nat} (hrest : (s.link l).receiver = .rest)
    (hwhole : (s.link l).Whole) (halign : (s.link l).alignment = some 0 ∨ os = []) :
    exec (.upstreamFrame l (lineBits os ++ List.replicate idle true)) s =
      .next (((s.setLink l (s.link l).classedOnce).takeFrame l os).settle s) := by
  obtain ⟨hreceived, harrivals⟩ := received_period hrest os idle
  refine congrArg Host.Outcome.next ?_
  rw [hreceived, harrivals, settleUpstream_of_up hwhole.state, upstream_whole]
  · rw [setLink_link_self]; exact ⟨hwhole.state, hwhole.acquiring, hwhole.gathered⟩
  · rw [setLink_link_self]; exact halign
  · rw [List.length_append, lineBits_length]; omega

/-! ### O25: the eighth lost frame in a row -/

theorem frameClass_lost {l : LinkId} {os : List Octet} (h : os.head? ≠ some 0x5A#8) : frameClass l os = .lost := by
  cases os with
  | nil => rfl
  | cons o os => exact if_pos fun ho => h (by rw [ho]; rfl)

/-- The link unit that goes DOWN at its eighth lost frame. -/
def LinkUnit.lostAgain (u : LinkUnit) : LinkUnit := (u.classed .lost).presentSilence

theorem takeFrame_lost_goesDown {s : State} {l : LinkId} {os : List Octet} (h : frameClass l os = .lost)
    (hrun : 7 ≤ (s.link l).lostRun) : s.takeFrame l os = (s.setLink l (s.link l).lostAgain).goDown l := by
  have hkept : (s.setLink l ((s.link l).classed .lost)).noteChange l (s.link l).state =
      s.setLink l ((s.link l).classed .lost) := if_pos (by rw [setLink_link_self]; rfl)
  unfold State.takeFrame
  simp only [h, hkept, setLink_link_self, setLink_setLink]
  exact if_pos (by show 8 ≤ (s.link l).lostRun + 1; omega)

/-- Settles O25: the frame is lost, the link goes DOWN, and what follows is work on calls. -/
theorem eighthLostFrameTakesLinkDown : Obligations.EighthLostFrameTakesLinkDown := by
  intro s l os idle hrest hstate hrun hacq hgathered hlost
  have hexec := exec_upstreamFrame_whole (idle := idle) hrest ⟨hstate, hacq, hgathered⟩ (hlost.imp_left And.left)
  have hclass : frameClass l os = .lost := frameClass_lost (hlost.elim And.right fun h => by rw [h]; exact nofun)
  rw [takeFrame_lost_goesDown hclass (by rw [setLink_link_self]; exact hrun), setLink_link_self, setLink_setLink] at hexec
  have hgone := (gone_goDown (s.setLink l (s.link l).classedOnce.lostAgain) l).onCalls (onCalls_settle _ s)
  have hkeeps : KeepsToLinkLoss s (s.setLink l (s.link l).classedOnce.lostAgain) l :=
    keepsToLinkLoss_of_links rfl fun k hk => .of_eq (setLink_link_ne _ _ hk)
  have hlink := hgone.link
  rw [setLink_link_self] at hlink
  have hall := hkeeps.trans hgone.keeps
  obtain ⟨-, -, -, -, hquiet, -, -⟩ := id hall
  refine ⟨_, hexec, by rw [hlink]; rfl, by rw [hlink]; rfl, by rw [hlink]; rfl, by rw [hlink]; rfl, by rw [hlink]; rfl,
    by rw [hlink]; rfl, by rw [hlink]; rfl, by rw [hlink]; rfl, by rw [hlink]; rfl, by rw [hlink]; rfl, by rw [hlink]; rfl,
    by rw [hlink]; rfl, fun o ho => ?_, hgone.raised, hgone.door, fun r hr => ?_, hgone.trunk, hall⟩
  · rw [hlink] at ho
    obtain ⟨-, -, rfl⟩ := List.mem_map.mp ho
    rfl
  · obtain ⟨hturn, haway⟩ := hgone.riser r hr
    exact ⟨hturn, fun a => ⟨(haway a).1, (haway a).2, hquiet r a⟩⟩

/-! ### What a message put leaves of a link -/

/-- A link unit is as it was but for what it has to send. -/
def TxKept (s t : State) (k : LinkId) : Prop :=
  t.link k = { s.link k with tx := (t.link k).tx, txDrops := (t.link k).txDrops }

theorem TxKept.of_eq {s t : State} {k : LinkId} (h : t.link k = s.link k) : TxKept s t k := by rw [TxKept, h]

theorem TxKept.trans {s t u : State} {k : LinkId} (h : TxKept s t k) (h' : TxKept t u k) : TxKept s u k := by
  rw [TxKept, h', h]

theorem TxKept.linkKept {s t : State} {k : LinkId} (h : TxKept s t k) : LinkKept s t k := by rw [LinkKept, h]

theorem txKept_put (s : State) (l k : LinkId) (m : Message) : TxKept s (s.put l m) k := by
  by_cases h : k = l
  · subst h; exact put_link_self s k m
  · exact .of_eq (put_link_ne s m h)

theorem txKept_settle (s before : State) (k : LinkId) : TxKept s (s.settle before) k := by
  rcases settle_cases s before with e | e | e
  · rw [e]; exact .of_eq rfl
  · rw [e]; exact txKept_put ..
  · rw [e]; exact (txKept_put ..).trans (txKept_put ..)

/-- The end of an upstream frame writes what an event's end does. -/
theorem settleUpstream_cases (s before : State) (l : LinkId) :
    s.settleUpstream before l = s ∨ s.settleUpstream before l = s.put .trunk (attentionMsg s.maskedPending) ∨
      s.settleUpstream before l = s.settle before := by
  unfold State.settleUpstream
  split
  · split
    · exact .inl rfl
    · exact .inr (.inl rfl)
  · exact .inr (.inr rfl)

theorem txKept_settleUpstream (s before : State) (l k : LinkId) : TxKept s (s.settleUpstream before l) k := by
  rcases settleUpstream_cases s before l with e | e | e
  · rw [e]; exact .of_eq rfl
  · rw [e]; exact txKept_put ..
  · rw [e]; exact txKept_settle ..

theorem settleUpstream_frame (s before : State) (l : LinkId) :
    s.settleUpstream before l =
      { s with links := (s.settleUpstream before l).links, attention := (s.settleUpstream before l).attention } := by
  rcases settleUpstream_cases s before l with e | e | e
  · rw [e]
  · rw [e, put_frame]
  · rw [e, settle_frame]

/-! ### O24: the signalling octets of a good frame (R149, R160, R161) -/

theorem takeSignalling_idle {s : State} {l : LinkId} (h : (s.link l).assembly.stage ≠ .collecting) :
    State.takeSignalling l s 0xE7#8 = s.setAssembly l Assembly.openStage := by
  have hfeed : (s.link l).assembly.feed 0xE7#8 = (Assembly.openStage, .nothing) := by
    unfold Assembly.feed
    split
    · rfl
    · rfl
    next hc => exact absurd hc h
  simp only [State.takeSignalling, hfeed]

theorem setAssembly_self {s : State} {l : LinkId} {a : Assembly} (h : (s.link l).assembly = a) : s.setAssembly l a = s := by
  subst h
  exact setLink_link_eq s l

/-- Idle fill in both signalling octets leaves the stage in OPEN. -/
theorem takeSignalling_idle_idle {s : State} {l : LinkId} (h : (s.link l).assembly.stage ≠ .collecting) :
    [0xE7#8, 0xE7#8].foldl (State.takeSignalling l) s = s.setAssembly l Assembly.openStage := by
  have hopen : ((s.setAssembly l Assembly.openStage).link l).assembly = Assembly.openStage := by
    rw [State.setAssembly, setLink_link_self]
  show State.takeSignalling l (State.takeSignalling l s 0xE7#8) 0xE7#8 = _
  rw [takeSignalling_idle h, takeSignalling_idle (by rw [hopen]; exact nofun), setAssembly_self hopen]

/-- The state once the delimiter has ended the message in assembly (R55, R57, R161). -/
def State.messageEnds (s : State) (l : LinkId) (m : Message) : State :=
  ((if (s.setAssembly l Assembly.openStage).admits l m then (s.setAssembly l Assembly.openStage).enqueue l m
    else (s.setAssembly l Assembly.openStage).countCheckError l)).endAnsweredTurn l

theorem enqueue_assembly (s : State) (l : LinkId) (m : Message) :
    ((s.enqueue l m).link l).assembly = (s.link l).assembly := by
  unfold State.enqueue
  dsimp only
  split
  · rw [setLink_link_self]
  · split
    · rw [setLink_link_self]
    · rw [raise_link, setLink_link_self]

theorem endAnsweredTurn_frame (s : State) (l : LinkId) :
    s.endAnsweredTurn l = { s with schedulers := (s.endAnsweredTurn l).schedulers } := by
  unfold State.endAnsweredTurn
  split
  · split
    · split
      · rfl
      · rfl
    · rfl
  · rfl

theorem messageEnds_assembly (s : State) (l : LinkId) (m : Message) :
    ((s.messageEnds l m).link l).assembly = Assembly.openStage := by
  rw [State.messageEnds, endAnsweredTurn_link]
  split
  · rw [enqueue_assembly, State.setAssembly, setLink_link_self]
  · rw [State.countCheckError, setLink_link_self, State.setAssembly, setLink_link_self]

theorem takeSignalling_ends {s : State} {l : LinkId} {m : Message}
    (h : (s.link l).assembly = { stage := .collecting, body := m.body, escape := false }) :
    [0xE7#8, 0xE7#8].foldl (State.takeSignalling l) s = s.messageEnds l m := by
  have hfirst : State.takeSignalling l s 0xE7#8 = s.messageEnds l m := by
    have hfeed : (s.link l).assembly.feed 0xE7#8 = (Assembly.openStage, .ended m.body false) := by rw [h]; rfl
    simp only [State.takeSignalling, hfeed, State.takeBody, judgeBody_body, State.messageEnds]
  show State.takeSignalling l (State.takeSignalling l s 0xE7#8) 0xE7#8 = _
  rw [hfirst, takeSignalling_idle (by rw [messageEnds_assembly]; exact nofun), setAssembly_self (messageEnds_assembly s l m)]

/-! ### O24: a good frame (R108, R146, R150) -/

/-- A link unit that has taken the voice octets and the hold-off mark of a good frame. -/
def LinkUnit.carried (u : LinkUnit) (l : LinkId) (status : Octet) (voice : List Octet) : LinkUnit :=
  { u.takeVoice (some voice) with partnerHoldOff := if isRiser l then u.partnerHoldOff else holdOffMark status }

theorem takeGoodFrame_frameOf {s : State} {l : LinkId} {status : Octet} {voice : List Octet}
    (hvoice : voice.length = l.voiceChannels) :
    s.takeGoodFrame l (frameOf status 0xE7#8 0xE7#8 voice) =
      [0xE7#8, 0xE7#8].foldl (State.takeSignalling l) (s.setLink l ((s.link l).carried l status voice)) := by
  have htake : ((frameOf status 0xE7#8 0xE7#8 voice).drop 4).take l.voiceChannels = voice := by
    show (voice ++ [_]).take l.voiceChannels = voice
    rw [← hvoice, List.take_left]
  unfold State.takeGoodFrame
  rw [htake]
  rfl

/-- A good frame of a link that is UP or IMPAIRED, by the link unit that its class leaves. -/
theorem takeFrame_good {s : State} {l : LinkId} {status : Octet} {voice : List Octet} (hvoice : voice.length = l.voiceChannels) :
    s.takeFrame l (frameOf status 0xE7#8 0xE7#8 voice) =
      [0xE7#8, 0xE7#8].foldl (State.takeSignalling l)
        (((s.setLink l ((s.link l).classed .good)).noteChange l (s.link l).state).setLink l
          (((s.link l).classed .good).carried l status voice)) := by
  have hlink : ((s.setLink l ((s.link l).classed .good)).noteChange l (s.link l).state).link l = (s.link l).classed .good := by
    unfold State.noteChange
    split
    · exact setLink_link_self ..
    · exact setLink_link_self ..
  unfold State.takeFrame
  simp only [frameClass_frameOf status 0xE7#8 0xE7#8 hvoice]
  rw [takeGoodFrame_frameOf hvoice, hlink]

theorem classed_assembly (u : LinkUnit) (k : FrameClass) : (u.classed k).assembly = u.assembly := by
  cases k with
  | good =>
    unfold LinkUnit.classed
    dsimp only
    rw [apply_ite LinkUnit.assembly]
    exact ite_self _
  | bad => rfl
  | lost => rfl

/-- The link unit that a good frame of idle fill leaves. -/
def LinkUnit.goodIdle (u : LinkUnit) (l : LinkId) (status : Octet) (voice : List Octet) : LinkUnit :=
  { (u.classed .good).carried l status voice with assembly := Assembly.openStage }

theorem takeFrame_good_idle {s : State} {l : LinkId} {status : Octet} {voice : List Octet}
    (hvoice : voice.length = l.voiceChannels) (hstage : (s.link l).assembly.stage ≠ .collecting) :
    s.takeFrame l (frameOf status 0xE7#8 0xE7#8 voice) =
      ((s.setLink l ((s.link l).classed .good)).noteChange l (s.link l).state).setLink l ((s.link l).goodIdle l status voice) := by
  have hkept : (((s.link l).classed .good).carried l status voice).assembly = (s.link l).assembly := by
    exact classed_assembly _ _
  rw [takeFrame_good hvoice, takeSignalling_idle_idle (by rw [setLink_link_self, hkept]; exact hstage), State.setAssembly,
    setLink_link_self, setLink_setLink]
  rfl

theorem noteChange_of_kept {s : State} {l : LinkId} {x : LinkState} (h : (s.link l).state = x) : s.noteChange l x = s := if_pos h

theorem noteChange_of_changed {s : State} {l : LinkId} {x : LinkState} (h : (s.link l).state ≠ x) :
    s.noteChange l x = s.raise .link := if_neg h

theorem classed_good_of_up {u : LinkUnit} (h : u.state = .up) :
    u.classed .good = { u with lostRun := 0, history := historyAfter false u.history } := by
  simp [LinkUnit.classed, h]

theorem classed_good_of_64th {u : LinkUnit} (h : u.state = .impaired) (hrun : u.goodRun = 63) :
    u.classed .good = { u with state := .up, lostRun := 0, goodRun := 0, history := historyAfter false u.history } := by
  simp [LinkUnit.classed, h, hrun]

theorem classed_good_of_impaired {u : LinkUnit} (h : u.state = .impaired) (hrun : u.goodRun < 63) :
    u.classed .good = { u with lostRun := 0, goodRun := u.goodRun + 1, history := historyAfter false u.history } := by
  have hnot : ¬ 64 ≤ u.goodRun + 1 := by omega
  simp [LinkUnit.classed, h, hnot]

/-- A good frame of idle fill on a link in the state it keeps: nothing but its unit changes. -/
theorem exec_good_idle_kept {s : State} {l : LinkId} {status : Octet} {voice : List Octet} (hrest : (s.link l).receiver = .rest)
    (hvoice : voice.length = l.voiceChannels) (hwhole : (s.link l).Whole) (halign : (s.link l).alignment = some 0)
    (hstage : (s.link l).assembly.stage ≠ .collecting)
    (hstate : ((s.link l).classedOnce.classed .good).state = (s.link l).state) :
    exec (.upstreamFrame l (lineBits (frameOf status 0xE7#8 0xE7#8 voice))) s =
      .next (s.setLink l ((s.link l).classedOnce.goodIdle l status voice)) := by
  have hexec := exec_upstreamFrame_whole (os := frameOf status 0xE7#8 0xE7#8 voice) (idle := 0) hrest hwhole (.inl halign)
  rw [List.replicate_zero, List.append_nil, takeFrame_good_idle hvoice (by rw [setLink_link_self]; exact hstage),
    setLink_link_self, noteChange_of_kept (by rw [setLink_link_self]; exact hstate), setLink_setLink, setLink_setLink] at hexec
  exact hexec.trans (congrArg Host.Outcome.next (settle_of_not_gains (gains_self _)))

/-- The 64th good frame in a row. -/
theorem exec_good_idle_up {s : State} {l : LinkId} {status : Octet} {voice : List Octet} (hrest : (s.link l).receiver = .rest)
    (hvoice : voice.length = l.voiceChannels) (hwhole : (s.link l).Whole) (halign : (s.link l).alignment = some 0)
    (hstage : (s.link l).assembly.stage ≠ .collecting)
    (hstate : ((s.link l).classedOnce.classed .good).state ≠ (s.link l).state) :
    exec (.upstreamFrame l (lineBits (frameOf status 0xE7#8 0xE7#8 voice))) s =
      .next (((s.setLink l ((s.link l).classedOnce.goodIdle l status voice)).raise .link).settle s) := by
  have hexec := exec_upstreamFrame_whole (os := frameOf status 0xE7#8 0xE7#8 voice) (idle := 0) hrest hwhole (.inl halign)
  rw [List.replicate_zero, List.append_nil, takeFrame_good_idle hvoice (by rw [setLink_link_self]; exact hstage),
    setLink_link_self, noteChange_of_changed (by rw [setLink_link_self]; exact hstate), setLink_setLink] at hexec
  have hcomm : ∀ (t : State) (u v : LinkUnit), ((t.setLink l u).raise .link).setLink l v = (t.setLink l v).raise .link := by
    intro t u v
    rw [← setLink_setLink t l u v]; rfl
  rw [hexec, hcomm]

/-- What raises LINK, then ends its event. -/
theorem settle_raise_link (s before : State) : ((s.raise .link).settle before).attention.getLsbD 0 = true := by
  refine settle_keeps_class _ ?_
  rw [State.raise, BitVec.getLsbD_or]
  exact Bool.or_eq_true_iff.mpr (.inr rfl)

/-! ### O24: a message that ends (R55, R57, R161, R162) -/

/-- A message is admitted from a link (R57). -/
def State.Admits (s : State) (l : LinkId) (m : Message) : Prop :=
  ∀ r, l = .riser r → ∃ x, s.turn r = some x ∧ x.answered = true ∧ (m.addr = BitVec.ofNat 8 x.addr.val ∨ m.addr = 63#8)

theorem admits_iff (s : State) (l : LinkId) (m : Message) : s.admits l m = true ↔ s.Admits l m := by
  cases l with
  | panel p => exact ⟨fun _ _ h => LinkId.noConfusion h, fun _ => rfl⟩
  | trunk => exact ⟨fun _ _ h => LinkId.noConfusion h, fun _ => rfl⟩
  | riser r =>
    unfold State.admits State.Admits
    dsimp only
    constructor
    · intro h i hi
      obtain rfl := LinkId.riser.inj hi
      split at h
      next x hx =>
        obtain ⟨hanswered, haddr⟩ := Bool.and_eq_true_iff.mp h
        exact ⟨x, hx, hanswered, (Bool.or_eq_true_iff.mp haddr).imp of_decide_eq_true of_decide_eq_true⟩
      next => cases h
    · intro h
      obtain ⟨x, hx, hanswered, haddr⟩ := h r rfl
      rw [hx]
      exact Bool.and_eq_true_iff.mpr ⟨hanswered, Bool.or_eq_true_iff.mpr (haddr.imp decide_eq_true decide_eq_true)⟩

theorem admits_congr {s u : State} (l : LinkId) (m : Message) (h : u.schedulers = s.schedulers) :
    u.admits l m = s.admits l m := by
  unfold State.admits State.turn State.scheduler
  rw [h]

/-- An answered turn ends with its message; no other turn is touched (R55). -/
theorem endAnsweredTurn_scheduler (s : State) (l : LinkId) (r : Fin 8) :
    (s.endAnsweredTurn l).scheduler r =
      { s.scheduler r with turn := if l = .riser r then (s.turn r).filter (fun x => !x.answered) else s.turn r } := by
  by_cases hl : l = .riser r
  · subst hl
    rw [if_pos rfl]
    unfold State.endAnsweredTurn
    dsimp only
    split
    next x hx =>
      cases hanswered : x.answered with
      | true => rw [if_pos rfl, State.setTurn, setScheduler_scheduler_self, hx, Option.filter_some]; simp [hanswered]
      | false => rw [if_neg (by decide), hx, Option.filter_some]; simp [hanswered, ← hx]; rfl
    next hx => rw [hx]; exact congrArg (fun y => ({ s.scheduler r with turn := y } : Scheduler)) hx
  · rw [if_neg hl]
    unfold State.endAnsweredTurn
    split
    next i =>
      split
      · split
        · rw [State.setTurn, setScheduler_scheduler_ne _ _ fun h => hl (by rw [h])]; rfl
        · rfl
      · rfl
    next => rfl

/-- Where a message taken goes by the places left (R162). -/
theorem enqueue_of_place {s : State} {l : LinkId} (m : Message) (h : (s.link l).rx.length < 4) :
    s.enqueue l m = s.setLink l { s.link l with rx := (s.link l).rx ++ [.message m] } := if_pos h

theorem enqueue_of_slot {s : State} {l : LinkId} (m : Message) (h : 4 ≤ (s.link l).rx.length)
    (hslot : (s.link l).holding = none) : s.enqueue l m = s.setLink l { s.link l with holding := some m } :=
  (if_neg (Nat.not_lt.mpr h)).trans (if_pos hslot)

theorem enqueue_of_full {s : State} {l : LinkId} (m : Message) (h : 4 ≤ (s.link l).rx.length)
    (hslot : (s.link l).holding ≠ none) :
    s.enqueue l m =
      (s.setLink l { s.link l with holding := some m, overruns := countUp (s.link l).overruns }).raise .fault :=
  (if_neg (Nat.not_lt.mpr h)).trans (if_neg hslot)

/-- FAULT pending already, a message put adds no class. -/
theorem put_fault {s : State} (l : LinkId) (m : Message) (h : s.attention ||| 0x04#8 = s.attention) :
    (s.put l m).attention = s.attention := by
  rcases put_cases s l m with ⟨-, e⟩ | ⟨-, -, e⟩ | ⟨-, -, e⟩
  · rw [e]
  · rw [e]; rfl
  · rw [e]; exact h

theorem settle_fault {s : State} (before : State) (h : s.attention ||| 0x04#8 = s.attention) :
    (s.settle before).attention = s.attention := by
  rcases settle_cases s before with e | e | e
  · rw [e]
  · rw [e]; exact put_fault _ _ h
  · rw [e, put_fault _ _ (by rw [put_fault _ _ h]; exact h), put_fault _ _ h]

/-- A good frame of an UP link that ends a message. -/
theorem exec_good_ends {s : State} {l : LinkId} {status : Octet} {voice : List Octet} {m : Message}
    (hrest : (s.link l).receiver = .rest) (hvoice : voice.length = l.voiceChannels) (hwhole : (s.link l).Whole)
    (halign : (s.link l).alignment = some 0) (hup : (s.link l).state = .up)
    (hassembly : (s.link l).assembly = { stage := .collecting, body := m.body, escape := false }) :
    exec (.upstreamFrame l (lineBits (frameOf status 0xE7#8 0xE7#8 voice))) s =
      .next (((s.setLink l (((s.link l).classedOnce.classed .good).carried l status voice)).messageEnds l m).settle s) := by
  have hexec := exec_upstreamFrame_whole (os := frameOf status 0xE7#8 0xE7#8 voice) (idle := 0) hrest hwhole (.inl halign)
  have hstate : ((s.link l).classedOnce.classed .good).state = (s.link l).classedOnce.state := by
    rw [classed_good_of_up (u := (s.link l).classedOnce) hup]
  rw [List.replicate_zero, List.append_nil, takeFrame_good hvoice, setLink_link_self,
    noteChange_of_kept (by rw [setLink_link_self]; exact hstate), setLink_setLink, setLink_setLink,
    takeSignalling_ends (by rw [setLink_link_self]; exact (classed_assembly _ _).trans hassembly)] at hexec
  exact hexec

/-- What becomes of a message that has ended on a link whose unit is `v`: the unit after it, and whether FAULT is raised. -/
structure LinkUnit.Takes (v u : LinkUnit) (m : Message) (admitted fault : Bool) : Prop where
  frame : u = { v with rx := u.rx, holding := u.holding, checkErrors := u.checkErrors, overruns := u.overruns }
  refused : admitted = false → u.rx = v.rx ∧ u.holding = v.holding ∧ u.checkErrors = min (v.checkErrors + 1) 65535 ∧ fault = false
  counted : admitted = true → u.checkErrors = v.checkErrors
  place : admitted = true → v.rx.length < 4 →
    u.rx = v.rx ++ [.message m] ∧ u.holding = v.holding ∧ u.overruns = v.overruns ∧ fault = false
  slot : admitted = true → 4 ≤ v.rx.length → u.rx = v.rx ∧ u.holding = some m
  free : admitted = true → 4 ≤ v.rx.length → v.holding = none → u.overruns = v.overruns ∧ fault = false
  full : admitted = true → 4 ≤ v.rx.length → v.holding ≠ none → u.overruns = min (v.overruns + 1) 65535 ∧ fault = true

/-- A message that has ended is taken, or counted, on its own unit alone, and raises FAULT alone. -/
theorem messageTaken (s : State) (l : LinkId) (v : LinkUnit) (m : Message) :
    ∃ u fault, (if (s.setLink l v).admits l m then (s.setLink l v).enqueue l m else (s.setLink l v).countCheckError l) =
        (if fault then (s.setLink l u).raise .fault else s.setLink l u) ∧
      v.Takes u m (s.admits l m) fault := by
  have hadmits : (s.setLink l v).admits l m = s.admits l m := admits_congr l m rfl
  rw [hadmits]
  cases s.admits l m with
  | false =>
    refine ⟨{ v with checkErrors := countUp v.checkErrors }, false, ?_, rfl, fun _ => ⟨rfl, rfl, rfl, rfl⟩, nofun, nofun, nofun,
      nofun, nofun⟩
    rw [if_neg (by decide), if_neg (by decide), State.countCheckError, setLink_link_self, setLink_setLink]
  | true =>
    rw [if_pos rfl]
    have hv : ((s.setLink l v).link l) = v := setLink_link_self ..
    by_cases hlen : v.rx.length < 4
    · refine ⟨{ v with rx := v.rx ++ [.message m] }, false, ?_, rfl, nofun, fun _ => rfl, fun _ _ => ⟨rfl, rfl, rfl, rfl⟩,
        fun _ h => absurd hlen (Nat.not_lt.mpr h), fun _ h => absurd hlen (Nat.not_lt.mpr h),
        fun _ h => absurd hlen (Nat.not_lt.mpr h)⟩
      rw [enqueue_of_place m (by rw [hv]; exact hlen), hv, setLink_setLink]
      rfl
    · have hlen' := Nat.not_lt.mp hlen
      by_cases hslot : v.holding = none
      · refine ⟨{ v with holding := some m }, false, ?_, rfl, nofun, fun _ => rfl, fun _ h => absurd h hlen,
          fun _ _ => ⟨rfl, rfl⟩, fun _ _ _ => ⟨rfl, rfl⟩, fun _ _ h => absurd hslot h⟩
        rw [enqueue_of_slot m (by rw [hv]; exact hlen') (by rw [hv]; exact hslot), hv, setLink_setLink]
        rfl
      · refine ⟨{ v with holding := some m, overruns := countUp v.overruns }, true, ?_, rfl, nofun, fun _ => rfl,
          fun _ h => absurd h hlen, fun _ _ => ⟨rfl, rfl⟩, fun _ _ h => absurd h hslot, fun _ _ _ => ⟨rfl, rfl⟩⟩
        rw [enqueue_of_full m (by rw [hv]; exact hlen') (by rw [hv]; exact hslot), hv, setLink_setLink]
        rfl

/-- The end of an event that has raised FAULT, or nothing. -/
theorem settle_ite_fault {s before : State} (fault : Bool) (h : s.maskedPending = before.maskedPending) :
    ((if fault then s.raise .fault else s).settle before).attention =
      if fault then s.attention ||| 0x04#8 else s.attention := by
  cases fault with
  | false => rw [if_neg (by decide), if_neg (by decide), settle_of_not_gains (by rw [h, gains_self])]
  | true =>
    refine settle_fault before ?_
    show s.attention ||| 0x04#8 ||| 0x04#8 = s.attention ||| 0x04#8
    rw [BitVec.or_assoc, BitVec.or_self]

theorem endAnsweredTurn_raise (s : State) (l : LinkId) (c : AttentionClass) :
    (s.raise c).endAnsweredTurn l = (s.endAnsweredTurn l).raise c := by
  cases l with
  | panel p => rfl
  | trunk => rfl
  | riser r =>
    unfold State.endAnsweredTurn
    dsimp only
    rw [raise_turn]
    split
    · split
      · rfl
      · rfl
    · rfl

/-- The state in which a good frame of an UP link has ended a message: one unit written, the turn ended, and FAULT perhaps
raised. -/
theorem messageEnds_eq (s : State) (l : LinkId) (m : Message) (v : LinkUnit) :
    ∃ u fault, { v with assembly := Assembly.openStage }.Takes u m (s.admits l m) fault ∧
      (s.setLink l v).messageEnds l m =
        (if fault then ((s.setLink l u).endAnsweredTurn l).raise .fault else (s.setLink l u).endAnsweredTurn l) := by
  obtain ⟨u, fault, hx, htakes⟩ := messageTaken s l { v with assembly := Assembly.openStage } m
  refine ⟨u, fault, htakes, ?_⟩
  have hopen : (s.setLink l v).setAssembly l Assembly.openStage = s.setLink l { v with assembly := Assembly.openStage } := by
    rw [State.setAssembly, setLink_link_self, setLink_setLink]
  rw [State.messageEnds, hopen, hx]
  cases fault with
  | false => rfl
  | true => exact endAnsweredTurn_raise ..

/-- What a good frame of an UP link that ends a message leaves. -/
structure MessageTaken (s t : State) (l : LinkId) (u : LinkUnit) (fault : Bool) : Prop where
  frame : t = { s with links := t.links, schedulers := t.schedulers, attention := t.attention }
  others : ∀ k, k ≠ l → LinkKept s t k
  unit : t.link l = { u with tx := (t.link l).tx, txDrops := (t.link l).txDrops }
  turns : ∀ r, t.scheduler r =
    { s.scheduler r with turn := if l = .riser r then (s.turn r).filter (fun x => !x.answered) else s.turn r }
  attention : t.attention = if fault then s.attention ||| 0x04#8 else s.attention

theorem messageTaken_settle (s : State) (l : LinkId) (u : LinkUnit) (fault : Bool) :
    MessageTaken s ((if fault then ((s.setLink l u).endAnsweredTurn l).raise .fault
      else (s.setLink l u).endAnsweredTurn l).settle s) l u fault := by
  have hlinks : ∀ k, (if fault then ((s.setLink l u).endAnsweredTurn l).raise .fault
      else (s.setLink l u).endAnsweredTurn l).link k = if k = l then u else s.link k := by
    intro k
    rw [← setLink_link, ← endAnsweredTurn_link (s.setLink l u) l k]
    cases fault <;> rfl
  have hturns : ∀ r, (if fault then ((s.setLink l u).endAnsweredTurn l).raise .fault
      else (s.setLink l u).endAnsweredTurn l).scheduler r =
        { s.scheduler r with turn := if l = .riser r then (s.turn r).filter (fun x => !x.answered) else s.turn r } := by
    intro r
    have h := endAnsweredTurn_scheduler (s.setLink l u) l r
    cases fault <;> exact h
  have hkept := txKept_settle (if fault then ((s.setLink l u).endAnsweredTurn l).raise .fault
      else (s.setLink l u).endAnsweredTurn l) s
  have hframe : (if fault then ((s.setLink l u).endAnsweredTurn l).raise .fault
      else (s.setLink l u).endAnsweredTurn l) =
        { s with
          links := (s.setLink l u).links
          schedulers := ((s.setLink l u).endAnsweredTurn l).schedulers
          attention := if fault then s.attention ||| 0x04#8 else s.attention } := by
    rw [endAnsweredTurn_frame]
    cases fault <;> rfl
  have hattention := settle_ite_fault (s := (s.setLink l u).endAnsweredTurn l) (before := s) fault
    (by rw [endAnsweredTurn_frame]; rfl)
  have hsame : ((s.setLink l u).endAnsweredTurn l).attention = s.attention := by rw [endAnsweredTurn_frame]; rfl
  refine ⟨?_, fun k hk => ?_, ?_, fun r => ?_, ?_⟩
  · rw [settle_frame, hframe]
  · exact LinkKept.trans (.of_eq (by rw [hlinks, if_neg hk])) (hkept k).linkKept
  · have h := hkept l
    rw [TxKept, hlinks, if_pos rfl] at h
    exact h
  · rw [← hturns]
    rw [settle_frame]
    rfl
  · rw [hattention, hsame]

/-- A bad frame on an UP link with another in its history (R147, R148). -/
theorem classed_bad {u : LinkUnit} (h : true ∈ u.history) :
    u.classed .bad =
      { u with
        state := .impaired, lostRun := 0, goodRun := 0, badFrames := min (u.badFrames + 1) 65535
        history := historyAfter true u.history } := by
  have hany : u.history.any (fun b => b) = true := List.any_eq_true.mpr ⟨true, h, rfl⟩
  simp only [LinkUnit.classed, hany, if_true]
  rfl

end Sys2Proof.Machine
end

section
/-!
PROOF. The frame an upstream line brings: good, bad, recovering, hunted for, and cut by the end of a period (O24).
-/

namespace Sys2Proof.Machine

/-! ### A bad frame (R147, R149, R151) -/

theorem strike_frame (s : State) (l : LinkId) :
    s.strike l = { s with links := (s.strike l).links, schedulers := (s.strike l).schedulers } := by
  unfold State.strike
  dsimp only
  split
  · rw [endAnsweredTurn_frame]; rfl
  · rfl

theorem strike_link_self (s : State) (l : LinkId) :
    (s.strike l).link l =
      { s.link l with assembly := Assembly.hunting, checkErrors := ((s.strike l).link l).checkErrors } := by
  unfold State.strike
  dsimp only
  split
  · rw [endAnsweredTurn_link, State.countCheckError, setLink_link_self, State.setAssembly, setLink_link_self]
  · rw [State.setAssembly, setLink_link_self]

theorem strike_link_ne {k l : LinkId} (s : State) (h : k ≠ l) : (s.strike l).link k = s.link k := by
  unfold State.strike
  dsimp only
  split
  · rw [endAnsweredTurn_link, State.countCheckError, setLink_link_ne _ _ h, State.setAssembly, setLink_link_ne _ _ h]
  · rw [State.setAssembly, setLink_link_ne _ _ h]

/-- A strike touches the turn of its own riser alone. -/
theorem strike_scheduler (s : State) (l : LinkId) (r : Fin 8) :
    (s.strike l).scheduler r = { s.scheduler r with turn := (s.strike l).turn r } ∧
      (l ≠ .riser r → (s.strike l).turn r = s.turn r) := by
  unfold State.strike
  dsimp only
  split
  · have h := endAnsweredTurn_scheduler ((s.setAssembly l Assembly.hunting).countCheckError l) l r
    refine ⟨?_, fun hl => ?_⟩
    · rw [State.turn, h]; rfl
    · rw [State.turn, h, if_neg hl]; rfl
  · exact ⟨rfl, fun _ => rfl⟩

/-- The link unit of an UP link as a bad frame in its history leaves it, short of the strike. -/
def LinkUnit.struck (u : LinkUnit) : LinkUnit := (u.classed .bad).takeVoice none

theorem takeFrame_bad {s : State} {l : LinkId} {os : List Octet} (hup : (s.link l).state = .up)
    (hclass : frameClass l os = .bad) (hhistory : true ∈ (s.link l).history) :
    s.takeFrame l os = ((s.setLink l (s.link l).struck).raise .link).strike l := by
  have hchanged : (s.setLink l ((s.link l).classed .bad)).noteChange l (s.link l).state =
      (s.setLink l ((s.link l).classed .bad)).raise .link :=
    noteChange_of_changed (by rw [setLink_link_self, classed_bad hhistory, hup]; exact nofun)
  unfold State.takeFrame
  simp only [hclass, hchanged, raise_link, setLink_link_self]
  refine congrArg (fun t => State.strike t l) ?_
  show ((s.setLink l ((s.link l).classed .bad)).setLink l ((s.link l).classed .bad |>.takeVoice none)).raise .link = _
  rw [setLink_setLink]
  rfl

/-! ### The hunt of a DOWN link (R145) -/

/-- The octets of a line without a pause from place `t` on. -/
def arrivalsFrom (t : Nat) (os : List Octet) : List Arrival := os.zipIdx.map fun x => ⟨(t + 10 * x.2 : Nat), x.1⟩

theorem arrivalsFrom_cons (t : Nat) (o : Octet) (os : List Octet) :
    arrivalsFrom t (o :: os) = ⟨(t : Nat), o⟩ :: arrivalsFrom (t + 10) os := by
  rw [arrivalsFrom, List.zipIdx_cons, List.map_cons, List.zipIdx_succ, List.map_map]
  refine congrArg (List.cons _) (List.map_congr_left fun x _ => congrArg (Arrival.mk · x.1) ?_)
  show ((t + 10 * (x.2 + 1) : Nat) : Int) = (t + 10 + 10 * x.2 : Nat)
  rw [Nat.mul_add, Nat.mul_one, Nat.add_assoc, Nat.add_comm 10]

/-- The octets after the candidate's last marker pass; the marker at the candidate's place is its next. -/
theorem hunt16_reaches {l : LinkId} {n : Nat} (rest : List Octet) (before : List Octet) :
    ∀ (t : Nat) (s : State), (s.link l).markerRun = 15 → before.length < l.frameOctets →
      (s.link l).candidate = some (l.frameOctets - 1 - before.length) →
      State.hunt16 l n (arrivalsFrom t (before ++ 0x5A#8 :: rest)) s =
        (s.setLink l { s.link l with candidate := some 0, markerRun := 16 }).goUp l n (t + 10 * before.length : Nat) := by
  induction before with
  | nil =>
    intro t s hrun _ hcandidate
    have hpos : ¬ l.frameOctets - 1 + 1 < l.frameOctets := by omega
    have hunit : (s.link l).huntOctet l.frameOctets 0x5A#8 = { s.link l with candidate := some 0, markerRun := 16 } := by
      have h : (s.link l).candidate = some (l.frameOctets - 1) := hcandidate
      unfold LinkUnit.huntOctet
      simp only [h, if_neg hpos, hrun]
      rfl
    rw [List.nil_append, arrivalsFrom_cons, State.hunt16]
    dsimp only
    rw [hunit, if_pos (by rw [setLink_link_self])]
    rfl
  | cons o before ih =>
    intro t s hrun hlen hcandidate
    rw [List.length_cons] at hlen hcandidate
    have hnext : l.frameOctets - 1 - (before.length + 1) + 1 = l.frameOctets - 1 - before.length := by omega
    have hwithin : l.frameOctets - 1 - before.length < l.frameOctets := by omega
    have hunit : (s.link l).huntOctet l.frameOctets o =
        { s.link l with candidate := some (l.frameOctets - 1 - before.length) } := by
      unfold LinkUnit.huntOctet
      simp only [hcandidate, hnext, if_pos hwithin]
    have hrun' : ((s.setLink l { s.link l with candidate := some (l.frameOctets - 1 - before.length) }).link l).markerRun = 15 := by
      rw [setLink_link_self]; exact hrun
    rw [List.cons_append, arrivalsFrom_cons, State.hunt16]
    dsimp only
    rw [hunit, if_neg (by rw [hrun']; decide), ih (t + 10) _ hrun' (by omega) (by rw [setLink_link_self]), setLink_link_self,
      setLink_setLink]
    refine congrArg (State.goUp _ l n) (congrArg Nat.cast ?_)
    rw [List.length_cons]
    omega

/-- A receiver at rest takes octets that begin at place `idle`. -/
theorem period_from (idle : Nat) (os : List Octet) :
    Receiver.period .rest (List.replicate idle true ++ lineBits os) = (.rest, arrivalsFrom idle os) := by
  have h := receiver_lineBits idle os []
  rw [List.append_nil] at h
  simp only [Receiver.period, receiver_stop, Nat.zero_add, h, Receiver.bits, List.append_nil]
  rfl

theorem upstream_of_down {s : State} {l : LinkId} {n : Nat} {as : List Arrival} (h : (s.link l).state = .down) :
    s.upstream l n as = State.hunt16 l n as (s.setLink l (s.link l).presentSilence) := if_pos h

theorem settleUpstream_keeps_class {s : State} (before : State) (l : LinkId) {i : Nat} (h : s.attention.getLsbD i = true) :
    (s.settleUpstream before l).attention.getLsbD i = true := by
  rcases settleUpstream_cases s before l with e | e | e
  · rw [e]; exact h
  · rw [e]; exact put_keeps_class _ _ _ h
  · rw [e]; exact settle_keeps_class _ h

/-- The end of an event that raised nothing and brought no link UP. -/
theorem settleUpstream_of_kept {s before : State} {l : LinkId} (hpending : s.maskedPending = before.maskedPending)
    (hdown : (s.link l).state = .down) : s.settleUpstream before l = s := by
  unfold State.settleUpstream
  rw [if_neg fun h => h.2.2 (by rw [← h.1]; exact hdown)]
  exact settle_of_not_gains (by rw [hpending, gains_self])

/-! ### A frame cut by the end of a period (R144, R145; log 6) -/

/-- A frame that begins at place `place` of a period of its own length, cut where the period ends. -/
theorem receiver_cutFrom {os : List Octet} {place : Nat} (h : place ≤ (lineBits os).length) :
    let x := Receiver.bits place .rest ((lineBits os).take ((lineBits os).length - place))
    let y := Receiver.bits (lineBits os).length x.1
      ((lineBits os).drop ((lineBits os).length - place) ++ List.replicate ((lineBits os).length - place) true)
    y.1 = .rest ∧ x.2 ++ y.2 = arrivalsFrom place os := by
  have hline := receiver_lineBits place os (List.replicate ((lineBits os).length - place) true)
  rw [receiver_silent, List.append_nil] at hline
  have hcut := bits_append place .rest ((lineBits os).take ((lineBits os).length - place))
    ((lineBits os).drop ((lineBits os).length - place) ++ List.replicate ((lineBits os).length - place) true)
  have hlen : place + ((lineBits os).take ((lineBits os).length - place)).length = (lineBits os).length := by
    rw [List.length_take]; omega
  rw [← List.append_assoc, List.take_append_drop, hlen, hline] at hcut
  obtain ⟨hrest, harrivals⟩ := Prod.mk.inj hcut
  exact ⟨hrest.symm, harrivals.symm⟩

theorem start_of_mem_arrivalsFrom {t : Nat} {os : List Octet} {a : Arrival} (h : a ∈ arrivalsFrom t os) :
    (t : Int) ≤ a.start ∧ a.start + 10 ≤ t + 10 * os.length := by
  obtain ⟨⟨o, i⟩, hi, rfl⟩ := List.mem_map.mp h
  have hlt := List.snd_lt_of_mem_zipIdx hi
  dsimp only at hlt ⊢
  omega

/-- The octets of a frame that began at place `place` of the period before stand at the places of the frame that ends there. -/
theorem placedOctets_later (os : List Octet) {place n : Nat} (h : 10 * os.length = n) :
    placedOctets n place ((arrivalsFrom place os).map (Arrival.later n)) = os := by
  have hall : ((arrivalsFrom place os).map (Arrival.later n)).filter (fun a =>
      decide ((place : Int) ≤ a.start + n ∧ a.start + Config.lineBitsPerOctet ≤ (place : Int))) =
      (arrivalsFrom place os).map (Arrival.later n) := by
    refine List.filter_eq_self.mpr fun a ha => ?_
    obtain ⟨b, hb, rfl⟩ := List.mem_map.mp ha
    have hstart := start_of_mem_arrivalsFrom hb
    refine decide_eq_true ?_
    show (place : Int) ≤ b.start - n + n ∧ b.start - n + 10 ≤ place
    omega
  have hoctets : ((arrivalsFrom place os).map (Arrival.later n)).map (·.octet) = os := by
    simp [arrivalsFrom, Arrival.later, Function.comp_def, List.zipIdx_map_fst]
  unfold placedOctets
  rw [hall]
  cases os with
  | nil => rfl
  | cons o os =>
    rw [arrivalsFrom_cons, List.map_cons, List.map_cons] at hoctets
    rw [arrivalsFrom_cons, List.map_cons]
    refine (if_pos ?_).trans hoctets
    show ((place : Nat) : Int) - n + n < place + 10
    omega

theorem upstream_acquiring {s : State} {l : LinkId} {n place : Nat} {as : List Arrival} (hstate : (s.link l).state ≠ .down)
    (hacq : (s.link l).acquiring = true) (halign : (s.link l).alignment = some place) (hpos : 0 < place)
    (hall : ∀ a ∈ as, (place : Int) ≤ a.start) :
    s.upstream l n as =
      s.setLink l { s.link l with acquiring := false, gathered := as.map (Arrival.later n) } := by
  have hend : (s.link l).frameEnd n = place := by
    rw [LinkUnit.frameEnd, halign]
    cases place with
    | zero => cases hpos
    | succ k => rfl
  have hgather : as.filter (fun a => decide ((place : Int) ≤ a.start)) = as :=
    List.filter_eq_self.mpr fun a ha => decide_eq_true (hall a ha)
  simp only [State.upstream, if_neg hstate, hacq, if_true, LinkUnit.gather, hend, hgather]

/-- The frame that ends within a period, with no octet after it, is taken; the link stays up. -/
theorem upstream_ends {s : State} {l : LinkId} {n place : Nat} {as : List Arrival} {os : List Octet}
    (hstate : (s.link l).state ≠ .down) (hacq : (s.link l).acquiring = false) (halign : (s.link l).alignment = some place)
    (hpos : 0 < place) (hbefore : ∀ a ∈ as, a.start < place) (hplaced : placedOctets n place ((s.link l).gathered ++ as) = os)
    (hup : (((s.setLink l { s.link l with acquiring := false, gathered := [] }).takeFrame l os).link l).state ≠ .down) :
    s.upstream l n as = (s.setLink l { s.link l with acquiring := false, gathered := [] }).takeFrame l os := by
  have hend : (s.link l).frameEnd n = place := by
    rw [LinkUnit.frameEnd, halign]
    cases place with
    | zero => cases hpos
    | succ k => rfl
  have hgather : as.filter (fun a => decide ((place : Int) ≤ a.start)) = [] :=
    List.filter_eq_nil_iff.mpr fun a ha h => absurd (of_decide_eq_true h) (Int.not_le.mpr (hbefore a ha))
  simp only [State.upstream, if_neg hstate, hacq, Bool.false_eq_true, if_false, LinkUnit.gather, hend, hgather, List.map_nil,
    hplaced, if_neg hup]

/-! ### O24: the clauses -/

/-- The link unit that a good frame of idle fill leaves on an UP link. -/
theorem goodIdle_of_up {u : LinkUnit} {l : LinkId} (h : u.state = .up) (status : Octet) (voice : List Octet) :
    u.goodIdle l status voice =
      { u with
        lostRun := 0
        history := (false :: u.history).take 7
        lastGood := voice
        presented := voice
        assembly := Assembly.openStage
        partnerHoldOff := match l with
          | .riser _ => u.partnerHoldOff
          | _ => status.getLsbD 7 } := by
  have hpresented : (if u.state = .up then voice else voice.map fun _ => 0#8) = voice := if_pos h
  rw [LinkUnit.goodIdle, LinkUnit.carried, classed_good_of_up h]
  simp only [LinkUnit.takeVoice, Option.getD_some, hpresented]
  cases l <;> rfl

/-- The link unit that the 64th good frame in a row leaves. -/
theorem goodIdle_of_64th {u : LinkUnit} {l : LinkId} (h : u.state = .impaired) (hrun : u.goodRun = 63) (status : Octet)
    (voice : List Octet) :
    u.goodIdle l status voice =
      { u with
        state := .up
        lostRun := 0
        goodRun := 0
        history := (false :: u.history).take 7
        lastGood := voice
        presented := voice
        assembly := Assembly.openStage
        partnerHoldOff := (u.goodIdle l status voice).partnerHoldOff } := by
  rw [LinkUnit.goodIdle, LinkUnit.carried, classed_good_of_64th h hrun]
  rfl

/-- The link unit that a good frame leaves on an IMPAIRED link short of its 64th. -/
theorem goodIdle_of_impaired {u : LinkUnit} {l : LinkId} (h : u.state = .impaired) (hrun : u.goodRun < 63) (status : Octet)
    (voice : List Octet) :
    (u.goodIdle l status voice).state = .impaired ∧ (u.goodIdle l status voice).goodRun = u.goodRun + 1 ∧
      (u.goodIdle l status voice).lastGood = voice ∧
      (u.goodIdle l status voice).presented = voice.map fun _ => 0x00#8 := by
  have hpresented : (if u.state = .up then voice else voice.map fun _ => 0#8) = voice.map fun _ => 0#8 :=
    if_neg (by rw [h]; exact nofun)
  rw [LinkUnit.goodIdle, LinkUnit.carried, classed_good_of_impaired h hrun]
  exact ⟨h, rfl, rfl, hpresented⟩

/-- A good frame that ends a message on an UP link (R55, R57, R161, R162). -/
theorem good_ends {s : State} {l : LinkId} {status : Octet} {voice : List Octet} {m : Message}
    (hrest : (s.link l).receiver = .rest) (hvoice : voice.length = l.voiceChannels) (hwhole : (s.link l).Whole)
    (halign : (s.link l).alignment = some 0) (hup : (s.link l).state = .up)
    (hassembly : (s.link l).assembly = { stage := .collecting, body := m.body, escape := false }) :
    ∃ t u fault, exec (.upstreamFrame l (lineBits (frameOf status 0xE7#8 0xE7#8 voice))) s = .next t ∧
      MessageTaken s t l u fault ∧ ((s.link l).classedOnce.goodIdle l status voice).Takes u m (s.admits l m) fault := by
  have hexec := exec_good_ends (status := status) hrest hvoice hwhole halign hup hassembly
  obtain ⟨u, fault, htakes, hends⟩ :=
    messageEnds_eq s l m (((s.link l).classedOnce.classed .good).carried l status voice)
  rw [hends] at hexec
  exact ⟨_, u, fault, hexec, messageTaken_settle s l u fault, htakes⟩

/-- A bad frame on an UP link with another in its history. -/
theorem exec_bad {s : State} {l : LinkId} {os : List Octet} {idle : Nat} (hrest : (s.link l).receiver = .rest)
    (hwhole : (s.link l).Whole) (halign : (s.link l).alignment = some 0) (hup : (s.link l).state = .up)
    (hclass : frameClass l os = .bad) (hhistory : true ∈ (s.link l).history) :
    exec (.upstreamFrame l (lineBits os ++ List.replicate idle true)) s =
      .next ((((s.setLink l (s.link l).classedOnce.struck).raise .link).strike l).settle s) := by
  have hexec := exec_upstreamFrame_whole (os := os) (idle := idle) hrest hwhole (.inl halign)
  rw [takeFrame_bad (by rw [setLink_link_self]; exact hup) hclass (by rw [setLink_link_self]; exact hhistory),
    setLink_link_self, setLink_setLink] at hexec
  exact hexec

/-- A period that finds and leaves the receiver at rest. -/
theorem received_of_rest {u : LinkUnit} {bits : List Bool} (h : u.receiver = .rest)
    (hperiod : (Receiver.period .rest bits).1 = .rest) : u.received bits = u.classedOnce := by
  rw [LinkUnit.received, h, hperiod, LinkUnit.classedOnce, ← h]

/-- A DOWN link whose hunt reaches its sixteenth marker. -/
theorem exec_reaches {s : State} {l : LinkId} {idle : Nat} {before rest : List Octet} (hrest : (s.link l).receiver = .rest)
    (hdown : (s.link l).state = .down) (hrun : (s.link l).markerRun = 15)
    (hcandidate : (s.link l).candidate = some (l.frameOctets - 1 - before.length))
    (hlen : idle + 10 * (before.length + 1 + rest.length) = l.frameBits) :
    ∃ u, u.state = .down ∧
      exec (.upstreamFrame l (List.replicate idle true ++ lineBits (before ++ 0x5A#8 :: rest))) s =
        .next (((s.setLink l u).goUp l l.frameBits (idle + 10 * before.length : Nat)).settleUpstream s l) := by
  have hbits : (List.replicate idle true ++ lineBits (before ++ 0x5A#8 :: rest)).length = l.frameBits := by
    rw [List.length_append, List.length_replicate, lineBits_length, List.length_append, List.length_cons, ← hlen]
    omega
  have hwithin : before.length < l.frameOctets := by
    rw [LinkId.frameBits, Config.lineBitsPerOctet] at hlen
    omega
  refine ⟨{ (s.link l).classedOnce.presentSilence with candidate := some 0, markerRun := 16 }, hdown,
    congrArg (fun t => Host.Outcome.next (State.settleUpstream t s l)) ?_⟩
  rw [hbits, received_of_rest hrest (by rw [period_from]), hrest, period_from,
    upstream_of_down (by rw [setLink_link_self]; exact hdown), setLink_link_self, setLink_setLink,
    hunt16_reaches rest before idle _ (by rw [setLink_link_self]; exact hrun) hwithin
      (by rw [setLink_link_self]; exact hcandidate),
    setLink_link_self, setLink_setLink]

/-- A DOWN link whose hunt takes one octet, short of its sixteenth marker. -/
theorem exec_hunts {s : State} {l : LinkId} {o : Octet} {idle : Nat} (hrest : (s.link l).receiver = .rest)
    (hdown : (s.link l).state = .down)
    (hrun : (((s.link l).classedOnce.presentSilence).huntOctet l.frameOctets o).markerRun ≠ 16) :
    exec (.upstreamFrame l (lineBits [o] ++ List.replicate idle true)) s =
      .next (s.setLink l ((s.link l).classedOnce.presentSilence.huntOctet l.frameOctets o)) := by
  obtain ⟨hreceived, harrivals⟩ := received_period hrest [o] idle
  refine (congrArg (fun t => Host.Outcome.next (State.settleUpstream t s l)) ?_).trans
    (congrArg Host.Outcome.next (settleUpstream_of_kept ?_ ?_))
  · rw [hreceived, harrivals, upstream_of_down (by rw [setLink_link_self]; exact hdown), setLink_link_self, setLink_setLink]
    show State.hunt16 l _ (⟨_, o⟩ :: []) _ = _
    rw [State.hunt16]
    dsimp only
    rw [setLink_link_self, setLink_link_self, if_neg hrun, setLink_setLink, State.hunt16]
  · rfl
  · rw [setLink_link_self, huntOctet_frame]
    exact hdown

/-- A link unit two periods after its sixteenth frame began within one, the frame after that at its end. -/
def LinkUnit.secondPeriod (u : LinkUnit) : LinkUnit := { u.classedOnce.classedOnce with acquiring := false, gathered := [] }

/-- An UP link whose sixteenth frame began within a period: the two periods that bring the frame after it. -/
theorem exec_cut {s : State} {l : LinkId} {place : Nat} {status : Octet} {voice : List Octet}
    (hrest : (s.link l).receiver = .rest) (hup : (s.link l).state = .up) (hvoice : voice.length = l.voiceChannels)
    (hpos : 0 < place) (hwithin : place < l.frameBits) (halign : (s.link l).alignment = some place)
    (hacq : (s.link l).acquiring = true) (hstage : (s.link l).assembly.stage ≠ .collecting) :
    ∃ r g,
      exec (.upstreamFrame l (List.replicate place true ++
          (lineBits (frameOf status 0xE7#8 0xE7#8 voice)).take (l.frameBits - place))) s =
        .next (s.setLink l { (s.link l).classedOnce with receiver := r, acquiring := false, gathered := g }) ∧
      exec (.upstreamFrame l ((lineBits (frameOf status 0xE7#8 0xE7#8 voice)).drop (l.frameBits - place) ++
          List.replicate (l.frameBits - place) true))
          (s.setLink l { (s.link l).classedOnce with receiver := r, acquiring := false, gathered := g }) =
        .next (s.setLink l ((s.link l).secondPeriod.goodIdle
          l status voice)) := by
  have hlength : (frameOf status 0xE7#8 0xE7#8 voice).length = l.frameOctets := by
    rw [frameOf_length, hvoice, Nat.add_comm]; rfl
  have hline : (lineBits (frameOf status 0xE7#8 0xE7#8 voice)).length = l.frameBits := by
    rw [lineBits_length, hlength]; rfl
  obtain ⟨hended, harrivals⟩ := receiver_cutFrom (os := frameOf status 0xE7#8 0xE7#8 voice) (place := place)
    (by rw [hline]; exact Nat.le_of_lt hwithin)
  rw [hline] at hended harrivals
  generalize hx : Receiver.bits place .rest
    ((lineBits (frameOf status 0xE7#8 0xE7#8 voice)).take (l.frameBits - place)) = x at hended harrivals
  generalize hy : Receiver.bits l.frameBits x.1 ((lineBits (frameOf status 0xE7#8 0xE7#8 voice)).drop (l.frameBits - place) ++
    List.replicate (l.frameBits - place) true) = y at hended harrivals
  have hmem : ∀ a ∈ x.2 ++ y.2, (place : Int) ≤ a.start ∧ a.start + 10 ≤ place + l.frameBits := by
    intro a ha
    rw [harrivals] at ha
    have h := start_of_mem_arrivalsFrom ha
    rw [hlength] at h
    exact h
  refine ⟨x.1.later l.frameBits, x.2.map (Arrival.later l.frameBits), ?_, ?_⟩
  · refine (congrArg (fun t => Host.Outcome.next (State.settleUpstream t s l)) ?_).trans (congrArg Host.Outcome.next
      ((settleUpstream_of_up (by rw [hup]; exact nofun)).trans (settle_of_not_gains (gains_self _))))
    have hbits : (List.replicate place true ++
        (lineBits (frameOf status 0xE7#8 0xE7#8 voice)).take (l.frameBits - place)).length = l.frameBits := by
      rw [List.length_append, List.length_replicate, List.length_take, hline]; omega
    have hperiod : Receiver.period .rest (List.replicate place true ++
        (lineBits (frameOf status 0xE7#8 0xE7#8 voice)).take (l.frameBits - place)) = (x.1.later l.frameBits, x.2) := by
      rw [Receiver.period, receiver_stop, Nat.zero_add, hx, hbits]
    rw [LinkUnit.received, hrest, hperiod, hbits,
      upstream_acquiring (place := place) (by rw [setLink_link_self, hup]; exact nofun) (by rw [setLink_link_self]; exact hacq)
        (by rw [setLink_link_self]; exact halign) hpos fun a ha => (hmem a (List.mem_append_left _ ha)).1,
      setLink_link_self, setLink_setLink]
    rfl
  · have hbits : ((lineBits (frameOf status 0xE7#8 0xE7#8 voice)).drop (l.frameBits - place) ++
        List.replicate (l.frameBits - place) true).length = l.frameBits := by
      rw [List.length_append, List.length_replicate, List.length_drop, hline]; omega
    have hperiod : (x.1.later l.frameBits).period ((lineBits (frameOf status 0xE7#8 0xE7#8 voice)).drop (l.frameBits - place) ++
        List.replicate (l.frameBits - place) true) = (.rest, y.2.map (Arrival.later l.frameBits)) := by
      rw [Receiver.period, bits_later, Nat.zero_add, hy, hended]
      rfl
    have hgathered : placedOctets l.frameBits place
        (x.2.map (Arrival.later l.frameBits) ++ y.2.map (Arrival.later l.frameBits)) = frameOf status 0xE7#8 0xE7#8 voice := by
      rw [← List.map_append, harrivals]
      exact placedOctets_later _ (by rw [hlength]; rfl)
    have hbefore : ∀ a ∈ y.2.map (Arrival.later l.frameBits), a.start < place := by
      intro a ha
      obtain ⟨b, hb, rfl⟩ := List.mem_map.mp ha
      have h := (hmem b (List.mem_append_right _ hb)).2
      show b.start - l.frameBits < place
      omega
    generalize ht : s.setLink l { (s.link l).classedOnce with
      receiver := x.1.later l.frameBits, acquiring := false, gathered := x.2.map (Arrival.later l.frameBits) } = t
    have hunit : t.link l = { (s.link l).classedOnce with
        receiver := x.1.later l.frameBits, acquiring := false, gathered := x.2.map (Arrival.later l.frameBits) } := by
      rw [← ht, setLink_link_self]
    have hreceived : (t.link l).received ((lineBits (frameOf status 0xE7#8 0xE7#8 voice)).drop (l.frameBits - place) ++
        List.replicate (l.frameBits - place) true) =
        { (s.link l).classedOnce.classedOnce with acquiring := false, gathered := x.2.map (Arrival.later l.frameBits) } := by
      rw [LinkUnit.received, hunit, hperiod, ← hrest]
      rfl
    have htake : (s.setLink l (s.link l).secondPeriod).takeFrame l
        (frameOf status 0xE7#8 0xE7#8 voice) =
        s.setLink l ((s.link l).secondPeriod.goodIdle l
          status voice) := by
      rw [takeFrame_good_idle hvoice (by rw [setLink_link_self]; exact hstage), setLink_link_self,
        noteChange_of_kept (by rw [setLink_link_self, classed_good_of_up (u := (s.link l).secondPeriod) hup]), setLink_setLink, setLink_setLink]
    have hset : ∀ u, t.setLink l u = s.setLink l u := fun u => by rw [← ht, setLink_setLink]
    have hpending : t.maskedPending = s.maskedPending := by rw [← ht]; rfl
    refine (congrArg (fun t' => Host.Outcome.next (State.settleUpstream t' t l)) ?_).trans (congrArg Host.Outcome.next
      ((settleUpstream_of_up ?_).trans (settle_of_not_gains (by rw [hpending]; exact gains_self _))))
    · have hstate : ((s.link l).secondPeriod.goodIdle l
          status voice).state ≠ .down := by rw [goodIdle_of_up (u := (s.link l).secondPeriod) hup]; exact fun h => nomatch hup.symm.trans h
      rw [hreceived, hbits, hunit, hperiod, hset,
        upstream_ends (place := place) (os := frameOf status 0xE7#8 0xE7#8 voice) ?_ ?_ ?_ hpos hbefore ?_ ?_]
      all_goals rw [setLink_link_self]
      · rw [setLink_setLink]; exact htake
      · exact fun h => nomatch hup.symm.trans h
      · exact halign
      · exact hgathered
      · rw [setLink_setLink]; exact (congrArg (fun t' : State => (t'.link l).state) htake).trans_ne (by rw [setLink_link_self]; exact hstate)
    · rw [hunit]; exact fun h => nomatch hup.symm.trans h

/-- The unit of a link has become `u` but for what is sent, LINK is raised, and nothing else has changed. -/
structure UnitChanged (s t : State) (l : LinkId) (u : LinkUnit) : Prop where
  frame : t = { s with links := t.links, attention := t.attention }
  others : ∀ k, k ≠ l → LinkKept s t k
  unit : t.link l = { u with tx := (t.link l).tx, txDrops := (t.link l).txDrops }
  raised : t.attention.getLsbD 0 = true

/-- What the end of its event makes of a unit written and LINK raised. -/
theorem unitChanged_of_kept {s t : State} {l : LinkId} {u : LinkUnit}
    (hframe : t = { (s.setLink l u).raise .link with links := t.links, attention := t.attention })
    (hkept : ∀ k, TxKept ((s.setLink l u).raise .link) t k) (hraised : t.attention.getLsbD 0 = true) :
    UnitChanged s t l u := by
  refine ⟨hframe, fun k hk => ((TxKept.of_eq ?_).trans (hkept k)).linkKept, ?_, hraised⟩
  · rw [raise_link, setLink_link_ne _ _ hk]
  · have h := hkept l
    rw [TxKept, raise_link, setLink_link_self] at h
    exact h

theorem link_raised (s : State) : (s.raise .link).attention.getLsbD 0 = true := by
  rw [State.raise, BitVec.getLsbD_or]
  exact Bool.or_eq_true_iff.mpr (.inr rfl)

theorem unitChanged_settle (s : State) (l : LinkId) (u : LinkUnit) :
    UnitChanged s (((s.setLink l u).raise .link).settle s) l u :=
  unitChanged_of_kept (settle_frame ..) (txKept_settle _ _) (settle_raise_link ..)

/-- The 64th good frame in a row takes an IMPAIRED link UP. -/
theorem good_goesUp {s : State} {l : LinkId} {status : Octet} {voice : List Octet} (hrest : (s.link l).receiver = .rest)
    (hvoice : voice.length = l.voiceChannels) (hwhole : (s.link l).Whole) (halign : (s.link l).alignment = some 0)
    (himpaired : (s.link l).state = .impaired) (hrun : (s.link l).goodRun = 63)
    (hstage : (s.link l).assembly.stage ≠ .collecting) :
    ∃ t, exec (.upstreamFrame l (lineBits (frameOf status 0xE7#8 0xE7#8 voice))) s = .next t ∧
      UnitChanged s t l ((s.link l).classedOnce.goodIdle l status voice) :=
  ⟨_, exec_good_idle_up hrest hvoice hwhole halign hstage
    (by rw [classed_good_of_64th (u := (s.link l).classedOnce) himpaired hrun, himpaired]; exact nofun),
    unitChanged_settle ..⟩

/-- A bad frame on an UP link with another in its history takes it to IMPAIRED. -/
theorem bad_impairs {s : State} {l : LinkId} {os : List Octet} {idle : Nat} (hrest : (s.link l).receiver = .rest)
    (hwhole : (s.link l).Whole) (halign : (s.link l).alignment = some 0) (hup : (s.link l).state = .up)
    (hclass : frameClass l os = .bad) (hhistory : true ∈ (s.link l).history) :
    ∃ t, exec (.upstreamFrame l (lineBits os ++ List.replicate idle true)) s = .next t ∧
      t = { s with links := t.links, attention := t.attention, schedulers := t.schedulers } ∧
      t.attention.getLsbD 0 = true ∧ (∀ k, k ≠ l → LinkKept s t k) ∧
      (∀ r, t.scheduler r = { s.scheduler r with turn := t.turn r } ∧ (l ≠ .riser r → t.turn r = s.turn r)) ∧
      t.link l = { (s.link l).classedOnce.struck with
        assembly := Assembly.hunting, checkErrors := (t.link l).checkErrors, tx := (t.link l).tx
        txDrops := (t.link l).txDrops } := by
  have hexec := exec_bad (idle := idle) hrest hwhole halign hup hclass hhistory
  generalize (s.link l).classedOnce.struck = v at hexec ⊢
  have hframe := strike_frame ((s.setLink l v).raise .link) l
  have hself := strike_link_self ((s.setLink l v).raise .link) l
  have hother : ∀ k, k ≠ l → (((s.setLink l v).raise .link).strike l).link k = s.link k := fun k hk => by
    rw [strike_link_ne _ hk, raise_link, setLink_link_ne _ _ hk]
  have hturn := strike_scheduler ((s.setLink l v).raise .link) l
  have hraised : (((s.setLink l v).raise .link).strike l).attention.getLsbD 0 = true := by
    rw [hframe]; exact link_raised _
  generalize ((s.setLink l v).raise .link).strike l = x at hexec hframe hself hother hturn hraised
  rw [raise_link, setLink_link_self] at hself
  have hkept := txKept_settle x s
  have hscheduler : ∀ r, (x.settle s).scheduler r = x.scheduler r := fun r => by rw [settle_frame]; rfl
  refine ⟨_, hexec, by rw [settle_frame, hframe]; rfl, settle_keeps_class s hraised,
    fun k hk => ((TxKept.of_eq (hother k hk)).trans (hkept k)).linkKept, fun r => ?_, ?_⟩
  · rw [State.turn, hscheduler]; exact hturn r
  · have h := hkept l
    rw [TxKept, hself] at h
    rw [h]

/-- The link unit that goes UP, its sixteenth marker found at place `place`. -/
def LinkUnit.found (u : LinkUnit) (place : Nat) : LinkUnit :=
  { u with
    state := .up, alignment := some place, acquiring := decide (0 < place), gathered := [], candidate := none, lostRun := 0
    goodRun := 0, history := [] }

/-- The hunt of a DOWN link ends at its sixteenth marker. -/
theorem hunt_goesUp {s : State} {l : LinkId} {idle : Nat} {before rest : List Octet} (hrest : (s.link l).receiver = .rest)
    (hdown : (s.link l).state = .down) (hrun : (s.link l).markerRun = 15)
    (hcandidate : (s.link l).candidate = some (l.frameOctets - 1 - before.length))
    (hlen : idle + 10 * (before.length + 1 + rest.length) = l.frameBits) :
    ∃ (t : State) (u : LinkUnit), exec (.upstreamFrame l (List.replicate idle true ++ lineBits (before ++ 0x5A#8 :: rest))) s = .next t ∧
      UnitChanged s t l (u.found (idle + 10 * before.length)) := by
  obtain ⟨u, -, hexec⟩ := exec_reaches hrest hdown hrun hcandidate hlen
  have hplace : idle + 10 * before.length < l.frameBits := by omega
  have hup : (s.setLink l u).goUp l l.frameBits (idle + 10 * before.length : Nat) =
      (s.setLink l (u.found (idle + 10 * before.length))).raise .link := by
    have hmod : (((idle + 10 * before.length : Nat) : Int) % (l.frameBits : Nat)).toNat = idle + 10 * before.length := by
      rw [← Int.natCast_mod, Int.toNat_natCast, Nat.mod_eq_of_lt hplace]
    have hpos : decide (0 < ((idle + 10 * before.length : Nat) : Int)) = decide (0 < idle + 10 * before.length) :=
      decide_eq_decide.mpr Int.natCast_pos
    rw [State.goUp, setLink_link_self, setLink_setLink, hmod, hpos]
    rfl
  rw [hup] at hexec
  exact ⟨_, u, hexec, unitChanged_of_kept (settleUpstream_frame ..) (txKept_settleUpstream _ _ _)
    (settleUpstream_keeps_class _ _ (link_raised _))⟩

/-- What the hunt makes of one octet (R145). -/
theorem huntOctet_eq (frame : Nat) (u : LinkUnit) (o : Octet) :
    u.huntOctet frame o =
      { u with
        candidate := (match u.candidate with
          | none => if o = Config.marker then (some 0, 1) else (none, u.markerRun)
          | some k =>
            if k + 1 < frame then (some (k + 1), u.markerRun)
            else if o = Config.marker then (some 0, u.markerRun + 1) else (none, 0) : Option Nat × Nat).1
        markerRun := (match u.candidate with
          | none => if o = Config.marker then (some 0, 1) else (none, u.markerRun)
          | some k =>
            if k + 1 < frame then (some (k + 1), u.markerRun)
            else if o = Config.marker then (some 0, u.markerRun + 1) else (none, 0) : Option Nat × Nat).2 } := by
  unfold LinkUnit.huntOctet
  cases h : u.candidate with
  | none =>
    by_cases ho : o = Config.marker
    · simp only [if_pos ho]
    · simp only [if_neg ho, ← h]
  | some k =>
    by_cases hk : k + 1 < frame
    · simp only [if_pos hk]
    · by_cases ho : o = Config.marker
      · simp only [if_neg hk, if_pos ho]
      · simp only [if_neg hk, if_neg ho]

/-- One octet brings the hunt to no sixteenth marker but from the fifteenth. -/
theorem huntOctet_markerRun_ne {frame : Nat} {u : LinkUnit} {o : Octet} (h15 : u.markerRun ≠ 15) (h16 : u.markerRun ≠ 16) :
    (u.huntOctet frame o).markerRun ≠ 16 := by
  unfold LinkUnit.huntOctet
  split
  · split
    · exact nofun
    · exact h16
  · split
    · exact h16
    · split
      · exact fun h => h15 (Nat.succ.inj h)
      · exact nofun

/-- Settles O24: a frame or a hunt is work on its own unit; a message that ends, a bad frame and a change of state go on to the
turn and the pending set. -/
theorem upstreamFrameIsTaken : Obligations.UpstreamFrameIsTaken := by
  intro s l hrest
  refine ⟨fun status voice hvoice hwhole' => ?_, fun os idle hup hwhole' hclass hhistory => ?_,
    fun idle before rest hdown hrun hcandidate hlen => ?_, fun o idle hdown hrun15 hrun16 => ?_,
    fun place status voice hup hvoice hpos hwithin halign hacq hstage => ?_⟩
  · obtain ⟨halign, hacq, hgathered⟩ := hwhole'
    refine ⟨fun hup hstage => ?_, fun himpaired hrun hstage => ?_, fun himpaired hrun hstage => ?_, fun m hup hassembly => ?_⟩
    · have hwhole : (s.link l).Whole := ⟨by rw [hup]; exact nofun, hacq, hgathered⟩
      refine ⟨_, exec_good_idle_kept hrest hvoice hwhole halign hstage ?_, rfl, fun k hk => setLink_link_ne _ _ hk, ?_⟩
      · rw [classed_good_of_up (u := (s.link l).classedOnce) hup]; rfl
      · rw [setLink_link_self, goodIdle_of_up (u := (s.link l).classedOnce) hup]; rfl
    · have hwhole : (s.link l).Whole := ⟨by rw [himpaired]; exact nofun, hacq, hgathered⟩
      obtain ⟨t, hexec, ht⟩ := good_goesUp (status := status) hrest hvoice hwhole halign himpaired hrun hstage
      have hlink := ht.unit
      rw [goodIdle_of_64th (u := (s.link l).classedOnce) himpaired hrun] at hlink
      exact ⟨t, hexec, ht.raised, ht.frame, ht.others, by rw [hlink], by rw [hlink], by rw [hlink], by rw [hlink],
        by rw [hlink], by rw [hlink]; rfl⟩
    · have hwhole : (s.link l).Whole := ⟨by rw [himpaired]; exact nofun, hacq, hgathered⟩
      refine ⟨_, exec_good_idle_kept hrest hvoice hwhole halign hstage ?_, rfl, fun k hk => setLink_link_ne _ _ hk, ?_⟩
      · rw [classed_good_of_impaired (u := (s.link l).classedOnce) himpaired hrun]; rfl
      · rw [setLink_link_self]
        exact goodIdle_of_impaired (u := (s.link l).classedOnce) himpaired hrun status voice
    · have hwhole : (s.link l).Whole := ⟨by rw [hup]; exact nofun, hacq, hgathered⟩
      obtain ⟨t, u, fault, hexec, ht, htakes⟩ := good_ends (status := status) hrest hvoice hwhole halign hup hassembly
      rw [goodIdle_of_up (u := (s.link l).classedOnce) hup] at htakes
      have hadmits : s.admits l m = true ↔ s.Admits l m := admits_iff s l m
      refine ⟨t, hexec, ht.frame, ht.others, ?_, ?_, ht.turns, fun hnot => ?_, fun had => ?_⟩
      · rw [ht.unit, htakes.frame]; rfl
      · rw [ht.unit, htakes.frame]
      · have hrefused : s.admits l m = false := Bool.eq_false_iff.mpr fun h => hnot (hadmits.mp h)
        obtain ⟨hrx, hholding, herrors, hfault⟩ := htakes.refused hrefused
        rw [ht.unit, ht.attention, hfault]
        exact ⟨hrx, hholding, herrors, rfl⟩
      · have htrue := hadmits.mpr had
        rw [ht.unit, ht.attention]
        refine ⟨htakes.counted htrue, fun hplace => ?_, htakes.slot htrue, fun hlen hslot => ?_, fun hlen hslot => ?_⟩
        · obtain ⟨hrx, hholding, hover, hfault⟩ := htakes.place htrue hplace
          exact ⟨hrx, hholding, hover, by rw [hfault]; rfl⟩
        · obtain ⟨hover, hfault⟩ := htakes.free htrue hlen hslot
          exact ⟨hover, by rw [hfault]; rfl⟩
        · obtain ⟨hover, hfault⟩ := htakes.full htrue hlen hslot
          exact ⟨hover, by rw [hfault]; rfl⟩
  · obtain ⟨halign, hacq, hgathered⟩ := hwhole'
    have hwhole : (s.link l).Whole := ⟨by rw [hup]; exact nofun, hacq, hgathered⟩
    obtain ⟨t, hexec, hframe, hraised, hothers, hturns, hlink⟩ := bad_impairs (idle := idle) hrest hwhole halign hup hclass hhistory
    rw [LinkUnit.struck, classed_bad (u := (s.link l).classedOnce) hhistory] at hlink
    refine ⟨t, hexec, by rw [hlink]; rfl, by rw [hlink]; rfl, by rw [hlink]; rfl, by rw [hlink]; rfl, by rw [hlink]; rfl,
      fun o ho => ?_, by rw [hlink]; rfl, hraised, hframe, hturns, hothers⟩
    rw [hlink] at ho
    obtain ⟨-, -, rfl⟩ := List.mem_map.mp ho
    rfl
  · obtain ⟨t, u, hexec, ht⟩ := hunt_goesUp hrest hdown hrun hcandidate hlen
    have hlink := ht.unit
    exact ⟨t, hexec, by rw [hlink]; rfl, by rw [hlink]; rfl, by rw [hlink]; rfl, by rw [hlink]; rfl, by rw [hlink]; rfl,
      by rw [hlink]; rfl, by rw [hlink]; rfl, ht.raised, ht.frame, ht.others⟩
  · refine ⟨_, exec_hunts hrest hdown (huntOctet_markerRun_ne hrun15 hrun16), rfl, fun k hk => setLink_link_ne _ _ hk, ?_⟩
    rw [setLink_link_self, huntOctet_eq]
    rfl
  · obtain ⟨r, g, hfirst, hsecond⟩ := exec_cut (status := status) hrest hup hvoice hpos hwithin halign hacq hstage
    refine ⟨_, _, hfirst, hsecond, rfl, fun k hk => setLink_link_ne _ _ hk, ?_, rfl, fun k hk => setLink_link_ne _ _ hk, ?_⟩
    · rw [setLink_link_self]; rfl
    · rw [setLink_link_self, goodIdle_of_up (u := (s.link l).secondPeriod) hup]; rfl

end Sys2Proof.Machine
end

section
/-!
PROOF. What the crosspoint does in one frame period (O26).
-/

namespace Sys2Proof.Machine

/-! ### The octets handed (R109) -/

theorem foldl_handVoice_frame (s : State) (xs : List VoiceOut) :
    xs.foldl State.handVoice s = { s with links := (xs.foldl State.handVoice s).links } := by
  induction xs generalizing s with
  | nil => rfl
  | cons x xs ih => rw [List.foldl_cons, ih]; rfl

theorem foldl_handVoice_setCall (s : State) (xs : List VoiceOut) (n : CallNo) (c : CallRecord) :
    xs.foldl State.handVoice (s.setCall n c) = (xs.foldl State.handVoice s).setCall n c := by
  induction xs generalizing s with
  | nil => rfl
  | cons x xs ih => exact ih (s.handVoice x)

/-- Octets handed write the handed octets of the units alone. -/
theorem foldl_handVoice_link (s : State) (xs : List VoiceOut) (l : LinkId) :
    (xs.foldl State.handVoice s).link l =
        { s.link l with handed := ((xs.foldl State.handVoice s).link l).handed } ∧
      ((xs.foldl State.handVoice s).link l).handed.length = (s.link l).handed.length := by
  induction xs generalizing s with
  | nil => exact ⟨rfl, rfl⟩
  | cons x xs ih =>
    obtain ⟨hunit, hlen⟩ := ih (s.handVoice x)
    have hone : (s.handVoice x).link l = { s.link l with handed := ((s.handVoice x).link l).handed } ∧
        ((s.handVoice x).link l).handed.length = (s.link l).handed.length := by
      by_cases h : l = x.1
      · subst h
        rw [State.handVoice, setLink_link_self]
        exact ⟨rfl, List.length_set⟩
      · rw [State.handVoice, setLink_link_ne _ _ h]
        exact ⟨rfl, rfl⟩
    rw [List.foldl_cons]
    refine ⟨?_, hlen.trans hone.2⟩
    rw [hunit, hone.1]

/-- A channel handed nothing but `o` carries it, if it did before or is handed it. -/
theorem handed_of_only {l : LinkId} {i : Nat} {o : Octet} {xs : List VoiceOut} :
    ∀ {s : State}, i < (s.link l).handed.length → (∀ x ∈ xs, x.1 = l → x.2.1 = i → x.2.2 = o) →
      ((s.link l).handed.getD i 0#8 = o ∨ ∃ x ∈ xs, x.1 = l ∧ x.2.1 = i) →
      ((xs.foldl State.handVoice s).link l).handed.getD i 0#8 = o := by
  induction xs with
  | nil => exact fun _ _ h => h.elim id fun h => by obtain ⟨x, hx, -⟩ := h; cases hx
  | cons x xs ih =>
    intro s hi hall hany
    have hlen : ((s.handVoice x).link l).handed.length = (s.link l).handed.length := (foldl_handVoice_link s [x] l).2
    refine ih (hi.trans_eq hlen.symm) (fun y hy => hall y (List.mem_cons_of_mem _ hy)) ?_
    by_cases hhit : x.1 = l ∧ x.2.1 = i
    · obtain ⟨rfl, rfl⟩ := hhit
      refine .inl ?_
      rw [State.handVoice, setLink_link_self, List.getD_eq_getElem?_getD, List.getElem?_set_self hi, Option.getD_some]
      exact hall x List.mem_cons_self rfl rfl
    · refine hany.imp (fun h => ?_) fun h => ?_
      · by_cases hl : l = x.1
        · subst hl
          rw [State.handVoice, setLink_link_self, List.getD_eq_getElem?_getD, List.getElem?_set_ne fun h => hhit ⟨rfl, h⟩,
            ← List.getD_eq_getElem?_getD]
          exact h
        · rw [State.handVoice, setLink_link_ne _ _ hl]; exact h
      · obtain ⟨y, hy, hat⟩ := h
        rcases List.mem_cons.mp hy with rfl | hy
        · exact absurd hat hhit
        · exact ⟨y, hy, hat⟩

/-! ### The period of one call (R113 to R121) -/

/-- The octets that call `n` sends in a period. -/
def State.voiceOuts (s : State) (n : CallNo) : List VoiceOut :=
  if (s.call n).state = .talking then
    match (s.call n).voice with
    | some v => (s.voicePeriodOf (s.call n) v).2
    | none => []
  else []

/-- The record of call `n` after a period. -/
def State.voiced (s : State) (n : CallNo) : CallRecord :=
  if (s.call n).state = .talking then
    match (s.call n).voice with
    | some v =>
      { s.call n with
        voice := some (s.voicePeriodOf (s.call n) v).1, lastPeriod := some (s.voicePeriodOf (s.call n) v).1 }
    | none => s.call n
  else s.call n

theorem setCall_call_eq (s : State) (n : CallNo) : s.setCall n (s.call n) = s := by simp [State.setCall, State.call]

theorem voiceStep_eq {start s : State} {n : CallNo} (h : s.call n = start.call n) :
    State.voiceStep start s n = (start.voiceOuts n).foldl State.handVoice (s.setCall n (start.voiced n)) := by
  have hkept : s = ([] : List VoiceOut).foldl State.handVoice (s.setCall n (start.call n)) := by
    rw [← h, setCall_call_eq]; rfl
  by_cases htalk : (start.call n).state = .talking
  · cases hv : (start.call n).voice with
    | some v => simp only [State.voiceStep, State.voiceOuts, State.voiced, if_pos htalk, hv, h]
    | none => simpa only [State.voiceStep, State.voiceOuts, State.voiced, if_pos htalk, hv] using hkept
  · simpa only [State.voiceStep, State.voiceOuts, State.voiced, if_neg htalk] using hkept

/-- The periods of several calls: each on its own record, all their octets handed. -/
theorem voiceSteps_eq {start : State} {ns : List CallNo} (hnodup : ns.Nodup) :
    ∀ {s : State}, (∀ n ∈ ns, s.call n = start.call n) →
      ns.foldl (State.voiceStep start) s = { s with
        links := (ns.foldl (State.voiceStep start) s).links, calls := (ns.foldl (State.voiceStep start) s).calls } ∧
      (∀ m, (ns.foldl (State.voiceStep start) s).call m = if m ∈ ns then start.voiced m else s.call m) ∧
      ∀ l, (ns.foldl (State.voiceStep start) s).link l =
        ((ns.flatMap start.voiceOuts).foldl State.handVoice s).link l := by
  induction ns with
  | nil => exact fun _ => ⟨rfl, fun _ => rfl, fun _ => rfl⟩
  | cons n ns ih =>
    intro s hcalls
    obtain ⟨hout, hnodup⟩ := List.nodup_cons.mp hnodup
    have hstep := voiceStep_eq (hcalls n List.mem_cons_self)
    rw [foldl_handVoice_setCall] at hstep
    have hcall : ∀ m, m ≠ n → (State.voiceStep start s n).call m = s.call m := fun m hm => voiceStep_call_ne start s hm
    obtain ⟨hframe, hvoiced, hlinks⟩ := ih hnodup (s := State.voiceStep start s n) fun m hm => by
      rw [hcall m fun h => hout (h ▸ hm)]
      exact hcalls m (List.mem_cons_of_mem _ hm)
    rw [List.foldl_cons]
    refine ⟨?_, fun m => ?_, fun l => ?_⟩
    · rw [hframe, hstep, foldl_handVoice_frame]; rfl
    · rw [hvoiced]
      by_cases hm : m = n
      · subst hm
        rw [if_neg hout, if_pos List.mem_cons_self, hstep, setCall_call_self]
      · rw [hcall m hm]
        simp only [List.mem_cons, hm, false_or]
    · rw [hlinks, hstep, foldl_handVoice_setCall, List.flatMap_cons, List.foldl_append]
      rfl

/-- The crosspoint's frame period: each call's on its own record, and the octets of all handed over silence (R109, R113). -/
theorem voicePeriod_eq (s : State) :
    s.voicePeriod = { s with links := s.voicePeriod.links, calls := s.voicePeriod.calls } ∧
      (∀ n, s.voicePeriod.call n = s.voiced n) ∧
      ∀ l, s.voicePeriod.link l = ((allCalls.flatMap s.voiceOuts).foldl State.handVoice s.silence).link l := by
  obtain ⟨hframe, hcall, hlink⟩ := voiceSteps_eq (start := s) allCalls_nodup (s := s.silence) fun _ _ => rfl
  exact ⟨hframe, fun n => (hcall n).trans (if_pos (mem_allCalls n)), hlink⟩

theorem silence_link (s : State) (l : LinkId) :
    s.silence.link l = { s.link l with handed := (s.link l).handed.map fun _ => 0#8 } := tableMap_link ..

/-! ### What one call sends (R113, R118, R119, R121) -/

theorem voiceTo_of {p : Params} {c : CallRecord} {x : Option Party} {l : LinkId} {i : Nat} (f : Nat → Int)
    (h : x.bind c.channelOf = some (l, i)) : voiceTo p c x f = [(l, i, encodeSample (f (p.gain l)))] := by
  unfold voiceTo
  rw [h]

theorem channel_of_mem_voiceTo {p : Params} {c : CallRecord} {x : Option Party} {f : Nat → Int} {y : VoiceOut}
    (h : y ∈ voiceTo p c x f) : ∃ z, x = some z ∧ c.channelOf z = some (y.1, y.2.1) := by
  unfold voiceTo at h
  split at h
  next l i hc =>
    obtain rfl := List.mem_singleton.mp h
    exact Option.bind_eq_some_iff.mp hc
  next => cases h

/-- A call sends only on the channels of its parties. -/
theorem party_of_mem_voicePeriodOf {s : State} {c : CallRecord} {v : Voice} {y : VoiceOut} (h : y ∈ (s.voicePeriodOf c v).2) :
    ∃ z ∈ c.parties, c.channelOf z = some (y.1, y.2.1) := by
  have horigin : ∀ f, y ∈ voiceTo s.params c c.origin f → ∃ z ∈ c.parties, c.channelOf z = some (y.1, y.2.1) := by
    intro f hy
    obtain ⟨z, hz, hc⟩ := channel_of_mem_voiceTo hy
    exact ⟨z, by simp [CallRecord.parties, hz], hc⟩
  have hanswerer : ∀ f, y ∈ voiceTo s.params c c.answerer f → ∃ z ∈ c.parties, c.channelOf z = some (y.1, y.2.1) := by
    intro f hy
    obtain ⟨z, hz, hc⟩ := channel_of_mem_voiceTo hy
    exact ⟨z, by simp [CallRecord.parties, hz], hc⟩
  have hjoined : ∀ f, y ∈ voiceTo s.params c (c.joined.map Party.position) f →
      ∃ z ∈ c.parties, c.channelOf z = some (y.1, y.2.1) := by
    intro f hy
    obtain ⟨z, hz, hc⟩ := channel_of_mem_voiceTo hy
    obtain ⟨q, hq, rfl⟩ := Option.map_eq_some_iff.mp hz
    exact ⟨.position q, by simp [CallRecord.parties, hq], hc⟩
  unfold State.voicePeriodOf at h
  dsimp only at h
  split at h
  · exact (List.mem_append.mp h).elim (hanswerer _) (horigin _)
  · exact (List.mem_append.mp h).elim (hanswerer _) (horigin _)
  · rcases List.mem_append.mp h with h | h
    · exact (List.mem_append.mp h).elim (horigin _) (hanswerer _)
    · exact hjoined _ h

theorem voiceOuts_of {s : State} {n : CallNo} {v : Voice} (htalk : (s.call n).state = .talking)
    (hv : (s.call n).voice = some v) : s.voiceOuts n = (s.voicePeriodOf (s.call n) v).2 := by
  simp only [State.voiceOuts, if_pos htalk, hv]

theorem voiced_of {s : State} {n : CallNo} {v : Voice} (htalk : (s.call n).state = .talking)
    (hv : (s.call n).voice = some v) :
    s.voiced n = { s.call n with
      voice := some (s.voicePeriodOf (s.call n) v).1, lastPeriod := some (s.voicePeriodOf (s.call n) v).1 } := by
  simp only [State.voiced, if_pos htalk, hv]

theorem voiced_of_quiet {s : State} {n : CallNo} (h : (s.call n).state ≠ .talking ∨ (s.call n).voice = none) :
    s.voiced n = s.call n := by
  unfold State.voiced
  obtain htalk | hv := h
  · rw [if_neg htalk]
  · rw [hv, ite_self]

theorem party_of_mem_voiceOuts {s : State} {n : CallNo} {y : VoiceOut} (h : y ∈ s.voiceOuts n) :
    (s.call n).state = .talking ∧ ∃ z ∈ (s.call n).parties, (s.call n).channelOf z = some (y.1, y.2.1) := by
  unfold State.voiceOuts at h
  split at h
  next htalk =>
    split at h
    · exact ⟨htalk, party_of_mem_voicePeriodOf h⟩
    · cases h
  next => cases h

/-- A channel that no other call in TALKING has is handed what its own call sends there. -/
theorem handed_own {s : State} {n : CallNo} {v : Voice} {l : LinkId} {i : Nat} {o : Octet}
    (htalk : (s.call n).state = .talking) (hv : (s.call n).voice = some v) (hi : i < (s.link l).handed.length)
    (hown : ∀ m, m ≠ n → (s.call m).state = .talking → ∀ z ∈ (s.call m).parties, (s.call m).channelOf z ≠ some (l, i))
    (hall : ∀ y ∈ (s.voicePeriodOf (s.call n) v).2, y.1 = l → y.2.1 = i → y.2.2 = o)
    (hany : ∃ y ∈ (s.voicePeriodOf (s.call n) v).2, y.1 = l ∧ y.2.1 = i) :
    (s.voicePeriod.link l).handed.getD i 0#8 = o := by
  rw [(voicePeriod_eq s).2.2]
  refine handed_of_only (by rw [silence_link]; simpa using hi) (fun y hy hl hi' => ?_) (.inr ?_)
  · obtain ⟨m, -, hm⟩ := List.mem_flatMap.mp hy
    by_cases hmn : m = n
    · subst hmn
      rw [voiceOuts_of htalk hv] at hm
      exact hall y hm hl hi'
    · obtain ⟨ht, z, hz, hc⟩ := party_of_mem_voiceOuts hm
      exact absurd (by rw [hc, hl, hi']) (hown m hmn ht z hz)
  · obtain ⟨y, hy, hat⟩ := hany
    exact ⟨y, List.mem_flatMap.mpr ⟨n, mem_allCalls n, by rwa [voiceOuts_of htalk hv]⟩, hat⟩

/-- A channel that no call in TALKING has is handed silence. -/
theorem handed_silence {s : State} {l : LinkId} {i : Nat}
    (hnone : ∀ n z, (s.call n).state = .talking → z ∈ (s.call n).parties → (s.call n).channelOf z ≠ some (l, i)) :
    (s.voicePeriod.link l).handed.getD i 0#8 = 0#8 := by
  obtain ⟨-, -, hlink⟩ := voicePeriod_eq s
  rw [hlink]
  by_cases hi : i < (s.silence.link l).handed.length
  · refine handed_of_only hi (fun y hy hl hi' => ?_) (.inl ?_)
    · obtain ⟨m, -, hm⟩ := List.mem_flatMap.mp hy
      obtain ⟨ht, z, hz, hc⟩ := party_of_mem_voiceOuts hm
      exact absurd (by rw [hc, hl, hi']) (hnone m z ht hz)
    · rw [silence_link] at hi ⊢
      simp
  · have hlen := (foldl_handVoice_link s.silence (allCalls.flatMap s.voiceOuts) l).2
    rw [List.getD_eq_getElem?_getD, List.getElem?_eq_none (by omega)]
    rfl

theorem clampMix_eq (y : Int) : clampMix y = max (-4095) (min 4095 y) := by
  unfold clampMix
  split
  · omega
  · split
    · omega
    · omega

/-- What a call of two parties sends (R118, R119). -/
theorem voicePeriodOf_two {s : State} {c : CallRecord} {v : Voice} {x y : Party} {lx ly : LinkId} {ix iy : Nat}
    (hmode : v.mode ≠ .mixed) (hx : c.origin = some x) (hy : c.answerer = some y) (hcx : c.channelOf x = some (lx, ix))
    (hcy : c.channelOf y = some (ly, iy)) :
    (s.voicePeriodOf c v).2 =
      [(ly, iy, encodeSample (attenuate (pathStep (s.params.gain ly) (match v.mode with
          | .switched => shareInward s.params (s.voicePeriodOf c v).1.direction
          | _ => 0)) (s.sampleOf c c.origin))),
        (lx, ix, encodeSample (attenuate (pathStep (s.params.gain lx) (match v.mode with
          | .switched => shareOutward s.params (s.voicePeriodOf c v).1.direction
          | _ => 0)) (s.sampleOf c c.answerer)))] := by
  have hbx : c.origin.bind c.channelOf = some (lx, ix) := by rw [hx]; exact hcx
  have hby : c.answerer.bind c.channelOf = some (ly, iy) := by rw [hy]; exact hcy
  unfold State.voicePeriodOf
  cases hm : v.mode with
  | switched => simp only [voiceTo_of _ hbx, voiceTo_of _ hby]; rfl
  | duplex => simp only [voiceTo_of _ hbx, voiceTo_of _ hby]; rfl
  | mixed => exact absurd hm hmode

/-- What a call of three parties sends (R121). -/
theorem voicePeriodOf_three {s : State} {c : CallRecord} {v : Voice} {x y : Party} {q : Fin 6} {lx ly : LinkId} {ix iy : Nat}
    (hmode : v.mode = .mixed) (hx : c.origin = some x) (hy : c.answerer = some y) (hq : c.joined = some q)
    (hcx : c.channelOf x = some (lx, ix)) (hcy : c.channelOf y = some (ly, iy)) :
    let mix : LinkId → Int → Int → Octet := fun l a b =>
      encodeSample (clampMix (attenuate (pathStep (s.params.gain l) (s.params.switchLoss / 2)) a +
        attenuate (pathStep (s.params.gain l) (s.params.switchLoss / 2)) b))
    (s.voicePeriodOf c v).2 =
      [(lx, ix, mix lx (s.sampleOf c c.answerer) (s.sampleOf c (c.joined.map Party.position))),
        (ly, iy, mix ly (s.sampleOf c c.origin) (s.sampleOf c (c.joined.map Party.position))),
        (.trunk, q.val, mix .trunk (s.sampleOf c c.origin) (s.sampleOf c c.answerer))] := by
  have hbx : c.origin.bind c.channelOf = some (lx, ix) := by rw [hx]; exact hcx
  have hby : c.answerer.bind c.channelOf = some (ly, iy) := by rw [hy]; exact hcy
  have hbq : (c.joined.map Party.position).bind c.channelOf = some (.trunk, q.val) := by rw [hq]; rfl
  unfold State.voicePeriodOf
  simp only [hmode, voiceTo_of _ hbx, voiceTo_of _ hby, voiceTo_of _ hbq]
  rfl

/-- Settles O26: a period is work on the records one by one; a channel that one call alone has carries what that call sends. -/
theorem voiceFramePeriodIsTaken : Obligations.VoiceFramePeriodIsTaken := by
  intro s
  obtain ⟨hframe, hcall, hlink⟩ := voicePeriod_eq s
  have hhanded := fun l => foldl_handVoice_link s.silence (allCalls.flatMap s.voiceOuts) l
  refine ⟨s.voicePeriod, rfl, hframe, fun n h => (hcall n).trans (voiced_of_quiet h), fun l => ⟨?_, ?_⟩,
    fun l i h => handed_silence h, fun n v htalk hv => ?_⟩
  · rw [hlink, (hhanded l).1, silence_link]
  · rw [hlink, (hhanded l).2, silence_link, List.length_map]
  · intro heard so sa sj lent lin limit load loss falls decided after inward outward path mix own
    have hafter : after = (s.voicePeriodOf (s.call n) v).1 := by
      obtain ⟨mode, lo, la, lj, direction, hang⟩ := v
      cases mode <;> cases direction <;> rfl
    have hinward : inward = match v.mode with
        | .switched => shareInward s.params (s.voicePeriodOf (s.call n) v).1.direction
        | _ => 0 := by
      rw [← hafter]
      show (match v.mode, decided.1 with
        | .switched, .neutral => loss / 2
        | .switched, .inside => loss
        | _, _ => 0) = match v.mode with
        | .switched => shareInward s.params decided.1
        | _ => 0
      cases v.mode <;> cases decided.1 <;> rfl
    have houtward : outward = match v.mode with
        | .switched => shareOutward s.params (s.voicePeriodOf (s.call n) v).1.direction
        | _ => 0 := by
      rw [← hafter]
      show (match v.mode, decided.1 with
        | .switched, .neutral => loss / 2
        | .switched, .entrance => loss
        | _, _ => 0) = match v.mode with
        | .switched => shareOutward s.params decided.1
        | _ => 0
      cases v.mode <;> cases decided.1 <;> rfl
    refine ⟨by rw [hcall, voiced_of htalk hv, ← hafter], fun x y lx ix ly iy hx hy hcx hcy hne hownx howny =>
      ⟨fun hmode => ?_, fun q hmode hq hownq hxq hyq => ?_⟩⟩
    · have houts := voicePeriodOf_two (s := s) hmode hx hy hcx hcy
      rw [← hinward, ← houtward] at houts
      constructor
      · refine handed_own htalk hv howny.1 howny.2 ?_ ?_
        · rw [houts]
          intro z hz hl hi
          rcases List.mem_pair.mp hz with rfl | rfl
          · rfl
          · exact absurd (Prod.ext hl hi) hne
        · rw [houts]; exact ⟨_, List.mem_cons_self, rfl, rfl⟩
      · refine handed_own htalk hv hownx.1 hownx.2 ?_ ?_
        · rw [houts]
          intro z hz hl hi
          rcases List.mem_pair.mp hz with rfl | rfl
          · exact absurd (Prod.ext hl hi).symm hne
          · rfl
        · rw [houts]; exact ⟨_, List.mem_cons_of_mem _ List.mem_cons_self, rfl, rfl⟩
    · have houts := voicePeriodOf_three (s := s) hmode hx hy hq hcx hcy
      have hmix : ∀ l a b, encodeSample (mix l a b) = encodeSample (clampMix
          (attenuate (pathStep (s.params.gain l) (s.params.switchLoss / 2)) a +
            attenuate (pathStep (s.params.gain l) (s.params.switchLoss / 2)) b)) :=
        fun l a b => congrArg encodeSample (clampMix_eq _).symm
      simp only [hmix]
      refine ⟨handed_own htalk hv hownx.1 hownx.2 ?_ ?_, handed_own htalk hv howny.1 howny.2 ?_ ?_,
        handed_own htalk hv hownq.1 hownq.2 ?_ ?_⟩
      · rw [houts]
        intro z hz hl hi
        rcases List.mem_cons.mp hz with rfl | hz
        · rfl
        · rcases List.mem_pair.mp hz with rfl | rfl
          · exact absurd (Prod.ext hl hi).symm hne
          · exact absurd (Prod.ext hl hi).symm hxq
      · rw [houts]; exact ⟨_, List.mem_cons_self, rfl, rfl⟩
      · rw [houts]
        intro z hz hl hi
        rcases List.mem_cons.mp hz with rfl | hz
        · exact absurd (Prod.ext hl hi) hne
        · rcases List.mem_pair.mp hz with rfl | rfl
          · rfl
          · exact absurd (Prod.ext hl hi).symm hyq
      · rw [houts]; exact ⟨_, List.mem_cons_of_mem _ List.mem_cons_self, rfl, rfl⟩
      · rw [houts]
        intro z hz hl hi
        rcases List.mem_cons.mp hz with rfl | hz
        · exact absurd (Prod.ext hl hi) hxq
        · rcases List.mem_pair.mp hz with rfl | rfl
          · exact absurd (Prod.ext hl hi) hyq
          · rfl
      · rw [houts]
        exact ⟨_, List.mem_cons_of_mem _ (List.mem_cons_of_mem _ List.mem_cons_self), rfl, rfl⟩

end Sys2Proof.Machine
end

section
/-!
PROOF. What the clearing of a call does where no other call waits, in closed form (R2, R27, R52, R78, R85), with the messages
it sends kept apart.
-/

namespace Sys2Proof.Machine

/-! ### Work and the messages it sends -/

/-- Over link units like those of `b` and behind the messages `pre`, with room: `f` makes `u` of `s` and sends `out`. -/
def Does (b : State) (f : State → State) (s u : State) (out : List (LinkId × Message)) : Prop :=
  ∀ L pre, b.Alike L → b.Room (pre ++ out) → f ((s.relinked L).sent pre) = (u.relinked L).sent (pre ++ out)

theorem relinked_sent (s : State) (L : Vector LinkUnit 13) (pre : List (LinkId × Message)) :
    (s.relinked L).sent pre = s.relinked (sentLinks L pre) := rfl

/-- Work that neither reads nor writes a link unit. -/
theorem Does.pure {b s u : State} {f : State → State} (h : ∀ L, f (s.relinked L) = u.relinked L) : Does b f s u [] :=
  fun L pre _ _ => by rw [List.append_nil]; exact h (sentLinks L pre)

theorem Does.comp {b s u v : State} {f g : State → State} {a c : List (LinkId × Message)} (hf : Does b f s u a)
    (hg : Does b g u v c) : Does b (fun t => g (f t)) s v (a ++ c) := by
  intro L pre hL hroom
  rw [← List.append_assoc] at hroom ⊢
  show g (f _) = _
  rw [hf L pre hL (room_of_append_left hroom)]
  exact hg L (pre ++ a) hL hroom

/-- Work after which nothing more is sent. -/
theorem Does.comp_pure {b s u v : State} {f g : State → State} {a : List (LinkId × Message)} (hf : Does b f s u a)
    (hg : Does b g u v []) : Does b (fun t => g (f t)) s v a := by
  have h := hf.comp hg
  rwa [List.append_nil] at h

theorem Does.congr {b s u : State} {f g : State → State} {out : List (LinkId × Message)} (h : Does b f s u out)
    (hfg : ∀ t, g t = f t) : Does b g s u out := by
  have hsame : g = f := funext hfg
  rwa [hsame]

/-- Work that comes to other work from another state. -/
theorem Does.via {b s z u : State} {f g : State → State} {out : List (LinkId × Message)} (h : Does b g z u out)
    (hfg : ∀ L, f (s.relinked L) = g (z.relinked L)) : Does b f s u out := by
  intro L pre hL hroom
  rw [relinked_sent, hfg]
  exact h L pre hL hroom

/-- From a state that has room, over its own link units' like. -/
theorem Does.apply {b s u : State} {f : State → State} {out : List (LinkId × Message)} (h : Does b f s u out)
    (hroom : b.Room out) : ∀ L, b.Alike L → f (s.relinked L) = (u.relinked L).sent out :=
  fun L hL => h L [] hL hroom

theorem does_putAll (b s : State) (xs : List (LinkId × Message)) : Does b (·.putAll xs) s s (b.reached xs) := by
  intro L pre hL hroom
  have hsame : (s.relinked L).reached xs = b.reached xs := reached_congr (fun k => (hL k).1) xs
  have hroom' : (s.relinked L).Room (pre ++ b.reached xs) := room_of_links (u := b.relinked L) rfl (Alike.room hL hroom)
  rw [← hsame] at hroom' ⊢
  exact putAll_sent xs hroom'

theorem does_put (b s : State) (l : LinkId) (m : Message) : Does b (·.put l m) s s [(l, m)] := by
  intro L pre hL hroom
  exact put_sent (room_of_links (u := b.relinked L) rfl (Alike.room hL hroom))

/-! ### No call waits -/

/-- No call stands on a queue or a watch list. -/
structure State.NoneWaits (s : State) : Prop where
  seek : ∀ r, s.seekQueue r = []
  desk : s.deskQueue = []
  watch : ∀ r a, (s.handset r a).watch = []

theorem noneWaits_of {s : State} {n : CallNo} (h : s.WaitsAlone n) (hn : s.StandsNowhere n) : s.NoneWaits := by
  obtain ⟨hseek, hdesk, hwatch, -⟩ := h
  obtain ⟨nseek, ndesk, nwatch⟩ := hn
  refine ⟨fun r => ?_, ?_, fun r a => ?_⟩
  · exact List.eq_nil_iff_forall_not_mem.mpr fun m hm => nseek r (hseek r m hm ▸ hm)
  · exact List.eq_nil_iff_forall_not_mem.mpr fun m hm => ndesk (hdesk m hm ▸ hm)
  · exact List.eq_nil_iff_forall_not_mem.mpr fun m hm => nwatch r a (hwatch r a m hm ▸ hm)

theorem filter_of_not_mem {q : List CallNo} {n : CallNo} (h : n ∉ q) : q.filter (· ≠ n) = q :=
  List.filter_eq_self.mpr fun _ hm => decide_eq_true fun e => h (e ▸ hm)

/-- A call that stands nowhere leaves nothing. -/
theorem leavePlaces_of_standsNowhere {s : State} {n : CallNo} (h : s.StandsNowhere n) : s.leavePlaces n = s := by
  obtain ⟨hseek, hdesk, hwatch⟩ := h
  have h1 : tableMap (fun q => q.filter (· ≠ n)) s.seekQueues = s.seekQueues := by
    rw [tableMap_eq_map]
    refine Vector.ext fun i hi => ?_
    rw [Vector.getElem_map]
    exact filter_of_not_mem (hseek ⟨i, hi⟩)
  have h2 : tableMap (fun v => tableMap (fun h : Handset => { h with watch := h.watch.filter (· ≠ n) }) v) s.handsets =
      s.handsets := by
    rw [tableMap_eq_map]
    refine Vector.ext fun i hi => ?_
    rw [Vector.getElem_map, tableMap_eq_map]
    refine Vector.ext fun j hj => ?_
    rw [Vector.getElem_map]
    have hsame := filter_of_not_mem (hwatch ⟨i, hi⟩ ⟨j, hj⟩)
    exact congrArg (fun q => ({ s.handsets[i][j] with watch := q } : Handset)) hsame
  rw [State.leavePlaces, h1, h2, filter_of_not_mem hdesk]

theorem State.NoneWaits.standsNowhere {s : State} (h : s.NoneWaits) (n : CallNo) : s.StandsNowhere n := by
  refine ⟨fun r => ?_, ?_, fun r a => ?_⟩
  · rw [h.seek]; exact List.not_mem_nil
  · rw [h.desk]; exact List.not_mem_nil
  · rw [h.watch]; exact List.not_mem_nil

/-! ### The cascades, where nobody waits -/

/-- A cascade of the course of a call: it does the work of an event, and nothing where nobody waits for what is given up. -/
structure Cascade.Plain (k : Cascade) : Prop where
  works : k.Works (fun _ => True) fun _ => True
  spares : ∀ n, k.Works (· ≠ n) fun _ => True
  free : ∀ {s r c}, s.seekQueue r = [] → s.channel r c = none → k.free s r c = s
  wake : ∀ {s r a}, (s.handset r a).watch = [] → k.wake s r a = s

theorem wakeHead_of_nil {s : State} {r : Fin 8} {a : Fin 63} (h : (s.handset r a).watch = []) : s.wakeHead r a = s := by
  unfold State.wakeHead
  rw [h]

theorem free_of_nil {s : State} {r : Fin 8} {c : Fin 4} (hq : s.seekQueue r = []) (hc : s.channel r c = none) :
    s.free r c = s := by
  rw [State.free, hq, passDown, setChannel_none_of_none hc]

theorem plain_full : Cascade.full.Plain := ⟨fullWorks, fullSpares, free_of_nil, wakeHead_of_nil⟩

theorem plain_bare : Cascade.bare.Plain := ⟨cascadeWorks_bare, fun _ => cascadeWorks_bare, fun _ _ => rfl, fun _ => rfl⟩

theorem plain_waking : Cascade.waking.Plain :=
  ⟨cascadeWorks_waking fun _ h => h, fun _ => cascadeWorks_waking fun _ _ => trivial, fun _ _ => rfl, wakeHead_of_nil⟩

/-! ### Channels handed back to no call (R78) -/

/-- A call with its channels FREE and its record without reservations. -/
structure ChannelsFreed (s t : State) (n : CallNo) (rs : List (Fin 8 × Fin 4)) : Prop where
  frame : t = { s with channels := t.channels, calls := s.calls.set n { s.call n with reservations := [] } }
  channels : ∀ r c, t.channel r c = if (r, c) ∈ rs then none else s.channel r c

/-- One channel handed back down an empty seek queue. -/
theorem handBack_of_nil {k : Cascade} (hk : k.Plain) {s : State} {n : CallNo} {x : Fin 8 × Fin 4}
    (h : s.seekQueue x.1 = []) : s.handBackWith k n x = s.setAside n x.1 x.2 := by
  unfold State.handBackWith
  split
  next hmem => rw [setAside_of_mem hmem, hk.free (by simpa using h) (by simp)]
  next hmem => rw [setAside_of_not_mem hmem]

theorem foldl_setAside {n : CallNo} (rs : List (Fin 8 × Fin 4)) :
    ∀ {s : State}, (s.call n).reservations = rs →
      ChannelsFreed s (rs.foldl (fun t x => t.setAside n x.1 x.2) s) n rs := by
  induction rs with
  | nil =>
    intro s h
    refine ⟨?_, fun _ _ => rfl⟩
    have hsame : ({ s.call n with reservations := [] } : CallRecord) = s.call n := by rw [← h]
    rw [hsame]
    exact (setCall_call_eq s n).symm
  | cons x rs ih =>
    intro s h
    have hmem : (x.1, x.2) ∈ (s.call n).reservations := by rw [h]; exact List.mem_cons_self
    have hstep := setAside_of_mem hmem
    rw [h, List.erase_cons_head] at hstep
    obtain ⟨hframe, hchannels⟩ := ih (s := s.setAside n x.1 x.2) (by rw [hstep, setCall_call_self])
    rw [List.foldl_cons]
    refine ⟨?_, fun r c => ?_⟩
    · rw [hframe, hstep, setCall_call_self]
      exact congrArg (fun v => ({ s with channels := _, calls := v } : State)) (Vector.set_set ..)
    · rw [hchannels, hstep]
      by_cases hx : (r, c) = x
      · subst hx
        rw [if_pos List.mem_cons_self, setCall_channel, setChannel_channel_self, ite_self]
      · have hmem' : (r, c) ∈ x :: rs ↔ (r, c) ∈ rs := by simp [hx]
        simp only [hmem']
        rw [setCall_channel, setChannel_channel]
        have hne : ¬ (r = x.1 ∧ c = x.2) := fun e => hx (Prod.ext e.1 e.2)
        simp [hne]

/-! ### Parties disengaged while no call waits (R52, R85) -/

/-- A party engaged by call `n` is disengaged, and nobody is woken. -/
def State.lets (n : CallNo) (s : State) (x : Party) : State :=
  if s.engagedBy x = some n then
    match x with
    | .station p st => s.setStation p st none
    | .handset r a => s.setHandset r a { s.handset r a with engaged := none }
    | .position q =>
      { s.setPosition q { s.position q with engaged := none } with
        idleOrder := if (s.position q).loggedOn = true ∧ q ∉ s.idleOrder then s.idleOrder ++ [q] else s.idleOrder }
  else s

theorem wakeDesk_of_nil {s : State} (h : s.deskQueue = []) : s.wakeDesk = s := by
  unfold State.wakeDesk
  rw [h]

theorem disengage_of_noneWaits {k : Cascade} (hk : k.Plain) {s : State} (h : s.NoneWaits) (n : CallNo) (x : Party) :
    s.disengageWith k n x = s.lets n x := by
  unfold State.disengageWith State.lets
  split
  · cases x with
    | station p st => rfl
    | handset r a => exact hk.wake (by rw [setHandset_handset_self]; exact h.watch r a)
    | position q =>
      dsimp only
      by_cases hon : (s.position q).loggedOn = true
      · rw [if_pos hon, State.appendIdle, setPosition_idleOrder]
        by_cases hq : q ∈ s.idleOrder
        · rw [if_pos hq, if_neg fun e => e.2 hq]
          exact wakeDesk_of_nil h.desk
        · rw [if_neg hq, if_pos ⟨hon, hq⟩]
          exact wakeDesk_of_nil h.desk
      · rw [if_neg hon, if_neg fun e => hon e.1]
        rfl
  · rfl

theorem lets_relinked (s : State) (L : Vector LinkUnit 13) (n : CallNo) (x : Party) :
    (s.relinked L).lets n x = (s.lets n x).relinked L := by
  unfold State.lets
  by_cases h : s.engagedBy x = some n
  · rw [if_pos h, if_pos (by cases x <;> exact h)]
    cases x <;> rfl
  · rw [if_neg h, if_neg (by cases x <;> exact h)]

/-- The parties `xs` of call `n` disengaged. -/
structure PartiesFreed (s t : State) (n : CallNo) (xs : List Party) : Prop where
  frame : t = { s with
                stations := t.stations
                handsets := t.handsets
                positions := t.positions
                idleOrder := t.idleOrder }
  stations : ∀ p st, t.station p st = if .station p st ∈ xs ∧ s.station p st = some n then none else s.station p st
  handsets : ∀ r a, t.handset r a =
    { s.handset r a with
      engaged := if .handset r a ∈ xs ∧ (s.handset r a).engaged = some n then none else (s.handset r a).engaged }
  positions : ∀ q, t.position q =
    { s.position q with
      engaged := if .position q ∈ xs ∧ (s.position q).engaged = some n then none else (s.position q).engaged }
  order : s.idleOrder <+: t.idleOrder
  idle : ∀ q, q ∈ t.idleOrder ↔ q ∈ s.idleOrder ∨
    (.position q ∈ xs ∧ (s.position q).engaged = some n ∧ (s.position q).loggedOn = true)

theorem PartiesFreed.refl (s : State) (n : CallNo) : PartiesFreed s s n [] := by
  refine ⟨rfl, fun p st => ?_, fun r a => ?_, fun q => ?_, List.prefix_rfl, fun q => ?_⟩
  all_goals simp

theorem lets_of_ne {s : State} {n : CallNo} {x : Party} (h : s.engagedBy x ≠ some n) : s.lets n x = s := if_neg h

theorem lets_station {s : State} {n : CallNo} {p : Fin 4} {st : Fin 2} (h : s.station p st = some n) :
    s.lets n (.station p st) = s.setStation p st none := if_pos h

theorem lets_handset {s : State} {n : CallNo} {r : Fin 8} {a : Fin 63} (h : (s.handset r a).engaged = some n) :
    s.lets n (.handset r a) = s.setHandset r a { s.handset r a with engaged := none } := if_pos h

theorem lets_position {s : State} {n : CallNo} {q : Fin 6} (h : (s.position q).engaged = some n) :
    s.lets n (.position q) =
      { s.setPosition q { s.position q with engaged := none } with
        idleOrder := if (s.position q).loggedOn = true ∧ q ∉ s.idleOrder then s.idleOrder ++ [q] else s.idleOrder } := if_pos h

/-- Freeing a party that the call does not engage writes nothing. -/
theorem partiesFreed_none {s : State} {n : CallNo} {x : Party} (h : s.engagedBy x ≠ some n) : PartiesFreed s s n [x] := by
  have hstation : ∀ p st, ¬ (Party.station p st ∈ [x] ∧ s.station p st = some n) := by
    rintro p st ⟨hm, he⟩
    obtain rfl := List.mem_singleton.mp hm
    exact h he
  have hhandset : ∀ r a, ¬ (Party.handset r a ∈ [x] ∧ (s.handset r a).engaged = some n) := by
    rintro r a ⟨hm, he⟩
    obtain rfl := List.mem_singleton.mp hm
    exact h he
  have hposition : ∀ q, ¬ (Party.position q ∈ [x] ∧ (s.position q).engaged = some n) := by
    rintro q ⟨hm, he⟩
    obtain rfl := List.mem_singleton.mp hm
    exact h he
  exact ⟨rfl, fun p st => by rw [if_neg (hstation p st)], fun r a => by rw [if_neg (hhandset r a)],
    fun q => by rw [if_neg (hposition q)], List.prefix_rfl,
    fun q => ⟨.inl, fun e => e.elim id fun e => absurd ⟨e.1, e.2.1⟩ (hposition q)⟩⟩

theorem partiesFreed_one (s : State) (n : CallNo) (x : Party) : PartiesFreed s (s.lets n x) n [x] := by
  by_cases h : s.engagedBy x = some n
  · cases x with
    | station p st =>
      have h' : s.station p st = some n := h
      rw [lets_station h']
      refine ⟨rfl, fun p' st' => ?_, fun r a => by simp, fun q => by simp, List.prefix_rfl, fun q => by simp⟩
      rw [setStation_station]
      by_cases e : p' = p ∧ st' = st
      · obtain ⟨rfl, rfl⟩ := e
        simp [h']
      · have hne : Party.station p' st' ∉ [.station p st] := by simpa using e
        rw [if_neg e, if_neg fun c => hne c.1]
    | handset r a =>
      have h' : (s.handset r a).engaged = some n := h
      rw [lets_handset h']
      refine ⟨rfl, fun p st => by simp, fun r' a' => ?_, fun q => by simp, List.prefix_rfl, fun q => by simp⟩
      rw [setHandset_handset]
      by_cases e : r' = r ∧ a' = a
      · obtain ⟨rfl, rfl⟩ := e
        simp [h']
      · have hne : Party.handset r' a' ∉ [.handset r a] := by simpa using e
        rw [if_neg e, if_neg fun c => hne c.1]
    | position q =>
      have h' : (s.position q).engaged = some n := h
      rw [lets_position h']
      refine ⟨rfl, fun p st => (if_neg (by simp)).symm, fun r a =>
        (congrArg (fun e => ({ s.handset r a with engaged := e } : Handset)) (if_neg (by simp))).symm, fun q' => ?_, ?_,
        fun q' => ?_⟩
      · show (s.setPosition q { s.position q with engaged := none }).position q' = _
        rw [setPosition_position]
        by_cases e : q' = q
        · subst e
          simp [h']
        · have hne : Party.position q' ∉ [.position q] := by simpa using e
          rw [if_neg e, if_neg fun c => hne c.1]
      · dsimp only
        split
        · exact List.prefix_append ..
        · exact List.prefix_rfl
      · dsimp only
        by_cases hq : (s.position q).loggedOn = true ∧ q ∉ s.idleOrder
        · rw [if_pos hq, List.mem_append, List.mem_singleton, List.mem_singleton]
          refine or_congr_right ⟨fun e => ?_, fun e => Party.position.inj e.1⟩
          subst e
          exact ⟨rfl, h', hq.1⟩
        · rw [if_neg hq, List.mem_singleton]
          refine ⟨.inl, fun e => e.elim id fun e => ?_⟩
          obtain ⟨e, -, hon⟩ := e
          obtain rfl := Party.position.inj e
          exact Decidable.byContradiction fun hm => hq ⟨hon, hm⟩
  · rw [lets_of_ne h]
    exact partiesFreed_none h

theorem freed_ite {α : Type} {p q : Prop} [Decidable p] [Decidable q] {e : Option α} {n : α} [DecidableEq α] :
    (if q ∧ (if p ∧ e = some n then none else e) = some n then none else if p ∧ e = some n then none else e) =
      if (p ∨ q) ∧ e = some n then none else e := by
  by_cases he : e = some n
  · by_cases hp : p <;> by_cases hq : q <;> simp [he, hp, hq]
  · simp [he]

theorem PartiesFreed.trans {s t u : State} {n : CallNo} {xs ys : List Party} (h : PartiesFreed s t n xs)
    (h' : PartiesFreed t u n ys) : PartiesFreed s u n (xs ++ ys) := by
  refine ⟨?_, fun p st => ?_, fun r a => ?_, fun q => ?_, h.order.trans h'.order, fun q => ?_⟩
  · rw [h'.frame, h.frame]
  · rw [h'.stations, h.stations]
    simp only [List.mem_append]
    exact freed_ite
  · rw [h'.handsets, h.handsets]
    simp only [List.mem_append]
    exact congrArg (fun e => ({ s.handset r a with engaged := e } : Handset)) freed_ite
  · rw [h'.positions, h.positions]
    simp only [List.mem_append]
    exact congrArg (fun e => ({ s.position q with engaged := e } : Position)) freed_ite
  · rw [h'.idle, h.idle, h.positions]
    simp only [List.mem_append]
    by_cases he : (s.position q).engaged = some n
    · by_cases hx : Party.position q ∈ xs
      · simp [he, hx]
      · simp [he, hx]
    · simp [he]

theorem foldl_lets (s : State) (n : CallNo) (xs : List Party) : PartiesFreed s (xs.foldl (State.lets n) s) n xs := by
  induction xs generalizing s with
  | nil => exact .refl s n
  | cons x xs ih => exact (partiesFreed_one s n x).trans (ih _)

theorem PartiesFreed.noneWaits {s t : State} {n : CallNo} {xs : List Party} (h : PartiesFreed s t n xs)
    (hs : s.NoneWaits) : t.NoneWaits := by
  refine ⟨fun r => ?_, ?_, fun r a => ?_⟩
  · rw [h.frame]; exact hs.seek r
  · rw [h.frame]; exact hs.desk
  · rw [h.handsets]; exact hs.watch r a

theorem foldl_disengage_of_noneWaits {k : Cascade} (hk : k.Plain) {n : CallNo} (xs : List Party) :
    ∀ {s : State}, s.NoneWaits → xs.foldl (State.disengageWith k n) s = xs.foldl (State.lets n) s := by
  induction xs with
  | nil => exact fun _ => rfl
  | cons x xs ih =>
    intro s hs
    rw [List.foldl_cons, List.foldl_cons, disengage_of_noneWaits hk hs, ih ((partiesFreed_one s n x).noneWaits hs)]

/-- Once its parties are freed, none of them is engaged by the call. -/
theorem PartiesFreed.engagedBy {s t : State} {n : CallNo} {xs : List Party} (h : PartiesFreed s t n xs) {x : Party}
    (hx : x ∈ xs) : t.engagedBy x ≠ some n := by
  have hnone : ∀ e : Option CallNo, (if e = some n then none else e) ≠ some n := fun e => by
    split
    · exact nofun
    next he => exact he
  cases x with
  | station p st =>
    show t.station p st ≠ some n
    rw [h.stations]
    simpa only [hx, true_and] using hnone _
  | handset r a =>
    show (t.handset r a).engaged ≠ some n
    rw [h.handsets]
    simpa only [hx, true_and] using hnone _
  | position q =>
    show (t.position q).engaged ≠ some n
    rw [h.positions]
    simpa only [hx, true_and] using hnone _

theorem foldl_lets_of_freed {s : State} {n : CallNo} (xs : List Party) (h : ∀ x ∈ xs, s.engagedBy x ≠ some n) :
    xs.foldl (State.lets n) s = s := by
  induction xs with
  | nil => rfl
  | cons x xs ih =>
    rw [List.foldl_cons, lets_of_ne (h x List.mem_cons_self)]
    exact ih fun y hy => h y (List.mem_cons_of_mem _ hy)

/-! ### Clearing where no other call waits (R27) -/

/-- The channels of a call set aside, one after another. -/
def State.freedChannels (s : State) (n : CallNo) : State :=
  (s.call n).reservations.foldl (fun t x => t.setAside n x.1 x.2) s

theorem freedChannels_freed (s : State) (n : CallNo) : ChannelsFreed s (s.freedChannels n) n (s.call n).reservations :=
  foldl_setAside _ rfl

theorem ChannelsFreed.call {s t : State} {n : CallNo} {rs : List (Fin 8 × Fin 4)} (h : ChannelsFreed s t n rs) :
    t.call n = { s.call n with reservations := [] } := by
  rw [h.frame]; exact setCall_call_self ..

theorem foldl_handBack_of_noneWaits {k : Cascade} (hk : k.Plain) {n : CallNo} (rs : List (Fin 8 × Fin 4)) :
    ∀ {s : State}, s.NoneWaits → rs.foldl (State.handBackWith k n) s = rs.foldl (fun t x => t.setAside n x.1 x.2) s := by
  induction rs with
  | nil => exact fun _ => rfl
  | cons x rs ih =>
    intro s hs
    rw [List.foldl_cons, List.foldl_cons, handBack_of_nil hk (hs.seek x.1)]
    refine ih ?_
    by_cases h : (x.1, x.2) ∈ (s.call n).reservations
    · rw [setAside_of_mem h]; exact ⟨hs.seek, hs.desk, hs.watch⟩
    · rw [setAside_of_not_mem h]; exact hs

theorem handBackAll_of_noneWaits {k : Cascade} (hk : k.Plain) {s : State} (hs : s.NoneWaits) (n : CallNo) :
    s.handBackAllWith k n = s.freedChannels n := foldl_handBack_of_noneWaits hk _ hs

theorem ChannelsFreed.noneWaits {s t : State} {n : CallNo} {rs : List (Fin 8 × Fin 4)} (h : ChannelsFreed s t n rs)
    (hs : s.NoneWaits) : t.NoneWaits := by
  rw [h.frame]; exact ⟨hs.seek, hs.desk, hs.watch⟩

/-- A call gives up its channels and parties, and nobody is woken. -/
def State.letsAll (s : State) (n : CallNo) : State := (s.call n).parties.foldl (State.lets n) (s.freedChannels n)

theorem letsAll_freed (s : State) (n : CallNo) : PartiesFreed (s.freedChannels n) (s.letsAll n) n (s.call n).parties :=
  foldl_lets ..

theorem giveUp_of_noneWaits {k : Cascade} (hk : k.Plain) {s : State} (hs : s.NoneWaits) (n : CallNo) :
    s.giveUpWith k n = s.letsAll n := by
  have hfreed := freedChannels_freed s n
  have hparties : ((s.freedChannels n).call n).parties = (s.call n).parties := by rw [hfreed.call]; rfl
  show ((s.handBackAllWith k n).call n).parties.foldl _ (s.handBackAllWith k n) = _
  rw [handBackAll_of_noneWaits hk hs, hparties, foldl_disengage_of_noneWaits hk _ (hfreed.noneWaits hs)]
  rfl

theorem letsAll_call (s : State) (n : CallNo) : (s.letsAll n).call n = { s.call n with reservations := [] } := by
  rw [(letsAll_freed s n).frame]
  exact (freedChannels_freed s n).call

theorem letsAll_noneWaits {s : State} (hs : s.NoneWaits) (n : CallNo) : (s.letsAll n).NoneWaits :=
  (letsAll_freed s n).noneWaits ((freedChannels_freed s n).noneWaits hs)

/-- A call that has given up all gives up nothing more. -/
theorem letsAll_letsAll (s : State) (n : CallNo) : (s.letsAll n).letsAll n = s.letsAll n := by
  have hcall := letsAll_call s n
  have hchannels : (s.letsAll n).freedChannels n = s.letsAll n := by rw [State.freedChannels, hcall]; rfl
  have hparties : ((s.letsAll n).call n).parties = (s.call n).parties := by rw [hcall]; rfl
  rw [State.letsAll, hchannels, hparties]
  exact foldl_lets_of_freed _ fun x hx => (letsAll_freed s n).engagedBy hx

/-- The state of a call cleared, its messages apart, where nobody waits. -/
def State.goneCall (s : State) (n : CallNo) (cause : Cause) : State :=
  (s.letsAll n).setCall n { CallRecord.blank with lastCause := some cause, releases := (s.call n).releases }

theorem clearingTable_progress (cause : Cause) : (clearingTable cause).1 = cause.progress := by cases cause <;> rfl
theorem clearingTable_clearKind (cause : Cause) : (clearingTable cause).2 = cause.clearKind := by cases cause <;> rfl

theorem foldl_put_map {α : Type} (s : State) (xs : List α) (f : α → LinkId × Message) :
    xs.foldl (fun t x => t.put (f x).1 (f x).2) s = s.putAll (xs.map f) := by
  rw [State.putAll, List.foldl_map]

theorem clearMessages_eq (s : State) (c : CallRecord) (cause : Cause) :
    s.clearMessages c cause = s.putAll (c.clearingOut cause) := by
  have hstops : ∀ t : State, c.alerted.foldl (fun t x => t.sendRingStop x .callerLeft) t =
      t.putAll (c.alerted.map fun x => (x.link, ringStopMsg x.addr .callerLeft)) := fun t =>
    foldl_put_map t c.alerted fun x => (x.link, ringStopMsg x.addr .callerLeft)
  have hclears : ∀ (t : State) (xs : List Party) (k : ClearKind), xs.foldl (fun t x => t.sendClear x k) t =
      t.putAll (xs.map fun x => (x.link, clearMsg x.addr k)) := fun t xs k =>
    foldl_put_map t xs fun x => (x.link, clearMsg x.addr k)
  unfold State.clearMessages CallRecord.clearingOut
  rw [clearingTable_progress, clearingTable_clearKind, putAll_append, putAll_append]
  dsimp only
  rw [hstops]
  have htold : (match c.origin, cause.progress with
      | some (.station p st), some v => s.sendProgress p st v
      | _, _ => s) = s.putAll (match c.origin, cause.progress with
      | some (.station p st), some v => [(.panel p, progressMsg (BitVec.ofNat 8 st.val) v)]
      | _, _ => []) := by
    rcases c.origin with _ | (_ | _ | _) <;> rcases cause.progress with _ | v <;> rfl
  cases hk : cause.clearKind with
  | none => exact congrArg (fun t => State.putAll t _) htold
  | some k =>
    simp only [hclears]
    exact congrArg (fun t => State.putAll (State.putAll t _) _) htold

theorem setAside_relinked (s : State) (L : Vector LinkUnit 13) (n : CallNo) (r : Fin 8) (c : Fin 4) :
    (s.relinked L).setAside n r c = (s.setAside n r c).relinked L := by
  by_cases h : (r, c) ∈ (s.call n).reservations
  · rw [setAside_of_mem h, setAside_of_mem (s := s.relinked L) h]; rfl
  · rw [setAside_of_not_mem h, setAside_of_not_mem (s := s.relinked L) h]

theorem foldl_relinked {α : Type} {f : State → α → State} (hf : ∀ s L x, f (State.relinked s L) x = (f s x).relinked L)
    (xs : List α) : ∀ (s : State) (L : Vector LinkUnit 13), xs.foldl f (s.relinked L) = (xs.foldl f s).relinked L := by
  induction xs with
  | nil => exact fun _ _ => rfl
  | cons x xs ih =>
    intro s L
    rw [List.foldl_cons, List.foldl_cons, hf, ih]

theorem freedChannels_relinked (s : State) (L : Vector LinkUnit 13) (n : CallNo) :
    (s.relinked L).freedChannels n = (s.freedChannels n).relinked L :=
  foldl_relinked (fun s L x => setAside_relinked s L n x.1 x.2) _ s L

theorem goneCall_relinked (s : State) (L : Vector LinkUnit 13) (n : CallNo) (cause : Cause) :
    (s.relinked L).goneCall n cause = (s.goneCall n cause).relinked L := by
  have h : (s.relinked L).letsAll n = (s.letsAll n).relinked L := by
    rw [State.letsAll, freedChannels_relinked]
    exact foldl_relinked (fun s L x => lets_relinked s L n x) _ _ L
  rw [State.goneCall, h]
  rfl

theorem goneCall_attention (s : State) (n : CallNo) (cause : Cause) : (s.goneCall n cause).attention = s.attention := by
  show (s.letsAll n).attention = _
  rw [(letsAll_freed s n).frame, (freedChannels_freed s n).frame]

theorem endDrain_of_mode {s : State} (h : s.mode ≠ .draining) : s.endDrain = s := if_neg fun e => h e.1

theorem putAll_frame (s : State) (out : List (LinkId × Message)) :
    s.putAll out = { s with links := (s.putAll out).links, attention := (s.putAll out).attention } := by
  induction out generalizing s with
  | nil => rfl
  | cons x out ih =>
    show (s.put x.1 x.2).putAll out = _
    have h := put_frame s x.1 x.2
    show _ = { s with links := ((s.put x.1 x.2).putAll out).links, attention := ((s.put x.1 x.2).putAll out).attention }
    generalize s.put x.1 x.2 = t at h ⊢
    rw [ih t, h]

theorem letsAll_mode (s : State) (n : CallNo) : (s.letsAll n).mode = s.mode := by
  rw [(letsAll_freed s n).frame, (freedChannels_freed s n).frame]

/-- A call clears where nobody waits: its messages, then all it held given up and its record IDLE. -/
theorem clear_of_noneWaits {k : Cascade} (hk : k.Plain) {s : State} {n : CallNo} (cause : Cause) (hs : s.NoneWaits)
    (hactive : (s.call n).state ≠ .idle) (hmode : s.mode ≠ .draining) :
    s.clearWith k n cause = (s.putAll ((s.call n).clearingOut cause)).goneCall n cause := by
  have hframe := putAll_frame s ((s.call n).clearingOut cause)
  have hmessages := clearMessages_eq s (s.call n) cause
  generalize s.putAll ((s.call n).clearingOut cause) = t at hframe hmessages ⊢
  have hquiet : t.NoneWaits := by rw [hframe]; exact ⟨hs.seek, hs.desk, hs.watch⟩
  have hcall : t.call n = s.call n := by rw [hframe]; rfl
  have hall := letsAll_noneWaits hquiet n
  rw [clearWith_of_active hactive, State.clearing, hmessages, giveUp_of_noneWaits hk hquiet,
    leavePlaces_of_standsNowhere (hall.standsNowhere n), giveUp_of_noneWaits hk hall, letsAll_letsAll, State.retire,
    endDrain_of_mode, State.goneCall, hcall]
  rw [setCall_mode, letsAll_mode, hframe]
  exact hmode

theorem does_clear {k : Cascade} (hk : k.Plain) {b s : State} {n : CallNo} (cause : Cause) (hs : s.NoneWaits) (hactive : (s.call n).state ≠ .idle)
    (hmode : s.mode ≠ .draining) :
    Does b (·.clearWith k n cause) s (s.goneCall n cause) (b.reached ((s.call n).clearingOut cause)) := by
  intro L pre hL hroom
  have hput := does_putAll b s ((s.call n).clearingOut cause) L pre hL hroom
  change State.putAll _ _ = _ at hput
  rw [relinked_sent] at hput ⊢
  show State.clearWith k _ n cause = _
  rw [clear_of_noneWaits hk (s := s.relinked (sentLinks L pre)) cause ⟨hs.seek, hs.desk, hs.watch⟩ hactive hmode]
  show State.goneCall (State.putAll _ ((s.call n).clearingOut cause)) n cause = _
  rw [hput, relinked_sent, relinked_sent]
  exact goneCall_relinked ..

/-- A state cleared of call `n` has given up all the call held. -/
theorem goneCall_givenUp {s t : State} {n : CallNo} (cause : Cause) (hs : s.NoneWaits)
    (ht : t = { s.goneCall n cause with links := t.links, attention := t.attention }) : GivenUp s t n cause := by
  have hch := freedChannels_freed s n
  have hp := letsAll_freed s n
  have hseek : s.seekQueues = Vector.replicate 8 [] := by
    refine Vector.ext fun i hi => ?_
    rw [Vector.getElem_replicate]
    exact hs.seek ⟨i, hi⟩
  have hframe : s.letsAll n = { s with
      calls := (s.letsAll n).calls, channels := (s.letsAll n).channels, stations := (s.letsAll n).stations
      handsets := (s.letsAll n).handsets, positions := (s.letsAll n).positions, idleOrder := (s.letsAll n).idleOrder } := by
    rw [hp.frame, hch.frame]
  rw [ht]
  refine ⟨?_, ?_, fun m hm => ?_, fun r c => ?_, fun p st => ?_, fun r a => ?_, fun q => ?_, ?_, fun q => ?_⟩
  · rw [State.goneCall, hframe, ← hseek, ← hs.desk]
    rfl
  · exact setCall_call_self ..
  · refine (setCall_call_ne _ _ hm).trans ?_
    rw [hp.frame]
    show (s.freedChannels n).call m = _
    rw [hch.frame]
    exact setCall_call_ne _ _ hm
  · rw [← hch.channels]
    show (s.letsAll n).channel r c = _
    rw [hp.frame]
    rfl
  · have h := hp.stations p st
    rw [hch.frame] at h
    exact h
  · have h := hp.handsets r a
    rw [hch.frame] at h
    refine h.trans ?_
    rw [← hs.watch r a]
    rfl
  · have h := hp.positions q
    rw [hch.frame] at h
    exact h
  · have h := hp.order
    rw [hch.frame] at h
    exact h
  · have h := hp.idle q
    rw [hch.frame] at h
    exact h

theorem State.WaitsAlone.leavePlaces {s : State} {n : CallNo} (h : s.WaitsAlone n) : (s.leavePlaces n).NoneWaits := by
  obtain ⟨hseek, hdesk, hwatch, -⟩ := h
  have hnone : ∀ q : List CallNo, (∀ m ∈ q, m = n) → q.filter (· ≠ n) = [] := fun q hq =>
    List.filter_eq_nil_iff.mpr fun m hm e => of_decide_eq_true e (hq m hm)
  refine ⟨fun r => ?_, ?_, fun r a => ?_⟩
  · rw [leavePlaces_seekQueue]; exact hnone _ (hseek r)
  · rw [leavePlaces_deskQueue]; exact hnone _ hdesk
  · rw [leavePlaces_handset]; exact hnone _ (hwatch r a)

/-! ### An outcome that clears, where no other call waits (R14, R93 to R95) -/

/-- The state of a call that has left its places and handed back its channels, its counts stopped. -/
def State.leftAll (s : State) (n : CallNo) : State :=
  ((s.leavePlaces n).freedChannels n).setCall n
    { s.call n with reservations := [], stateCount := none, waitCount := stoppedSeek (s.call n).waitCount }

theorem outcoming_of_waitsAlone {k : Cascade} (hk : k.Plain) {s : State} {n : CallNo} (cause : Cause) (h : s.WaitsAlone n) :
    s.outcoming k n cause = (if cause = .congestion then s.raise .congestion else s).leftAll n := by
  have hquiet : ((if cause = .congestion then s.raise .congestion else s).leavePlaces n).NoneWaits := by
    refine State.WaitsAlone.leavePlaces ?_
    split
    · exact h
    · exact h
  unfold State.outcoming State.leftAll
  dsimp only
  rw [handBackAll_of_noneWaits hk hquiet, (freedChannels_freed _ n).call, leavePlaces_call]

theorem leftAll_relinked (s : State) (L : Vector LinkUnit 13) (n : CallNo) :
    (s.relinked L).leftAll n = (s.leftAll n).relinked L := by
  have h : ((s.relinked L).leavePlaces n).freedChannels n = ((s.leavePlaces n).freedChannels n).relinked L :=
    freedChannels_relinked (s.leavePlaces n) L n
  rw [State.leftAll, h]
  rfl

theorem leftAll_call (s : State) (n : CallNo) :
    (s.leftAll n).call n =
      { s.call n with reservations := [], stateCount := none, waitCount := stoppedSeek (s.call n).waitCount } :=
  setCall_call_self ..

theorem leftAll_noneWaits {s : State} {n : CallNo} (h : s.WaitsAlone n) : (s.leftAll n).NoneWaits := by
  have hquiet := (freedChannels_freed (s.leavePlaces n) n).noneWaits h.leavePlaces
  exact ⟨hquiet.seek, hquiet.desk, hquiet.watch⟩

theorem leftAll_mode (s : State) (n : CallNo) : (s.leftAll n).mode = s.mode := by
  rw [State.leftAll, (freedChannels_freed _ n).frame]; rfl

theorem leftAll_attention (s : State) (n : CallNo) : (s.leftAll n).attention = s.attention := by
  rw [State.leftAll, (freedChannels_freed _ n).frame]; rfl

/-- What a call has given up after it left its places, it has given up altogether. -/
theorem GivenUp.of_leftAll {s t : State} {n : CallNo} {cause : Cause} (h : GivenUp (s.leftAll n) t n cause) :
    GivenUp s t n cause := by
  have hch := freedChannels_freed (s.leavePlaces n) n
  have hcall := leftAll_call s n
  have hframe : s.leftAll n = { s with
      calls := (s.leftAll n).calls, handsets := (s.leftAll n).handsets, channels := (s.leftAll n).channels
      seekQueues := (s.leftAll n).seekQueues, deskQueue := (s.leftAll n).deskQueue } := by
    rw [State.leftAll, hch.frame]; rfl
  have hparties : ((s.leftAll n).call n).parties = (s.call n).parties := by rw [hcall]; rfl
  have hhandset : ∀ r a, (s.leftAll n).handset r a =
      { s.handset r a with watch := (s.handset r a).watch.filter (· ≠ n) } := by
    intro r a
    rw [← leavePlaces_handset, State.leftAll, hch.frame]
    rfl
  refine ⟨?_, ?_, fun m hm => ?_, fun r c => ?_, fun p st => ?_, fun r a => ?_, fun q => ?_, ?_, fun q => ?_⟩
  · rw [h.frame, hframe]
  · rw [h.record, hcall]
  · rw [h.others m hm, State.leftAll, setCall_call_ne _ _ hm, hch.frame]
    exact setCall_call_ne _ _ hm
  · rw [h.channels, hcall, if_neg List.not_mem_nil]
    exact hch.channels r c
  · rw [h.stations, hparties, hframe]; rfl
  · rw [h.handsets, hparties, hhandset]
  · rw [h.positions, hparties, hframe]; rfl
  · have ho := h.idleOrder
    rw [hframe] at ho
    exact ho
  · have ho := h.idle q
    rw [hparties, hframe] at ho
    exact ho

/-- The causes that may forward a call to the desk (R14). -/
def Cause.Forwardable (cause : Cause) : Prop :=
  cause = .busy ∨ cause = .quiet ∨ cause = .absent ∨ cause = .noAnswer ∨ cause = .declined ∨ cause = .congestion

theorem forwards_iff (c : CallRecord) (cause : Cause) : c.forwards cause = true ↔ c.MayForward ∧ cause.Forwardable := by
  have hresolved : c.resolved.any (fun x => x.fallback) = true ↔ c.resolved.map (·.fallback) = some true := by
    cases c.resolved <;> simp
  have hcause : (match cause with
      | .busy | .quiet | .absent | .noAnswer | .declined | .congestion => true
      | _ => false) = true ↔ cause.Forwardable := by
    cases cause <;> simp [Cause.Forwardable]
  unfold CallRecord.forwards CallRecord.MayForward
  rw [Bool.and_eq_true_iff, Bool.and_eq_true_iff, Bool.and_eq_true_iff, hresolved, decide_eq_true_iff, Bool.not_eq_true',
    and_assoc, and_assoc, and_assoc, and_assoc]
  exact and_congr_right fun _ => and_congr_right fun _ => and_congr_right fun _ => hcause

theorem outcome_of_not_forwards {k : Cascade} {s : State} {n : CallNo} {cause : Cause} (hactive : (s.call n).state ≠ .idle)
    (h : (s.call n).forwards cause = false) :
    s.outcomeWith k n cause = (s.outcoming k n cause).clearWith k n cause := by
  rw [outcomeWith_of_active hactive, if_neg (by rw [h]; decide)]

/-- The class that an outcome raises (R94). -/
def Cause.raised (cause : Cause) : Octet := if cause = .congestion then 0x20#8 else 0x00#8

/-- A call whose outcome clears it, where no other call waits. -/
theorem does_outcome {k : Cascade} (hk : k.Plain) {b s : State} {n : CallNo} {cause : Cause} (h : s.WaitsAlone n) (hactive : (s.call n).state ≠ .idle)
    (hforwards : (s.call n).forwards cause = false) :
    ∃ u, Does b (·.outcomeWith k n cause) s u (b.reached ((s.call n).clearingOut cause)) ∧
      u.attention = s.attention ||| cause.raised ∧
      ∀ t, t = { u with links := t.links, attention := t.attention } → GivenUp s t n cause := by
  generalize hz : (if cause = .congestion then s.raise .congestion else s) = z
  have hzs : z = { s with attention := s.attention ||| cause.raised } := by
    rw [← hz, Cause.raised]
    split
    · rfl
    · show s = { s with attention := s.attention ||| 0#8 }
      rw [BitVec.or_zero]
  have hcall : (z.leftAll n).call n =
      { s.call n with reservations := [], stateCount := none, waitCount := stoppedSeek (s.call n).waitCount } := by
    rw [leftAll_call, hzs]; rfl
  have hwaits : z.WaitsAlone n := by rw [hzs]; exact h
  have hclear := does_clear hk (b := b) cause (leftAll_noneWaits hwaits) (by rw [hcall]; exact hactive)
    (by rw [leftAll_mode, hzs]; exact h.2.2.2)
  have hout : ((z.leftAll n).call n).clearingOut cause = (s.call n).clearingOut cause := by rw [hcall]; rfl
  rw [hout] at hclear
  refine ⟨(z.leftAll n).goneCall n cause, hclear.via fun L => ?_, ?_, fun t ht => ?_⟩
  · rw [outcome_of_not_forwards (s := s.relinked L) hactive hforwards, outcoming_of_waitsAlone hk (s := s.relinked L) cause h,
      ← leftAll_relinked]
    have hraised : (if cause = .congestion then (s.relinked L).raise .congestion else s.relinked L) = z.relinked L := by
      rw [← hz]
      split <;> rfl
    rw [hraised]
  · rw [goneCall_attention, leftAll_attention, hzs]
  · have hgiven : GivenUp z t n cause := (goneCall_givenUp cause (leftAll_noneWaits hwaits) ht).of_leftAll
    rw [hzs] at hgiven
    exact ⟨hgiven.frame, hgiven.record, hgiven.others, hgiven.channels, hgiven.stations, hgiven.handsets, hgiven.positions,
      hgiven.idleOrder, hgiven.idle⟩

end Sys2Proof.Machine
end

section
/-!
PROOF. A command as one work on the state and what stands around it: the delivery of a message, an event, a marker taken, a
request; and what a command that clears a call leaves.
-/

namespace Sys2Proof.Machine

/-! ### Channels connected within a delivery (R110) -/

/-- The upstream channels `ys` connected, one after another. -/
def State.connectAll (s : State) (ys : List (LinkId × Nat)) : State := ys.foldl (fun t y => t.connectChannel (some y)) s

/-- A link unit with the last good octets of its channels among `ys` at 0x00. -/
def silenced (ys : List (LinkId × Nat)) (k : LinkId) (u : LinkUnit) : LinkUnit :=
  ys.foldl (fun u y => if k = y.1 then { u with lastGood := u.lastGood.set y.2 0x00#8 } else u) u

theorem connectAll_link (ys : List (LinkId × Nat)) (s : State) (k : LinkId) :
    (s.connectAll ys).link k = silenced ys k (s.link k) := by
  induction ys generalizing s with
  | nil => rfl
  | cons y ys ih =>
    have hstep : (s.connectChannel (some y)).link k =
        if k = y.1 then { s.link k with lastGood := (s.link k).lastGood.set y.2 0x00#8 } else s.link k := by
      refine (setLink_link ..).trans ?_
      split
      next h => rw [h]
      next => rfl
    exact (ih (s.connectChannel (some y))).trans (congrArg (silenced ys k) hstep)

theorem connectAll_frame (ys : List (LinkId × Nat)) (s : State) : s.connectAll ys = { s with links := (s.connectAll ys).links } := by
  induction ys generalizing s with
  | nil => rfl
  | cons y ys ih => exact ih (s.connectChannel (some y))

/-- A write of the queues of a link unit stands over the connecting of its channels. -/
theorem silenced_comm {g : LinkUnit → LinkUnit} (hg : ∀ u v, g { u with lastGood := v } = { g u with lastGood := v })
    (hkept : ∀ u, (g u).lastGood = u.lastGood) (ys : List (LinkId × Nat)) (k : LinkId) (u : LinkUnit) :
    silenced ys k (g u) = g (silenced ys k u) := by
  induction ys generalizing u with
  | nil => rfl
  | cons y ys ih =>
    show silenced ys k (if k = y.1 then { g u with lastGood := (g u).lastGood.set y.2 0x00#8 } else g u) =
      g (silenced ys k (if k = y.1 then { u with lastGood := u.lastGood.set y.2 0x00#8 } else u))
    by_cases h : k = y.1
    · rw [if_pos h, if_pos h, hkept, ← hg, ih]
    · rw [if_neg h, if_neg h, ih]

theorem silenced_withTx (ys : List (LinkId × Nat)) (k : LinkId) (u : LinkUnit) (ms : List Message) :
    silenced ys k (u.withTx ms) = (silenced ys k u).withTx ms :=
  silenced_comm (g := fun u => u.withTx ms) (fun _ _ => rfl) (fun _ => rfl) ys k u

theorem silenced_rx (ys : List (LinkId × Nat)) (k : LinkId) (u : LinkUnit) : (silenced ys k u).rx = u.rx := by
  induction ys generalizing u with
  | nil => rfl
  | cons y ys ih =>
    refine (ih _).trans ?_
    show LinkUnit.rx (if k = y.1 then { u with lastGood := u.lastGood.set y.2 0x00#8 } else u) = u.rx
    split <;> rfl

theorem silenced_state (ys : List (LinkId × Nat)) (k : LinkId) (u : LinkUnit) :
    (silenced ys k u).state = u.state ∧ (silenced ys k u).tx = u.tx := by
  induction ys generalizing u with
  | nil => exact ⟨rfl, rfl⟩
  | cons y ys ih =>
    have h := ih (if k = y.1 then { u with lastGood := u.lastGood.set y.2 0x00#8 } else u)
    refine ⟨h.1.trans ?_, h.2.trans ?_⟩ <;> split <;> rfl

theorem setLink_connectAll {g : LinkUnit → LinkUnit} (hg : ∀ u v, g { u with lastGood := v } = { g u with lastGood := v })
    (hkept : ∀ u, (g u).lastGood = u.lastGood) (s : State) (ys : List (LinkId × Nat)) (l : LinkId) :
    (s.connectAll ys).setLink l (g ((s.connectAll ys).link l)) = (s.setLink l (g (s.link l))).connectAll ys := by
  have hlinks : ((s.connectAll ys).setLink l (g ((s.connectAll ys).link l))).links =
      ((s.setLink l (g (s.link l))).connectAll ys).links := by
    refine links_ext fun k => ?_
    show ((s.connectAll ys).setLink l _).link k = ((s.setLink l _).connectAll ys).link k
    rw [setLink_link, connectAll_link, connectAll_link, connectAll_link, setLink_link]
    split
    next h => rw [h, silenced_comm hg hkept]
    next => rfl
  rw [connectAll_frame ys (s.setLink l _), ← hlinks, connectAll_frame ys s]
  rfl

theorem raise_connectAll (s : State) (ys : List (LinkId × Nat)) (c : AttentionClass) :
    (s.connectAll ys).raise c = (s.raise c).connectAll ys := by
  induction ys generalizing s with
  | nil => rfl
  | cons y ys ih => exact ih (s.connectChannel (some y))

theorem put_connectAll (s : State) (ys : List (LinkId × Nat)) (l : LinkId) (m : Message) :
    (s.connectAll ys).put l m = (s.put l m).connectAll ys := by
  obtain ⟨hstate, htx⟩ := silenced_state ys l (s.link l)
  rw [← connectAll_link] at hstate htx
  by_cases hdown : (s.link l).state = .down
  · rw [put_of_down m hdown, put_of_down m (hstate.trans hdown)]
  unfold State.put
  rw [if_neg hdown, if_neg (by rw [hstate]; exact hdown)]
  by_cases hplaces : (s.link l).tx.length < Config.transmitPlaces
  · rw [if_pos hplaces, if_pos (by rw [htx]; exact hplaces)]
    exact setLink_connectAll (g := fun u => { u with tx := u.tx ++ [m] }) (fun _ _ => rfl) (fun _ => rfl) s ys l
  · rw [if_neg hplaces, if_neg (by rw [htx]; exact hplaces), ← raise_connectAll]
    exact congrArg (State.raise · .fault)
      (setLink_connectAll (g := fun u => { u with txDrops := countUp u.txDrops }) (fun _ _ => rfl) (fun _ => rfl) s ys l)

theorem connectAll_maskedPending (s : State) (ys : List (LinkId × Nat)) :
    (s.connectAll ys).maskedPending = s.maskedPending := by rw [connectAll_frame]; rfl

theorem settle_connectAll (s before : State) (ys : List (LinkId × Nat)) :
    (s.connectAll ys).settle before = (s.settle before).connectAll ys := by
  unfold State.settle
  rw [connectAll_maskedPending, put_connectAll]
  dsimp only
  rw [connectAll_maskedPending, put_connectAll]
  split
  · split <;> rfl
  · rfl

theorem settle_before {s t t' : State} (h : t'.maskedPending = t.maskedPending) : s.settle t' = s.settle t := by
  rw [State.settle, State.settle, h]

theorem removeHead_connectAll (s : State) (ys : List (LinkId × Nat)) (l : LinkId) (e : RxEntry) :
    (s.connectAll ys).removeHead l e = (s.removeHead l e).connectAll ys := by
  have hrx : ((s.connectAll ys).link l).rx = (s.link l).rx := by rw [connectAll_link, silenced_rx]
  unfold State.removeHead
  rw [hrx]
  split
  · refine setLink_connectAll (fun u v => ?_) (fun u => ?_) s ys l
    all_goals
      unfold LinkUnit.dropHead
      cases h : u.holding <;> rfl
  · rfl

/-! ### A command runs a work -/

/-- What stands around the work of a command: it is done over link units `L` like those of `s`; then `w` ends the command,
writing queues alone and sending `more` where there is room. The link units are then those of `base` and what was sent. -/
structure Frames (s : State) (L : Vector LinkUnit 13) (w : State → State) (base : LinkId → LinkUnit)
    (more : List (LinkId × Message)) : Prop where
  alike : s.Alike L
  kept : ∀ k, LinkKept s (s.relinked L) k
  frame : ∀ t : State, w t = { t with links := (w t).links, attention := (w t).attention }
  links : ∀ (t : State) (k : LinkId), LinkKept t (w t) k
  pending : ∀ (t : State) (i : Nat), t.attention.getLsbD i = true → (w t).attention.getLsbD i = true
  connects : ∀ (t : State) (ys : List (LinkId × Nat)), w (t.connectAll ys) = (w t).connectAll ys
  sends : ∀ (u : State) (out : List (LinkId × Message)), u.links = L → u.Room (out ++ more) →
    w (u.sent out) = { u with links := (w (u.sent out)).links } ∧
      ∀ k, (w (u.sent out)).link k = (base k).withTx (outFor k (out ++ more))

/-- Command `i` runs the work `f` in `s`: over link units like those of `s`, then the event ends, then the command. -/
def Runs (i : Instr) (s : State) (f : State → State) (base : LinkId → LinkUnit) (more : List (LinkId × Message)) : Prop :=
  ∃ L w, Frames s L w base more ∧ exec i s = .next (w ((f (s.relinked L)).settle (s.relinked L)))

theorem runs_event {i : Instr} {s : State} {f : State → State} (hexec : exec i s = .next (s.event f)) :
    Runs i s f s.link [] :=
  ⟨s.links, id, ⟨alike_self s, fun k => .refl s k, fun _ => rfl, fun t k => .refl t k, fun _ _ h => h, fun _ _ => rfl, fun u out hu _ =>
    ⟨rfl, fun k => by rw [id, sent_link, link_eq_of_links_eq hu, List.append_nil]⟩⟩, hexec⟩

theorem runs_deliver {i : Instr} {s : State} {l : LinkId} {m : Message} {f : State → State}
    (hexec : exec i s = .next (s.deliver l m f)) (hdel : s.deliverable l m = true) : Runs i s f (s.taking l m) [] := by
  refine ⟨(s.arrived l m).links, fun t => t.removeHead l (.message m),
    ⟨alike_arrived s l m, fun k => ?_, fun t => ?_, fun t k => linkKept_removeHead .., fun t i h => ?_,
      fun t ys => removeHead_connectAll .., fun u out hu _ => ?_⟩, ?_⟩
  · rw [← arrived_eq_relinked]; exact linkKept_arrived ..
  · rw [removeHead_frame]
  · rw [removeHead_frame]; exact h
  · have hhead : (u.link l).rx.head? = some (.message m) := by
      rw [link_eq_of_links_eq hu]; exact arrived_head hdel
    rw [removeHead_sent hhead, List.append_nil]
    exact ⟨rfl, deliversAndSends_sent hu⟩
  · rw [← arrived_eq_relinked]
    exact hexec.trans (congrArg Host.Outcome.next (deliver_of_deliverable f hdel))

theorem runs_party {i : Instr} {s : State} {l : LinkId} {m : Message} {f : State → State}
    (hexec : exec i s = .next (s.deliverParty l m f)) (haddr : m.addr ≠ Config.managementAddress)
    (hdel : s.deliverable l m = true) : Runs i s f (s.taking l m) [] := by
  rw [State.deliverParty, if_neg haddr] at hexec
  exact runs_deliver hexec hdel

theorem runs_lost {s : State} {l : LinkId} (hhead : (s.link l).rx.head? = some .lost) :
    Runs (.lostMarker l) s (fun t => t.clearLost l) (fun k => if k = l then (s.link l).dropHead else s.link k) [] := by
  refine ⟨s.links, fun t => t.removeHead l .lost,
    ⟨alike_self s, fun k => .refl s k, fun t => ?_, fun t k => linkKept_removeHead .., fun t i h => ?_,
      fun t ys => removeHead_connectAll .., fun u out hu _ => ?_⟩, ?_⟩
  · rw [removeHead_frame]
  · rw [removeHead_frame]; exact h
  · have hhead' : ((u.sent out).link l).rx.head? = some .lost := by
      rw [sent_link, link_eq_of_links_eq hu]; exact hhead
    rw [removeHead_of_head hhead', sent_link, dropHead_withTx, setLink_sent]
    refine ⟨rfl, fun k => ?_⟩
    rw [sent_link, setLink_link, link_eq_of_links_eq hu, link_eq_of_links_eq hu, List.append_nil]
  · exact congrArg Host.Outcome.next (if_pos hhead)

/-- A request that is carried out: its work, then its RESULT. -/
theorem runs_request {i : Instr} {s : State} {l : LinkId} {k : Request} {args data : List Octet} {judge : State → Answer}
    {f : State → State} (hexec : exec i s = .next (s.takeRequest k l args judge)) (horigin : s.inOrigin l = true)
    (hdel : s.deliverable l (managementMsg k.code args) = true)
    (hjudge : ∀ L, s.Alike L → judge (s.relinked L) = .done (f (s.relinked L)) data) :
    Runs i s f (s.taking l (managementMsg k.code args)) [(l, resultMsg k.code .ok data)] := by
  have harrived := alike_arrived s l (managementMsg k.code args)
  refine ⟨(s.arrived l (managementMsg k.code args)).links,
    fun t => ((t.put l (resultMsg k.code .ok data)).settle t).removeHead l (.message (managementMsg k.code args)),
    ⟨harrived, fun j => ?_, fun t => ?_, fun t j => ?_, fun t n h => ?_, fun t ys => ?_, fun u out hu hroom => ?_⟩, ?_⟩
  · rw [← arrived_eq_relinked]; exact linkKept_arrived ..
  · rw [removeHead_frame, settle_frame, put_frame]
  · exact ((txKept_put t l j _).trans (txKept_settle _ _ j)).linkKept.trans (linkKept_removeHead ..)
  · rw [removeHead_frame]
    exact settle_keeps_class t (put_keeps_class _ _ _ h)
  · rw [put_connectAll, settle_connectAll, removeHead_connectAll]
    exact congrArg (fun x : State => (x.removeHead l _).connectAll ys) (settle_before (connectAll_maskedPending t ys))
  · have hhead : (u.link l).rx.head? = some (.message (managementMsg k.code args)) := by
      rw [link_eq_of_links_eq hu]; exact arrived_head hdel
    rw [put_sent hroom, settle_of_not_gains (by rw [sent_maskedPending, sent_maskedPending, gains_self]), removeHead_sent hhead]
    exact ⟨rfl, deliversAndSends_sent hu⟩
  · have hdone := hjudge _ harrived
    rw [← arrived_eq_relinked] at hdone ⊢
    have htaken : s.takeRequest k l args judge =
        ((s.arrived l (managementMsg k.code args)).answerRequest l k.code
          (judge (s.arrived l (managementMsg k.code args)))).removeHead l (.message (managementMsg k.code args)) :=
      if_pos ⟨horigin, hdel⟩
    rw [hdone] at htaken
    exact hexec.trans (congrArg Host.Outcome.next htaken)

theorem onCalls_clearWith {k : Cascade} (hk : k.Plain) (s : State) (n : CallNo) (cause : Cause) :
    OnCalls s (s.clearWith k n cause) := EventWorks.onCalls (works_clear hk.works (hk.spares n) s cause trivial trivial)

theorem onCalls_outcomeWith {k : Cascade} (hk : k.Plain) (s : State) (n : CallNo) (cause : Cause) :
    OnCalls s (s.outcomeWith k n cause) := EventWorks.onCalls (works_outcome hk.works (hk.spares n) s cause trivial trivial)

/-! ### What a command leaves, by its work -/

/-- A command whose work is told in closed form and connects the channels `ys`. -/
theorem Runs.connects {i : Instr} {s u : State} {f : State → State} {base : LinkId → LinkUnit}
    {out more notice : List (LinkId × Message)} {ys : List (LinkId × Nat)} (h : Runs i s f base more)
    (hf : s.Room out → ∀ L, s.Alike L → f (s.relinked L) = ((u.relinked L).sent out).connectAll ys)
    (hnotice : noticeOf s u = notice) (hroom : s.Room (out ++ notice ++ more)) :
    ∃ t, exec i s = .next t ∧ t = { u with links := t.links } ∧
      ∀ k, t.link k = (silenced ys k (base k)).withTx (outFor k (out ++ notice ++ more)) := by
  obtain ⟨L, w, hframes, hexec⟩ := h
  have hnotice' : noticeOf (s.relinked L) (u.relinked L) = notice := hnotice
  have hstate := hf (room_of_append_left (room_of_append_left (b := more) hroom)) L hframes.alike
  have hroom' : (u.relinked L).Room (out ++ notice ++ more) := room_of_links (s := s.relinked L) rfl (Alike.room hframes.alike hroom)
  have hsettled := settle_sent (s := s.relinked L) (u := u.relinked L) (out := out)
    (by rw [hnotice']; exact room_of_append_left hroom')
  rw [hnotice'] at hsettled
  obtain ⟨hframe, hlinks⟩ := hframes.sends (u.relinked L) (out ++ notice) rfl hroom'
  rw [hstate, settle_connectAll, hsettled, hframes.connects] at hexec
  refine ⟨_, hexec, ?_, fun k => ?_⟩
  · rw [connectAll_frame, hframe]; rfl
  · rw [connectAll_link, hlinks, silenced_withTx]

/-- A command whose work is told in closed form: what it writes, and its messages in their order. -/
theorem Runs.answers {i : Instr} {s u : State} {f : State → State} {base : LinkId → LinkUnit}
    {out more notice : List (LinkId × Message)} (h : Runs i s f base more)
    (hf : s.Room out → ∀ L, s.Alike L → f (s.relinked L) = (u.relinked L).sent out) (hnotice : noticeOf s u = notice) :
    Answers i s u base (out ++ notice ++ more) := h.connects (ys := []) hf hnotice

/-- A command whose work raises nothing. -/
theorem Runs.answers_quiet {i : Instr} {s u : State} {f : State → State} {base : LinkId → LinkUnit}
    {out : List (LinkId × Message)} (h : Runs i s f base [])
    (hf : s.Room out → ∀ L, s.Alike L → f (s.relinked L) = (u.relinked L).sent out) (hquiet : u.maskedPending = s.maskedPending) : Answers i s u base out := by
  have h := h.answers hf (noticeOf_of_kept hquiet)
  rwa [List.append_nil, List.append_nil] at h

/-- What every command whose work comes to work on calls from `z` leaves. -/
structure Leaves (z x t : State) : Prop where
  keeps : KeepsToCalls z t none
  frame : t = { x with links := t.links, attention := t.attention }
  pending : ∀ i, x.attention.getLsbD i = true → t.attention.getLsbD i = true
  present : ∀ r a, (t.handset r a).present = (z.handset r a).present

theorem Runs.leaves {i : Instr} {s z : State} {f : State → State} {base : LinkId → LinkUnit}
    {more : List (LinkId × Message)} (h : Runs i s f base more) (hlinks : z.links = s.links)
    (hf : ∀ L, s.Alike L → OnCalls (z.relinked L) (f (s.relinked L))) :
    ∃ L t, s.Alike L ∧ exec i s = .next t ∧ Leaves z (f (s.relinked L)) t := by
  obtain ⟨L, w, hframes, hexec⟩ := h
  refine ⟨L, _, hframes.alike, hexec, ?_⟩
  have hcalls := (hf L hframes.alike).trans (onCalls_settle _ (s.relinked L))
  have hkept : ∀ k, LinkKept z (z.relinked L) k := fun k => by
    have hz : z.link k = s.link k := link_eq_of_links_eq hlinks k
    have hk := hframes.kept k
    rw [LinkKept] at hk ⊢
    rw [hz]
    exact hk
  generalize f (s.relinked L) = x at hcalls
  have hsettle := settle_frame x (s.relinked L)
  have hpending : ∀ i, x.attention.getLsbD i = true → (x.settle (s.relinked L)).attention.getLsbD i = true :=
    fun i hi => settle_keeps_class _ hi
  generalize x.settle (s.relinked L) = y at hcalls hsettle hpending
  have hw := hframes.frame y
  refine ⟨⟨?_, fun q => ?_, fun r a _ => ?_, fun k => ((hkept k).trans (hcalls.link k)).trans (hframes.links y k)⟩, ?_,
    fun i hi => hframes.pending y i (hpending i hi), fun r a => ?_⟩
  · rw [hw, hcalls.frame]; rfl
  · rw [hw]; exact hcalls.loggedOn q
  · rw [hw]; exact hcalls.quiet r a
  · rw [hw, hsettle]
  · rw [hw]; exact hcalls.present r a

/-! ### Commands that clear a call (R27) -/

theorem State.StandsNowhere.endDrain {s : State} {n : CallNo} (h : s.StandsNowhere n) : s.endDrain.StandsNowhere n := by
  obtain ⟨hseek, hdesk, hwatch⟩ := h
  refine ⟨fun r => ?_, ?_, fun r a => ?_⟩
  · rw [endDrain_seekQueue]; exact hseek r
  · rw [endDrain_deskQueue]; exact hdesk
  · rw [endDrain_handset]; exact hwatch r a

theorem clearedWith_clear {k : Cascade} (hk : k.Plain) {s : State} {n : CallNo} (cause : Cause)
    (hactive : (s.call n).state ≠ .idle) : ClearedWith s (s.clearWith k n cause) n cause := by
  have hclearing := clearing_call (hk.spares n) s cause
  rw [clearWith_of_active hactive, State.retire]
  refine ⟨?_, ?_⟩
  · rw [endDrain_call, setCall_call_self]
  · generalize s.clearing k n cause = x at hclearing
    exact State.StandsNowhere.endDrain (s := x.setCall n _) hclearing.2

theorem ClearedWith.of_frame {s t u : State} {n : CallNo} {cause : Cause} (h : ClearedWith s t n cause)
    (hu : u = { t with links := u.links, attention := u.attention }) : ClearedWith s u n cause := by
  rw [hu]; exact h

/-! ### The station of a call that clears (R27, R52) -/

/-- A station is free, or engaged by the call that has it for its origin. -/
def State.OwnStation (s : State) (n : CallNo) (p : Fin 4) (st : Fin 2) : Prop :=
  s.station p st = none ∨ ((s.call n).origin = some (.station p st) ∧ s.station p st = some n)

theorem CallMove.ownStation {T K : CallNo → Prop} {s t : State} {n : CallNo} {p : Fin 4} {st : Fin 2}
    (h : CallMove T K s t) (hs : s.OwnStation n p st) : t.OwnStation n p st := by
  have hkept : (t.call n).origin = (s.call n).origin → t.OwnStation n p st := by
    intro ho
    rcases hs with hs | ⟨horigin, hs⟩
    · exact .inl ((h.station_eq p st).elim (fun e => e.trans hs) id)
    · exact (h.station_eq p st).symm.imp id fun e => ⟨ho.trans horigin, e.trans hs⟩
  cases h with
  | record m c _ hm =>
    refine hkept ?_
    rw [setCall_call]
    split
    next e => subst e; exact hm.origin
    next => rfl
  | retire m cause _ _ hx =>
    by_cases e : n = m
    · subst e
      exact .inl (hs.elim id fun e => absurd e.2 (hx p st e.1))
    · exact hkept (by rw [setCall_call_ne _ _ e])
  | reserve m =>
    refine hkept ?_
    rw [setCall_call]
    split
    next e => subst e; rfl
    next => rfl
  | setAside m =>
    refine hkept ?_
    rw [setCall_call]
    split
    next e => subst e; rfl
    next => rfl
  | deskQueue | idleOrder | leavePlaces => exact hkept rfl
  | _ => exact hkept (by simp)

theorem clear_station {s : State} {n : CallNo} {p : Fin 4} {st : Fin 2} (cause : Cause) (hactive : (s.call n).state ≠ .idle)
    (ho : (s.call n).origin = some (.station p st)) (hs : s.station p st = some n) : (s.clear n cause).station p st = none := by
  have hmoves := eventWorks_clear (T := fun _ => True) s (n := n) cause trivial fun _ _ => trivial
  have hown : (s.clear n cause).OwnStation n p st :=
    CallMoves.keeps (P := fun u => u.OwnStation n p st) (fun _ _ hm => hm.ownStation) hmoves (.inr ⟨ho, hs⟩)
  have hended : (s.clear n cause).call n = _ := (clearedWith_clear plain_full (n := n) cause hactive).1
  exact hown.elim id fun e => by rw [hended] at e; exact absurd e.1 nofun

/-! ### A command that clears one call -/

/-- The states that differ from `z` in their link units and their pending set alone. -/
def State.Beside (z x : State) : Prop := x = { z with links := x.links, attention := x.attention }

theorem beside_relinked (z : State) (L : Vector LinkUnit 13) : z.Beside (z.relinked L) := rfl

theorem State.Beside.putAll {z x : State} (h : z.Beside x) (xs : List (LinkId × Message)) : z.Beside (x.putAll xs) := by
  rw [State.Beside, putAll_frame x xs, h]

theorem State.Beside.call {z x : State} (h : z.Beside x) (n : CallNo) : x.call n = z.call n := by rw [h]; rfl

/-- Work `g` that ends call `n` of `z` with a cause: it clears it, and where `Alone` holds it gives up all the call held, with
the messages `xs` and the classes `raised`. -/
structure Ends (z : State) (g : State → State) (n : CallNo) (cause : Cause) (raised : Octet) (xs : List (LinkId × Message))
    (Alone : Prop) : Prop where
  onCalls : ∀ x, z.Beside x → OnCalls x (g x)
  cleared : ∀ x, z.Beside x → ClearedWith z (g x) n cause
  gives : Alone → ∀ b, ∃ u, Does b g z u (b.reached xs) ∧ u.attention = z.attention ||| raised ∧
    ∀ t, t = { u with links := t.links, attention := t.attention } → GivenUp z t n cause

theorem ends_clear {k : Cascade} (hk : k.Plain) {z : State} {n : CallNo} (cause : Cause) (hactive : (z.call n).state ≠ .idle) :
    Ends z (·.clearWith k n cause) n cause 0x00#8 ((z.call n).clearingOut cause) (z.WaitsAlone n ∧ z.StandsNowhere n) where
  onCalls _ _ := onCalls_clearWith hk ..
  cleared x hx := by
    have h := clearedWith_clear hk (s := x) (n := n) cause (by rw [hx.call]; exact hactive)
    exact ⟨by rw [h.1, hx.call], h.2⟩
  gives := by
    rintro ⟨halone, hnowhere⟩ b
    have hquiet := noneWaits_of halone hnowhere
    exact ⟨z.goneCall n cause, does_clear hk cause hquiet hactive halone.2.2.2,
      by rw [goneCall_attention, BitVec.or_zero], fun t ht => goneCall_givenUp cause hquiet ht⟩

theorem clearedWith_outcome {k : Cascade} (hk : k.Plain) {s : State} {n : CallNo} {cause : Cause}
    (hactive : (s.call n).state ≠ .idle) (hforwards : (s.call n).forwards cause = false) :
    ClearedWith s (s.outcomeWith k n cause) n cause := by
  have hcall := (outcoming_call (hk.spares n) s cause).1
  have h := clearedWith_clear hk (s := s.outcoming k n cause) cause (by rw [hcall]; exact hactive)
  rw [outcome_of_not_forwards hactive hforwards]
  exact ⟨by rw [h.1, hcall], h.2⟩

theorem ends_outcome {k : Cascade} (hk : k.Plain) {z : State} {n : CallNo} {cause : Cause}
    (hactive : (z.call n).state ≠ .idle) (hforwards : (z.call n).forwards cause = false) :
    Ends z (·.outcomeWith k n cause) n cause cause.raised ((z.call n).clearingOut cause) (z.WaitsAlone n) where
  onCalls _ _ := onCalls_outcomeWith hk ..
  cleared x hx := by
    have h := clearedWith_outcome hk (s := x) (n := n) (cause := cause) (by rw [hx.call]; exact hactive)
      (by rw [hx.call]; exact hforwards)
    exact ⟨by rw [h.1, hx.call], h.2⟩
  gives halone _ := does_outcome hk halone hactive hforwards

theorem onCalls_putAll (s : State) (xs : List (LinkId × Message)) : OnCalls s (s.putAll xs) :=
  onCalls_foldl xs s fun t x => onCalls_put t x.1 x.2

/-- Messages put before the end of a call. -/
theorem Ends.after_putAll {z : State} {g : State → State} {n : CallNo} {cause : Cause} {raised : Octet}
    {xs : List (LinkId × Message)} {Alone : Prop} (h : Ends z g n cause raised xs Alone) (ys : List (LinkId × Message)) :
    Ends z (fun t => g (t.putAll ys)) n cause raised (ys ++ xs) Alone where
  onCalls x hx := (onCalls_putAll x ys).trans (h.onCalls _ (hx.putAll ys))
  cleared x hx := h.cleared _ (hx.putAll ys)
  gives halone b := by
    obtain ⟨u, hdoes, hrest⟩ := h.gives halone b
    rw [reached_append]
    exact ⟨u, (does_putAll b z ys).comp hdoes, hrest⟩

/-- A command whose work ends call `n` of `z`. -/
theorem Runs.ends {i : Instr} {s z : State} {f g : State → State} {base : LinkId → LinkUnit}
    {more notice xs : List (LinkId × Message)} {n : CallNo} {cause : Cause} {raised : Octet} {Alone : Prop}
    (h : Runs i s f base more) (hlinks : z.links = s.links) (he : Ends z g n cause raised xs Alone)
    (hf : ∀ L, s.Alike L → f (s.relinked L) = g (z.relinked L))
    (hnotice : noticeOf s { z with attention := z.attention ||| raised } = notice) :
    ∃ t L, exec i s = .next t ∧ ClearedWith z t n cause ∧ Leaves z (g (z.relinked L)) t ∧
      (Alone → s.Room (s.reached xs ++ (notice ++ more)) →
        GivenUp z t n cause ∧ t.attention = z.attention ||| raised ∧
          ∀ k, t.link k = (base k).withTx (outFor k (s.reached xs ++ (notice ++ more)))) := by
  obtain ⟨L, t, hL, hexec, hleaves⟩ := h.leaves hlinks fun L hL => by rw [hf L hL]; exact he.onCalls _ (beside_relinked z L)
  rw [hf L hL] at hleaves
  refine ⟨t, L, hexec, (he.cleared _ (beside_relinked z L)).of_frame hleaves.frame, hleaves, fun halone hroom => ?_⟩
  obtain ⟨u, hdoes, hattention, hgiven⟩ := he.gives halone s
  have hparams : u.params = z.params := by rw [(hgiven u rfl).frame]
  have hpending : u.maskedPending = ({ z with attention := z.attention ||| raised } : State).maskedPending := by
    rw [State.maskedPending, State.maskedPending, hattention, hparams]
  have hnotice' : noticeOf s u = notice := by rw [← hnotice, noticeOf, noticeOf, hpending]
  rw [← List.append_assoc] at hroom
  obtain ⟨t', hexec', hframe, hlink⟩ :=
    h.answers (fun hr L hL => (hf L hL).trans (hdoes.apply hr L hL)) hnotice' hroom
  obtain rfl := Host.Outcome.next.inj (hexec.symm.trans hexec')
  refine ⟨hgiven t (by rw [hframe]), ?_, fun k => ?_⟩
  · rw [hframe]; exact hattention
  · rw [hlink, List.append_assoc]

theorem noticeOf_self (s : State) : noticeOf s s = [] := noticeOf_of_kept rfl

theorem raised_of_ne {cause : Cause} (h : cause ≠ .congestion) : cause.raised = 0x00#8 := if_neg h

/-- The same of work that raises no class, by the messages of the call. -/
theorem Runs.ends_quiet {i : Instr} {s z : State} {f g : State → State} {base : LinkId → LinkUnit}
    {more notice : List (LinkId × Message)} {n : CallNo} {cause : Cause} {Alone : Prop} (h : Runs i s f base more)
    (hlinks : z.links = s.links) (he : Ends z g n cause 0x00#8 ((z.call n).clearingOut cause) Alone)
    (halone : z.WaitsAlone n → z.StandsNowhere n → Alone)
    (hf : ∀ L, s.Alike L → f (s.relinked L) = g (z.relinked L)) (hnotice : noticeOf s z = notice) :
    ∃ t L, exec i s = .next t ∧ ClearedWith z t n cause ∧ Leaves z (g (z.relinked L)) t ∧
      ClearsAlone z t n cause base (notice ++ more) := by
  obtain ⟨t, L, hexec, hcleared, hleaves, hgives⟩ := h.ends (notice := notice) hlinks he hf
    (by rw [BitVec.or_zero]; exact hnotice)
  have hreached : z.reached ((z.call n).clearingOut cause) = s.reached ((z.call n).clearingOut cause) :=
    reached_congr (fun k => by rw [link_eq_of_links_eq hlinks]) _
  refine ⟨t, L, hexec, hcleared, hleaves, fun ha hn hroom => ?_⟩
  rw [hreached] at hroom ⊢
  rw [BitVec.or_zero] at hgives
  exact hgives (halone ha hn) (room_of_links hlinks.symm hroom)

/-- A command whose work comes to the clearing of call `n` from `z`. -/
theorem Runs.clears {i : Instr} {s z : State} {f : State → State} {base : LinkId → LinkUnit}
    {more notice : List (LinkId × Message)} {n : CallNo} {cause : Cause} (h : Runs i s f base more)
    {k : Cascade} (hk : k.Plain) (hlinks : z.links = s.links) (hactive : (z.call n).state ≠ .idle)
    (hf : ∀ L, s.Alike L → f (s.relinked L) = (z.relinked L).clearWith k n cause) (hnotice : noticeOf s z = notice) :
    ∃ t L, exec i s = .next t ∧ ClearedWith z t n cause ∧ Leaves z ((z.relinked L).clearWith k n cause) t ∧
      ClearsAlone z t n cause base (notice ++ more) :=
  h.ends_quiet (g := (·.clearWith k n cause)) hlinks (ends_clear hk cause hactive) (fun ha hn => ⟨ha, hn⟩) hf hnotice

/-- A command whose work comes to an outcome of call `n` from `z` that clears it and raises no class. -/
theorem Runs.outcomes {i : Instr} {s z : State} {f : State → State} {base : LinkId → LinkUnit}
    {more notice : List (LinkId × Message)} {n : CallNo} {cause : Cause} (h : Runs i s f base more)
    {k : Cascade} (hk : k.Plain) (hlinks : z.links = s.links) (hactive : (z.call n).state ≠ .idle)
    (hforwards : (z.call n).forwards cause = false) (hcause : cause ≠ .congestion)
    (hf : ∀ L, s.Alike L → f (s.relinked L) = (z.relinked L).outcomeWith k n cause) (hnotice : noticeOf s z = notice) :
    ∃ t L, exec i s = .next t ∧ ClearedWith z t n cause ∧ Leaves z ((z.relinked L).outcomeWith k n cause) t ∧
      ClearsAlone z t n cause base (notice ++ more) := by
  have he : Ends z (·.outcomeWith k n cause) n cause 0x00#8 ((z.call n).clearingOut cause) (z.WaitsAlone n) :=
    raised_of_ne hcause ▸ ends_outcome hk hactive hforwards
  exact h.ends_quiet (g := (·.outcomeWith k n cause)) hlinks he (fun ha _ => ha) hf hnotice

/-! ### The parties whose messages are delivered -/

theorem Runs.congr {i : Instr} {s : State} {f g : State → State} {base : LinkId → LinkUnit}
    {more : List (LinkId × Message)} (h : Runs i s f base more)
    (hfg : ∀ L, s.Alike L → f (s.relinked L) = g (s.relinked L)) : Runs i s g base more := by
  obtain ⟨L, w, hframes, hexec⟩ := h
  rw [hfg L hframes.alike] at hexec
  exact ⟨L, w, hframes, hexec⟩

theorem runs_station {i : Instr} {s : State} {p : Fin 4} {st : Fin 2} {m : Message} {f : Fin 2 → State → State}
    (hexec : exec i s = .next (s.deliverParty (.panel p) m fun t => t.fromStation p (BitVec.ofNat 8 st.val) f))
    (hexists : s.stationExists p (BitVec.ofNat 8 st.val) = true) (haddr : m.addr = BitVec.ofNat 8 st.val)
    (hdel : s.deliverable (.panel p) m = true) : Runs i s (f st) (s.taking (.panel p) m) [] :=
  (runs_party hexec (by rw [haddr]; exact stationAddress_ne_management st) hdel).congr fun L hL =>
    fromStation_of_exists _ (by rw [alike_stationExists hL]; exact hexists)

theorem handsetAddress_ne_management (a : Fin 63) : BitVec.ofNat 8 a.val ≠ Config.managementAddress := by
  revert a; decide

theorem positionAddress_ne_management (q : Fin 6) : BitVec.ofNat 8 q.val ≠ Config.managementAddress := by
  revert q; decide

theorem fromPosition_of_position (s : State) (q : Fin 6) (f : Fin 6 → State → State) :
    s.fromPosition (BitVec.ofNat 8 q.val) f = f q s := by
  have hval : (BitVec.ofNat 8 q.val).toNat = q.val := by rw [BitVec.toNat_ofNat]; omega
  rw [State.fromPosition, dif_pos (by omega)]
  exact congrArg (f · s) (Fin.ext hval)

theorem runs_position {i : Instr} {s : State} {q : Fin 6} {m : Message} {f : Fin 6 → State → State}
    (hexec : exec i s = .next (s.deliverParty .trunk m fun t => t.fromPosition (BitVec.ofNat 8 q.val) f))
    (haddr : m.addr = BitVec.ofNat 8 q.val) (hdel : s.deliverable .trunk m = true) :
    Runs i s (f q) (s.taking .trunk m) [] :=
  (runs_party hexec (by rw [haddr]; exact positionAddress_ne_management q) hdel).congr fun L _ =>
    fromPosition_of_position _ q f

theorem runs_handset {i : Instr} {s : State} {r : Fin 8} {a : Fin 63} {m : Message} {f : State → State}
    (hexec : exec i s = .next (s.deliverParty (.riser r) m fun t => t.fromHandset r a f))
    (haddr : m.addr = BitVec.ofNat 8 a.val) (hdel : s.deliverable (.riser r) m = true) :
    Runs i s (fun t => f (t.notePresence r a)) (s.taking (.riser r) m) [] :=
  runs_party hexec (by rw [haddr]; exact handsetAddress_ne_management a) hdel

theorem runs_talker {i : Instr} {s : State} {y : Talker} {x : Party} {m : Message} {f : Party → State → State}
    (hexec : exec i s = .next (s.deliverParty y.link m fun t => t.fromTalker y f)) (hx : y.party = some x)
    (hheard : s.Heard y) (haddr : m.addr = y.addr) (hdel : s.deliverable y.link m = true) :
    Runs i s (f x) (s.taking y.link m) [] := by
  cases y with
  | handset r a =>
    obtain rfl : Party.handset r a = x := Option.some.inj hx
    exact (runs_handset hexec haddr hdel).congr fun L _ =>
      congrArg (f (.handset r a)) (notePresence_of_heard (s := s.relinked L) hheard)
  | position a =>
    have ha : a.toNat < 6 := hheard
    have haddress : BitVec.ofNat 8 (⟨a.toNat, ha⟩ : Fin 6).val = a := BitVec.ofNat_toNat ..
    obtain rfl : Party.position ⟨a.toNat, ha⟩ = x := by
      have hparty : Talker.party (.position a) = some (.position ⟨a.toNat, ha⟩) := dif_pos ha
      exact Option.some.inj (hparty.symm.trans hx)
    rw [← haddress] at hexec
    exact runs_position (f := fun q => f (.position q)) hexec (by rw [haddr, haddress]; rfl) hdel

end Sys2Proof.Machine
end

section
/-!
PROOF. What the rules of ringing, waiting and the desk hunt do, in closed form (R12a, R15, R75, R86, R99), with the messages
they send kept apart.
-/

namespace Sys2Proof.Machine

/-! ### Progress (R12a) -/

/-- A call whose origin is no station. -/
def CallRecord.FromInside (c : CallRecord) : Prop := ∀ p st, c.origin ≠ some (.station p st)

theorem told_of_station {c : CallRecord} {p : Fin 4} {st : Fin 2} (v : Progress) (h : c.origin = some (.station p st)) :
    c.told v = { c with lastProgress := some v } := by
  unfold CallRecord.told
  split
  · rfl
  next hno => exact absurd h (hno p st)

theorem told_of_fromInside {c : CallRecord} (v : Progress) (h : c.FromInside) : c.told v = c := by
  unfold CallRecord.told
  split
  next p st ho => exact absurd ho (h p st)
  · rfl

theorem telling_of_station {c : CallRecord} {p : Fin 4} {st : Fin 2} (v : Progress) (h : c.origin = some (.station p st)) :
    c.telling v = if c.lastProgress = some v then [] else [(.panel p, progressMsg (BitVec.ofNat 8 st.val) v)] := by
  rw [CallRecord.telling, h]

theorem telling_of_fromInside {c : CallRecord} (v : Progress) (h : c.FromInside) : c.telling v = [] := by
  unfold CallRecord.telling
  split
  next p st ho => exact absurd ho (h p st)
  · rfl

theorem fromInside_or_station (c : CallRecord) : c.FromInside ∨ ∃ p st, c.origin = some (.station p st) := by
  by_cases h : ∃ p st, c.origin = some (.station p st)
  · exact .inr h
  · exact .inl fun p st ho => h ⟨p, st, ho⟩

/-- A station told a value it was told last keeps its record. -/
theorem told_of_lastProgress {c : CallRecord} {v : Progress} (h : c.lastProgress = some v) : c.told v = c := by
  obtain hin | ⟨p, st, ho⟩ := fromInside_or_station c
  · exact told_of_fromInside v hin
  · rw [told_of_station v ho, ← h]

theorem tellProgress_of_fromInside {s : State} {n : CallNo} (h : (s.call n).FromInside) : s.tellProgress n = s := by
  unfold State.tellProgress
  split
  next p st v ho hv => exact absurd ho (h p st)
  · rfl

theorem tellProgress_of_station {s : State} {n : CallNo} {p : Fin 4} {st : Fin 2} {v : Progress}
    (ho : (s.call n).origin = some (.station p st)) (hdue : (s.call n).state.due = some v) :
    s.tellProgress n = if (s.call n).lastProgress = some v then s
      else (s.sendProgress p st v).setCall n { s.call n with lastProgress := some v } := by
  rw [State.tellProgress, ho, hdue]

/-- The station of a call is told the value due. -/
theorem does_tellProgress (b s : State) {n : CallNo} {v : Progress} (hdue : (s.call n).state.due = some v) :
    Does b (·.tellProgress n) s (s.setCall n ((s.call n).told v)) ((s.call n).telling v) := by
  have hkept : s.setCall n (s.call n) = s := setCall_call_eq s n
  obtain hin | ⟨p, st, ho⟩ := fromInside_or_station (s.call n)
  · rw [told_of_fromInside v hin, telling_of_fromInside v hin, hkept]
    exact .pure fun L => tellProgress_of_fromInside (s := s.relinked L) hin
  · rw [telling_of_station v ho]
    by_cases hlast : (s.call n).lastProgress = some v
    · rw [told_of_lastProgress hlast, if_pos hlast, hkept]
      exact .pure fun L => (tellProgress_of_station (s := s.relinked L) ho hdue).trans (if_pos hlast)
    · rw [told_of_station v ho, if_neg hlast]
      intro L pre hL hroom
      refine (tellProgress_of_station (s := (s.relinked L).sent pre) ho hdue).trans ((if_neg hlast).trans ?_)
      exact congrArg (fun t : State => t.setCall n { s.call n with lastProgress := some v })
        (does_put b s _ _ L pre hL hroom)

theorem setCall_setCall (s : State) (n : CallNo) (c c' : CallRecord) : (s.setCall n c).setCall n c' = s.setCall n c' :=
  congrArg (fun v => ({ s with calls := v } : State)) (Vector.set_set ..)

/-- A record written, and its station told the value due. -/
theorem does_setCall_tell (b s : State) {n : CallNo} {c : CallRecord} {v : Progress} (hdue : c.state.due = some v) :
    Does b (fun t => (t.setCall n c).tellProgress n) s (s.setCall n (c.told v)) (c.telling v) := by
  have h := does_tellProgress b (s.setCall n c) (n := n) (v := v) (by rw [setCall_call_self]; exact hdue)
  rw [setCall_call_self, setCall_setCall] at h
  exact h.via fun L => rfl

/-! ### The desk (R15, R86, R99) -/

/-- Call `n` rings position `q`, taken from the head of the idle order before `rest`. -/
def State.ringsDesk (s : State) (n : CallNo) (q : Fin 6) (rest : List (Fin 6)) : State :=
  { s.setPosition q { s.position q with engaged := some n } with
    idleOrder := rest
    calls := s.calls.set n
      { (s.call n).ringingDesk s.params q with waitCount := huntingWait s.params (s.call n).waitCount } }

/-- Call `n` stands at the tail of the desk queue. -/
def State.queuesDesk (s : State) (n : CallNo) : State :=
  { s with
    deskQueue := s.deskQueue ++ [n]
    calls := s.calls.set n
      { (s.call n).told .wait with
        state := .queued, stateCount := none, waitCount := huntingWait s.params (s.call n).waitCount } }

theorem told_ringingDesk (p : Params) (c : CallRecord) (q : Fin 6) (w : Option WaitCount) :
    CallRecord.told
        { c with
          state := .alerting, alerted := [.position q], stateCount := loadState .deskRing (p.deskRing * 10), waitCount := w }
        .ringback =
      { c.ringingDesk p q with waitCount := w } := by
  have hsteps : p.deskRing * 8000 = p.deskRing * 10 * Config.framesPerStep := by rw [Nat.mul_assoc]; rfl
  rw [CallRecord.ringingDesk, loadState, hsteps]
  obtain hin | ⟨p, st, ho⟩ := fromInside_or_station c
  · rw [told_of_fromInside .ringback hin, told_of_fromInside .ringback (by exact hin)]
  · rw [told_of_station .ringback ho, told_of_station .ringback (by exact ho)]

/-- Being told is apart from the other writes of a record that stands for a wait. -/
theorem told_waiting (c : CallRecord) (st : CallState) (e : Option StateCount) (w : Option WaitCount) :
    CallRecord.told { c with state := st, stateCount := e, waitCount := w } .wait =
      { c.told .wait with state := st, stateCount := e, waitCount := w } := by
  obtain hin | ⟨p, st, ho⟩ := fromInside_or_station c
  · rw [told_of_fromInside .wait hin, told_of_fromInside .wait (by exact hin)]
  · rw [told_of_station .wait ho, told_of_station .wait (by exact ho)]

theorem filter_ne_of_not_mem {q : Fin 6} {rest : List (Fin 6)} (h : q ∉ rest) : rest.filter (· ≠ q) = rest :=
  List.filter_eq_self.mpr fun _ hm => decide_eq_true fun e => h (e ▸ hm)

theorem ringPosition_eq {s : State} {n : CallNo} {q : Fin 6} (hq : q ∉ s.idleOrder) :
    s.ringPosition n q =
      (((s.setPosition q { s.position q with engaged := some n }).put .trunk
          (ringPositionMsg (Party.position q).addr n (s.call n).origin)).setCall n
        { s.call n with
          state := .alerting
          alerted := [.position q]
          stateCount := loadState .deskRing (s.params.deskRing * 10) }).tellProgress n := by
  have hengage : s.engage (.position q) n = s.setPosition q { s.position q with engaged := some n } := by
    show ({ s.setPosition q _ with idleOrder := s.idleOrder.filter (· ≠ q) } : State) = _
    rw [filter_ne_of_not_mem hq]
    rfl
  unfold State.ringPosition
  rw [hengage]
  dsimp only
  rw [put_call]
  rfl

theorem does_deskPlace_rings (b : State) {s : State} {n : CallNo} {q : Fin 6} {rest : List (Fin 6)}
    (hactive : (s.call n).state ≠ .idle) (horder : s.idleOrder = q :: rest) (hq : q ∉ rest) :
    Does b (·.deskPlace n) s (s.ringsDesk n q rest) ((s.call n).deskOut n q) := by
  let c := { s.call n with waitCount := huntingWait s.params (s.call n).waitCount }
  let z : State :=
    { s.setPosition q { s.position q with engaged := some n } with idleOrder := rest, calls := s.calls.set n c }
  have htold := told_ringingDesk s.params (s.call n) q (huntingWait s.params (s.call n).waitCount)
  have hrings : z.setCall n { (s.call n).ringingDesk s.params q with
      waitCount := huntingWait s.params (s.call n).waitCount } = s.ringsDesk n q rest :=
    congrArg (fun v => ({ z with calls := v } : State)) (Vector.set_set ..)
  have h := (does_put b z .trunk (ringPositionMsg (Party.position q).addr n (s.call n).origin)).comp
    (does_setCall_tell b z (n := n)
      (c := { c with
        state := .alerting, alerted := [.position q], stateCount := loadState .deskRing (s.params.deskRing * 10) })
      (v := .ringback) rfl)
  rw [htold, hrings] at h
  refine h.via fun L => ?_
  rw [deskPlace_of_cons (s := s.relinked L) hactive horder, ringPosition_eq (by exact hq)]
  have hcall : State.call { (s.relinked L).hunting n with idleOrder := rest } n = c := hunting_call_self ..
  rw [hcall]
  rfl

theorem does_deskPlace_queues (b : State) {s : State} {n : CallNo} (hactive : (s.call n).state ≠ .idle)
    (horder : s.idleOrder = []) : Does b (·.deskPlace n) s (s.queuesDesk n) ((s.call n).telling .wait) := by
  have h := does_setCall_tell b { s with deskQueue := s.deskQueue ++ [n] } (n := n)
    (c := { s.call n with
      state := .queued, stateCount := none, waitCount := huntingWait s.params (s.call n).waitCount }) (v := .wait) rfl
  rw [told_waiting] at h
  refine h.via fun L => ?_
  rw [deskPlace_of_nil (s := s.relinked L) hactive horder, hunting_call_self]
  exact congrArg (State.tellProgress · n) (setCall_setCall ({ s.relinked L with deskQueue := s.deskQueue ++ [n] }) n _ _)

/-! ### Waiting for a channel or a handset (R13, R75) -/

/-- Call `n` stands at the tail of a riser's seek queue. -/
def State.seeksOn (s : State) (n : CallNo) (r : Fin 8) : State :=
  { s.setSeekQueue r (s.seekQueue r ++ [n]) with
    calls := s.calls.set n
      { (s.call n).told .wait with
        state := .seeking, stateCount := none, waitCount := seekingWait s.params (s.call n).waitCount } }

/-- Call `n` stands at the tail of a handset's watch list. -/
def State.campsOn (s : State) (n : CallNo) (r : Fin 8) (a : Fin 63) : State :=
  { s.setHandset r a { s.handset r a with watch := (s.handset r a).watch ++ [n] } with
    calls := s.calls.set n
      { (s.call n).told .wait with
        state := .camped
        stateCount := some ⟨.camp, s.params.campTime * 8000⟩
        waitCount := campedWait (s.call n).waitCount } }

theorem does_enterSeeking (b s : State) (n : CallNo) (r : Fin 8) :
    Does b (·.enterSeeking n r) s (s.seeksOn n r) ((s.call n).telling .wait) := by
  have h := does_setCall_tell b (s.setSeekQueue r (s.seekQueue r ++ [n])) (n := n)
    (c := { s.call n with
      state := .seeking, stateCount := none, waitCount := seekingWait s.params (s.call n).waitCount }) (v := .wait) rfl
  rw [told_waiting] at h
  exact h.via fun L => rfl

theorem does_enterCamped (b s : State) (n : CallNo) (r : Fin 8) (a : Fin 63) :
    Does b (·.enterCamped n r a) s (s.campsOn n r a) ((s.call n).telling .wait) := by
  have h := does_setCall_tell b (s.setHandset r a { s.handset r a with watch := (s.handset r a).watch ++ [n] }) (n := n)
    (c := { s.call n with
      state := .camped
      stateCount := loadState .camp (s.params.campTime * 10)
      waitCount := campedWait (s.call n).waitCount }) (v := .wait) rfl
  have hsteps : loadState .camp (s.params.campTime * 10) = some ⟨.camp, s.params.campTime * 8000⟩ := by
    rw [loadState, Nat.mul_assoc]; rfl
  rw [told_waiting, hsteps] at h
  rw [State.campsOn]
  refine h.via fun L => ?_
  rw [← hsteps]
  rfl

/-! ### The hunt for a position (R15) -/

/-- Messages for which there is room are put in their order. -/
theorem does_putAll_room (b s : State) (xs : List (LinkId × Message)) : Does b (·.putAll xs) s s xs := by
  intro L pre hL hroom
  have hreached : b.reached xs = xs := List.filter_eq_self.mpr fun x hx =>
    decide_eq_true (hroom x (List.mem_append_right pre hx)).1
  have h := does_putAll b s xs L pre hL
  rw [hreached] at h
  exact h hroom

theorem loggedOnCount_eq_zero {s : State} : s.loggedOnCount = 0 ↔ ∀ q, (s.position q).loggedOn = false := by
  rw [State.loggedOnCount, List.countP_eq_zero]
  constructor
  · intro h q
    exact Bool.not_eq_true _ ▸ h (s.position q) (Vector.mem_toList_iff.mpr (Vector.getElem_mem q.isLt))
  · intro h x hx
    obtain ⟨q, hq, rfl⟩ := Vector.mem_iff_getElem.mp (Vector.mem_toList_iff.mp hx)
    exact Bool.not_eq_true _ ▸ h ⟨q, hq⟩

theorem loggedOnCount_ne_zero {s : State} : s.loggedOnCount ≠ 0 ↔ ∃ q, (s.position q).loggedOn = true := by
  simp only [Ne, loggedOnCount_eq_zero, not_forall, Bool.not_eq_false]

theorem hunt_of_none {s : State} (n : CallNo) (h : ∀ q, (s.position q).loggedOn = false) : s.hunt n = s.outcome n .noDesk :=
  if_pos (loggedOnCount_eq_zero.mpr h)

theorem hunt_of_some {s : State} (n : CallNo) (h : ∃ q, (s.position q).loggedOn = true) : s.hunt n = s.deskPlace n :=
  if_neg (loggedOnCount_ne_zero.mpr h)

/-- A command whose work makes call `n` of `z` hunt for a position: with one logged on it is placed behind `pre`, with none it
ends behind `lost`. -/
theorem Runs.huntsDesk {i : Instr} {s z : State} {f g : State → State} {base : LinkId → LinkUnit}
    {pre lost : List (LinkId × Message)} {n : CallNo} {Alone : Prop} (h : Runs i s f base [])
    (hlinks : z.links = s.links) (hpending : z.maskedPending = s.maskedPending) (hactive : (z.call n).state ≠ .idle)
    (hwait : huntingWait z.params (z.call n).waitCount = some ⟨.deskWait, z.params.deskWait * 8000, false⟩)
    (hplace : (∃ k, (z.position k).loggedOn = true) →
      ∀ L, s.Alike L → f (s.relinked L) = ((z.relinked L).putAll pre).deskPlace n)
    (he : Ends z g n .noDesk 0x00#8 (lost ++ (z.call n).clearingOut .noDesk) Alone)
    (halone : z.WaitsAlone n → z.StandsNowhere n → Alone)
    (hnone : (∀ k, (z.position k).loggedOn = false) → ∀ L, s.Alike L → f (s.relinked L) = g (z.relinked L)) :
    HuntsDesk i s z n base pre lost := by
  refine ⟨fun hsome => ⟨fun q rest horder hq => ?_, fun horder => ?_⟩, fun hoff => ?_⟩
  · have hdoes := (does_putAll_room s z pre).comp (does_deskPlace_rings s hactive horder hq)
    have hrings := h.answers_quiet (u := z.ringsDesk n q rest)
      (fun hr L hL => (hplace hsome L hL).trans (hdoes.apply hr L hL)) hpending
    rwa [State.ringsDesk, hwait] at hrings
  · have hdoes := (does_putAll_room s z pre).comp (does_deskPlace_queues s hactive horder)
    have hqueues := h.answers_quiet (u := z.queuesDesk n)
      (fun hr L hL => (hplace hsome L hL).trans (hdoes.apply hr L hL)) hpending
    rwa [State.queuesDesk, hwait] at hqueues
  · obtain ⟨t, L, hexec, hcleared, hleaves, hgives⟩ := h.ends (notice := []) hlinks he (hnone hoff)
      (by rw [BitVec.or_zero]; exact noticeOf_of_kept hpending)
    refine ⟨t, hexec, hcleared, hleaves.keeps, fun ha hn hroom => ?_⟩
    have hreached : s.reached (lost ++ (z.call n).clearingOut .noDesk) =
        lost ++ s.reached ((z.call n).clearingOut .noDesk) := by
      rw [reached_append, reached_of_room (room_of_append_left hroom)]
    rw [hreached, BitVec.or_zero, List.append_nil, List.append_nil] at hgives
    exact hgives (halone ha hn) hroom

end Sys2Proof.Machine
end

section
/-!
PROOF. The positions of the desk: the expiry of a desk ring and the wake of the desk queue (O57), logging on and off (O42).
-/

namespace Sys2Proof.Machine

/-! ### A position comes back to the idle order (R85, R88) -/

/-- A position that is logged on is let go by call `n` and takes the tail of the idle order. -/
def State.returned (s : State) (q : Fin 6) : State :=
  { s.setPosition q { s.position q with engaged := none } with idleOrder := s.idleOrder ++ [q] }

theorem appendIdle_of_not_mem {s : State} {q : Fin 6} (h : q ∉ s.idleOrder) :
    s.appendIdle q = State.wakeDesk { s with idleOrder := s.idleOrder ++ [q] } := by rw [State.appendIdle, if_neg h]

theorem disengage_position {s : State} {n : CallNo} {q : Fin 6} (he : (s.position q).engaged = some n)
    (hon : (s.position q).loggedOn = true) (hq : q ∉ s.idleOrder) :
    s.disengage n (.position q) = (s.returned q).wakeDesk :=
  (if_pos he).trans ((if_pos hon).trans (appendIdle_of_not_mem hq))

theorem disengage_position_off {s : State} {n : CallNo} {q : Fin 6} (he : (s.position q).engaged = some n)
    (hoff : (s.position q).loggedOn = false) :
    s.disengage n (.position q) = s.setPosition q { s.position q with engaged := none } :=
  (if_pos he).trans (if_neg (by rw [hoff]; decide))

/-- The call at the head of the desk queue is woken and rings the position at the head of the idle order. -/
theorem does_wakeDesk (b : State) {s : State} {m : CallNo} {waiting : List CallNo} {q : Fin 6} {rest : List (Fin 6)}
    (hqueue : s.deskQueue = m :: waiting) (hactive : (s.call m).state ≠ .idle) (horder : s.idleOrder = q :: rest)
    (hq : q ∉ rest) :
    Does b State.wakeDesk s (State.ringsDesk { s with deskQueue := waiting } m q rest) ((s.call m).deskOut m q) := by
  have h := does_deskPlace_rings b (s := { s with deskQueue := waiting }) hactive horder hq
  refine h.via fun L => ?_
  unfold State.wakeDesk
  have hqueue' : (s.relinked L).deskQueue = m :: waiting := hqueue
  rw [hqueue']
  rfl

/-- The record of a call that a position no longer rings. -/
def CallRecord.unrung (c : CallRecord) : CallRecord := { c with alerted := [], stateCount := none }

theorem ringingDesk_unrung (p : Params) (c : CallRecord) (q : Fin 6) :
    (c.unrung).ringingDesk p q = c.ringingDesk p q := by
  unfold CallRecord.ringingDesk
  obtain hin | ⟨p, st, ho⟩ := fromInside_or_station c
  · rw [told_of_fromInside .ringback hin, told_of_fromInside .ringback (by exact hin)]; rfl
  · rw [told_of_station .ringback ho, told_of_station .ringback (by exact ho)]; rfl

/-! ### DESK_RING_EXPIRY and the HANGUP of a rung position (R16, R98) -/

/-- Call `n`, no longer rung at position `q`, hunts again. -/
def State.huntsAgain (s : State) (n : CallNo) (q : Fin 6) : State :=
  ((s.setCall n (s.call n).unrung).disengage n (.position q)).hunt n

theorem does_positionReturns {b s u : State} {n : CallNo} {q : Fin 6} {out : List (LinkId × Message)} (reason : StopReason)
    (h : Does b (·.huntsAgain n q) s u out) :
    Does b (·.positionReturns n q reason) s u ((.trunk, ringStopMsg (BitVec.ofNat 8 q.val) reason) :: out) :=
  (does_put b s .trunk (ringStopMsg (BitVec.ofNat 8 q.val) reason)).comp h

/-- The state in which call `n` hunts again after position `q` has come back to the idle order. -/
def State.comesBack (s : State) (n : CallNo) (q : Fin 6) : State := (s.setCall n (s.call n).unrung).returned q

theorem comesBack_call_self (s : State) (n : CallNo) (q : Fin 6) : (s.comesBack n q).call n = (s.call n).unrung :=
  setCall_call_self ..

theorem comesBack_position_self (s : State) (n : CallNo) (q : Fin 6) :
    (s.comesBack n q).position q = { s.position q with engaged := none } := setPosition_position_self ..

theorem huntsAgain_of_on {s : State} {n : CallNo} {q : Fin 6} (he : (s.position q).engaged = some n)
    (hon : (s.position q).loggedOn = true) (hq : q ∉ s.idleOrder) :
    s.huntsAgain n q = (s.comesBack n q).wakeDesk.hunt n :=
  congrArg (State.hunt · n) (disengage_position (s := s.setCall n (s.call n).unrung) he hon hq)

/-- Nobody queues for the desk: the call rings the head of the idle order, to which the position has come back. -/
theorem does_huntsAgain_rings (b : State) {s : State} {n : CallNo} {q q' : Fin 6} {rest : List (Fin 6)}
    (hactive : (s.call n).state ≠ .idle) (he : (s.position q).engaged = some n) (hon : (s.position q).loggedOn = true)
    (hq : q ∉ s.idleOrder) (hdesk : s.deskQueue = []) (horder : s.idleOrder ++ [q] = q' :: rest) (hq' : q' ∉ rest) :
    Does b (·.huntsAgain n q) s ((s.comesBack n q).ringsDesk n q' rest) ((s.call n).deskOut n q') := by
  have hcall := comesBack_call_self s n q
  have h := does_deskPlace_rings b (s := s.comesBack n q) (n := n) (by rw [hcall]; exact hactive) horder hq'
  have hout : ((s.comesBack n q).call n).deskOut n q' = (s.call n).deskOut n q' := by rw [hcall]; rfl
  rw [hout] at h
  refine h.via fun L => ?_
  rw [huntsAgain_of_on (s := s.relinked L) he hon hq, wakeDesk_of_nil (s := (s.relinked L).comesBack n q) hdesk]
  refine hunt_of_some n ⟨q, ?_⟩
  rw [comesBack_position_self]
  exact hon

theorem setPosition_setPosition (s : State) (q : Fin 6) (x y : Position) :
    (s.setPosition q x).setPosition q y = s.setPosition q y :=
  congrArg (fun v => ({ s with positions := v } : State)) (Vector.set_set ..)

theorem setPosition_position_eq (s : State) (q : Fin 6) : s.setPosition q (s.position q) = s := by
  simp [State.setPosition, State.position]

/-- A desk wait that is loaded runs on. -/
theorem ringingDesk_waiting (p : Params) {c : CallRecord} (q : Fin 6) {w : Nat} {h : Bool}
    (hwait : c.waitCount = some ⟨.deskWait, w, h⟩) :
    ({ c.ringingDesk p q with waitCount := huntingWait p c.waitCount } : CallRecord) = c.ringingDesk p q := by
  have hdesk : (c.ringingDesk p q).waitCount = some ⟨.deskWait, w, h⟩ := by
    rw [← hwait, CallRecord.ringingDesk]
    obtain hin | ⟨p, st, ho⟩ := fromInside_or_station c
    · rw [told_of_fromInside .ringback hin]
    · rw [told_of_station .ringback ho]
  rw [hwait, huntingWait, ← hdesk]

theorem ringsDesk_comesBack (s : State) (n : CallNo) (q q' : Fin 6) (rest : List (Fin 6)) :
    (s.comesBack n q).ringsDesk n q' rest =
      { (s.setPosition q { s.position q with engaged := none }).setPosition q'
          { (s.setPosition q { s.position q with engaged := none }).position q' with engaged := some n } with
        idleOrder := rest
        calls := s.calls.set n
          { (s.call n).ringingDesk s.params q' with waitCount := huntingWait s.params (s.call n).waitCount } } := by
  rw [State.ringsDesk, comesBack_call_self, ringingDesk_unrung]
  exact congrArg (fun v => ({ (s.setPosition q { s.position q with engaged := none }).setPosition q'
          { (s.setPosition q { s.position q with engaged := none }).position q' with engaged := some n } with
        idleOrder := rest
        calls := v } : State)) (Vector.set_set ..)

/-- The only free position is rung again. -/
theorem ringsDesk_comesBack_same {s : State} {n : CallNo} {q : Fin 6} {w : Nat} {h : Bool}
    (he : (s.position q).engaged = some n) (hwait : (s.call n).waitCount = some ⟨.deskWait, w, h⟩) (horder : s.idleOrder = []) :
    (s.comesBack n q).ringsDesk n q [] = { s with calls := s.calls.set n ((s.call n).ringingDesk s.params q) } := by
  have hsame : ({ s.position q with engaged := some n } : Position) = s.position q := by rw [← he]
  have hback : (s.setPosition q { s.position q with engaged := none }).setPosition q
      { (s.setPosition q { s.position q with engaged := none }).position q with engaged := some n } = s := by
    rw [setPosition_position_self, setPosition_setPosition]
    show s.setPosition q { s.position q with engaged := some n } = s
    rw [hsame, setPosition_position_eq]
  rw [ringsDesk_comesBack, hback, ringingDesk_waiting s.params q hwait, ← horder]

theorem ringsDesk_comesBack_other {s : State} {n : CallNo} {q q' : Fin 6} {rest : List (Fin 6)} {w : Nat} {h : Bool}
    (hne : q' ≠ q) (hwait : (s.call n).waitCount = some ⟨.deskWait, w, h⟩) :
    (s.comesBack n q).ringsDesk n q' rest =
      { (s.setPosition q { s.position q with engaged := none }).setPosition q' { s.position q' with engaged := some n } with
        idleOrder := rest
        calls := s.calls.set n ((s.call n).ringingDesk s.params q') } := by
  rw [ringsDesk_comesBack, ringingDesk_waiting s.params q' hwait, setPosition_position_ne _ _ hne]

/-- Calls queue for the desk: the head of the queue rings the position, and the call goes to the queue's tail. -/
def State.yieldsDesk (s : State) (n m : CallNo) (waiting : List CallNo) (q : Fin 6) : State :=
  { s.setPosition q { s.position q with engaged := some m } with
    deskQueue := waiting ++ [n]
    calls :=
      (s.calls.set m ((s.call m).ringingDesk s.params q)).set n
        { (s.call n).told .wait with state := .queued, alerted := [], stateCount := none } }

theorem Does.hunt {b s u : State} {n : CallNo} {out : List (LinkId × Message)} (h : Does b (·.deskPlace n) s u out)
    (hon : ∃ q, (s.position q).loggedOn = true) : Does b (·.hunt n) s u out :=
  h.via fun L => hunt_of_some (s := s.relinked L) n hon

theorem told_unrung_queued (c : CallRecord) (p : Params) {w : Nat} {h : Bool} (hwait : c.waitCount = some ⟨.deskWait, w, h⟩) :
    ({ c.unrung.told .wait with state := .queued, stateCount := none, waitCount := huntingWait p c.unrung.waitCount } :
        CallRecord) = { c.told .wait with state := .queued, alerted := [], stateCount := none } := by
  have hkept : huntingWait p c.unrung.waitCount = c.waitCount := by
    show huntingWait p c.waitCount = _
    rw [hwait, huntingWait]
  rw [hkept]
  obtain hin | ⟨i, st, ho⟩ := fromInside_or_station c
  · rw [told_of_fromInside .wait hin, told_of_fromInside .wait (by exact hin)]; rfl
  · rw [told_of_station .wait ho, told_of_station .wait (by exact ho)]; rfl

/-- Call `m` from the head of the desk queue rings the position that call `n` has let go. -/
def State.wokenDesk (s : State) (n m : CallNo) (waiting : List CallNo) (q : Fin 6) : State :=
  { s.setPosition q { s.position q with engaged := some m } with
    deskQueue := waiting
    calls := (s.calls.set m ((s.call m).ringingDesk s.params q)).set n (s.call n).unrung }

theorem ringsDesk_woken {s : State} {n m : CallNo} {waiting : List CallNo} {q : Fin 6} {f : Nat} {k : Bool} (hmn : m ≠ n)
    (horder : s.idleOrder = []) (hmwait : (s.call m).waitCount = some ⟨.deskWait, f, k⟩) :
    State.ringsDesk { s.comesBack n q with deskQueue := waiting } m q [] = s.wokenDesk n m waiting q := by
  have hcall : State.call { s.comesBack n q with deskQueue := waiting } m = s.call m := setCall_call_ne _ _ hmn
  have hposition : State.position { s.comesBack n q with deskQueue := waiting } q = { s.position q with engaged := none } :=
    comesBack_position_self s n q
  have hcalls : (s.calls.set n (s.call n).unrung).set m ((s.call m).ringingDesk s.params q) =
      (s.calls.set m ((s.call m).ringingDesk s.params q)).set n (s.call n).unrung :=
    Vector.set_comm _ _ fun e => hmn (Fin.ext e).symm
  have hpositions : (s.positions.set q { s.position q with engaged := none }).set q { s.position q with engaged := some m } =
      s.positions.set q { s.position q with engaged := some m } := Vector.set_set ..
  have hringing : (({ (s.call m).ringingDesk s.params q with waitCount := huntingWait s.params (s.call m).waitCount } :
      CallRecord)) = (s.call m).ringingDesk s.params q := ringingDesk_waiting s.params q hmwait
  rw [State.ringsDesk, hcall, hposition]
  show ({ s with
    positions := (s.positions.set q { s.position q with engaged := none }).set q { s.position q with engaged := some m }
    deskQueue := waiting
    idleOrder := []
    calls := (s.calls.set n (s.call n).unrung).set m
      { (s.call m).ringingDesk s.params q with waitCount := huntingWait s.params (s.call m).waitCount } } : State) = _
  rw [hringing, hcalls, hpositions, ← horder]
  rfl

theorem does_huntsAgain_yields (b : State) {s : State} {n m : CallNo} {waiting : List CallNo} {q : Fin 6} {w f : Nat}
    {h k : Bool} (hactive : (s.call n).state ≠ .idle) (he : (s.position q).engaged = some n)
    (hon : (s.position q).loggedOn = true) (hdesk : s.deskQueue = m :: waiting) (hmn : m ≠ n) (horder : s.idleOrder = [])
    (hm : (s.call m).state ≠ .idle) (hwait : (s.call n).waitCount = some ⟨.deskWait, w, h⟩)
    (hmwait : (s.call m).waitCount = some ⟨.deskWait, f, k⟩) :
    Does b (·.huntsAgain n q) s (s.yieldsDesk n m waiting q) ((s.call m).deskOut m q ++ (s.call n).telling .wait) := by
  have hcall : (s.comesBack n q).call m = s.call m := setCall_call_ne _ _ hmn
  have horder' : (s.comesBack n q).idleOrder = [q] := by
    show s.idleOrder ++ [q] = [q]
    rw [horder, List.nil_append]
  have hwakes := does_wakeDesk b (s := s.comesBack n q) hdesk (by rw [hcall]; exact hm) horder' List.not_mem_nil
  rw [hcall, ringsDesk_woken hmn horder hmwait] at hwakes
  generalize hz : s.wokenDesk n m waiting q = z at hwakes
  have hcalln : z.call n = (s.call n).unrung := by
    rw [← hz]
    exact Vector.getElem_set_self ..
  have hzon : (z.position q).loggedOn = true := by
    rw [← hz]
    exact (congrArg Position.loggedOn (setPosition_position_self s q _)).trans hon
  have hqueues := (does_deskPlace_queues b (s := z) (n := n) (by rw [hcalln]; exact hactive) (by rw [← hz]; exact horder)).hunt
    ⟨q, hzon⟩
  have htells : (z.call n).telling .wait = (s.call n).telling .wait := by rw [hcalln]; rfl
  have hends : z.queuesDesk n = s.yieldsDesk n m waiting q := by
    rw [State.queuesDesk, hcalln, told_unrung_queued _ _ hwait, ← hz]
    exact congrArg (fun v => ({ s.yieldsDesk n m waiting q with calls := v } : State)) (Vector.set_set ..)
  rw [htells, hends] at hqueues
  refine Does.via (f := (·.huntsAgain n q)) (hwakes.comp hqueues) fun L => ?_
  refine huntsAgain_of_on (s := s.relinked L) he hon ?_
  show q ∉ s.idleOrder
  rw [horder]
  exact List.not_mem_nil

/-- Nobody is logged on: the call ends with NO_DESK. -/
theorem clearedWith_positionReturns {s : State} {n : CallNo} {q : Fin 6} (reason : StopReason)
    (hactive : (s.call n).state ≠ .idle) (he : (s.position q).engaged = some n)
    (hoff : ∀ k, (s.position k).loggedOn = false) : ClearedWith s (s.positionReturns n q reason) n .noDesk := by
  have hframe := put_frame s .trunk (ringStopMsg (BitVec.ofNat 8 q.val) reason)
  have hreturns : s.positionReturns n q reason =
      (s.put .trunk (ringStopMsg (BitVec.ofNat 8 q.val) reason)).huntsAgain n q := rfl
  generalize s.put .trunk (ringStopMsg (BitVec.ofNat 8 q.val) reason) = x at hframe hreturns
  have hcall : x.call n = s.call n := by rw [hframe]; rfl
  have hposition : ∀ k, x.position k = s.position k := fun k => by rw [hframe]; rfl
  have hagain : x.huntsAgain n q =
      ((x.setCall n (x.call n).unrung).setPosition q { x.position q with engaged := none }).outcome n .noDesk := by
    rw [State.huntsAgain, disengage_position_off (s := x.setCall n (x.call n).unrung) (by rw [← he, ← hposition]; rfl)
      (by rw [← hoff q, ← hposition]; rfl)]
    refine hunt_of_none n fun k => ?_
    rw [setPosition_position]
    split
    next => rw [← hoff q, ← hposition]; rfl
    next => rw [← hoff k, ← hposition]; rfl
  rw [hreturns, hagain]
  have hunrung : ((x.setCall n (x.call n).unrung).setPosition q { x.position q with engaged := none }).call n =
      (s.call n).unrung := by rw [← hcall]; exact setCall_call_self ..
  have h := clearedWith_outcome plain_full (n := n) (cause := .noDesk)
    (s := (x.setCall n (x.call n).unrung).setPosition q { x.position q with engaged := none })
    (by rw [hunrung]; exact hactive) (Bool.and_false _)
  rw [ClearedWith, hunrung] at h
  exact h

theorem onCalls_setCall (s : State) (n : CallNo) (c : CallRecord) : OnCalls s (s.setCall n c) :=
  onCalls_of_kept rfl rfl rfl (fun _ _ => ⟨rfl, rfl, rfl⟩) (fun _ => rfl) fun _ h => .inl h

theorem onCalls_huntsAgain (s : State) (n : CallNo) (q : Fin 6) : OnCalls s (s.huntsAgain n q) :=
  (onCalls_setCall s n (s.call n).unrung).trans
    ((eventWorks_disengage _ n (.position q)).onCalls.trans (eventWorks_hunt _ trivial).onCalls)

theorem onCalls_positionReturns (s : State) (n : CallNo) (q : Fin 6) (reason : StopReason) :
    OnCalls s (s.positionReturns n q reason) :=
  (onCalls_put s .trunk (ringStopMsg (BitVec.ofNat 8 q.val) reason)).trans (onCalls_huntsAgain _ n q)

theorem rungPosition_of_alerting {c : CallRecord} {q : Fin 6} (hstate : c.state = .alerting) (ha : c.alerted = [.position q]) :
    c.rungPosition = some q := by rw [CallRecord.rungPosition, hstate, ha]

theorem roleOf_alerted {s : State} {x : Party} {n : CallNo} (he : s.engagedBy x = some n)
    (ho : (s.call n).origin ≠ some x) (hx : x ∈ (s.call n).alerted) : s.roleOf x = some (n, .alerted) := by
  rw [State.roleOf, he]
  show Option.map _ ((s.call n).role x) = _
  rw [CallRecord.role, if_neg ho, if_pos hx]
  rfl

/-- The two commands that return a rung position to the idle order. -/
theorem runs_positionReturns {s : State} {n : CallNo} {q : Fin 6} {i : Instr} {reason : StopReason} {base : LinkId → LinkUnit}
    (hstate : (s.call n).state = .alerting) (ha : (s.call n).alerted = [.position q])
    (he : (s.position q).engaged = some n)
    (hi : (i = .deskRingExpiry n ∧ reason = .timeout ∧ base = s.link ∧ (s.call n).stateCount = some ⟨.deskRing, 0⟩) ∨
      (i = .hangup (.position (BitVec.ofNat 8 q.val)) ∧ reason = .declined ∧ (s.call n).origin ≠ some (.position q) ∧
        base = s.taking .trunk (bareMsg (BitVec.ofNat 8 q.val) 0x13#8) ∧
        s.deliverable .trunk (bareMsg (BitVec.ofNat 8 q.val) 0x13#8) = true)) :
    Runs i s (·.positionReturns n q reason) base [] := by
  obtain ⟨rfl, rfl, rfl, hcount⟩ | ⟨rfl, rfl, ho, rfl, hdel⟩ := hi
  · refine (runs_event (i := .deskRingExpiry n) (f := State.deskRingExpires n) rfl).congr fun L _ => ?_
    have hrung : ((s.relinked L).call n).rungPosition = some q := rungPosition_of_alerting hstate ha
    rw [State.deskRingExpires, hrung]
    exact if_pos (decide_eq_true hcount)
  · refine (runs_position (i := .hangup (.position (BitVec.ofNat 8 q.val))) (f := fun k => State.hangsUp (.position k))
      rfl rfl hdel).congr fun L _ => ?_
    have hrole : (s.relinked L).roleOf (.position q) = some (n, .alerted) :=
      roleOf_alerted (s := s.relinked L) he ho (by rw [show ((s.relinked L).call n).alerted = _ from ha]; exact List.mem_cons_self)
    show State.hangupPosition _ q = _
    rw [State.hangupPosition, hrole]

/-- Settles O57: a rung position comes back to the idle order and its call hunts again; DESK_QUEUE_WAKE rings for the head. -/
theorem deskExpiryAndWakeRingAPosition : Obligations.DeskExpiryAndWakeRingAPosition := by
  refine ⟨fun s n q w h i reason base hstate ha hwait he hi => ?_, ?_⟩
  · have hactive : (s.call n).state ≠ .idle := by rw [hstate]; decide
    have hruns := runs_positionReturns hstate ha he hi
    refine ⟨fun hon => ⟨fun hdesk => ⟨fun horder => ?_, fun q' others horder hq hq' => ?_⟩,
      fun m rest f k hdesk hmn horder hm hmwait => ?_⟩, fun hoff => ?_⟩
    · have hd := does_positionReturns reason (does_huntsAgain_rings s (q' := q) (rest := []) hactive he hon
        (by rw [horder]; exact List.not_mem_nil) hdesk (by rw [horder, List.nil_append]) List.not_mem_nil)
      rw [ringsDesk_comesBack_same he hwait horder] at hd
      exact hruns.answers_quiet hd.apply rfl
    · have hne : q' ≠ q := fun e => hq (by rw [horder, e]; exact List.mem_cons_self)
      have hd := does_positionReturns reason (does_huntsAgain_rings s (q' := q') (rest := others ++ [q]) hactive he hon hq hdesk
        (by rw [horder]; rfl) (by simpa [hne] using hq'))
      rw [ringsDesk_comesBack_other hne hwait] at hd
      exact hruns.answers_quiet hd.apply rfl
    · have hd := does_positionReturns reason (does_huntsAgain_yields s hactive he hon hdesk hmn horder
        (by rw [hm]; decide) hwait hmwait)
      exact hruns.answers_quiet hd.apply rfl
    · obtain ⟨L, t, -, hexec, hleaves⟩ := hruns.leaves (z := s) rfl fun L _ => onCalls_positionReturns ..
      exact ⟨t, hexec, (clearedWith_positionReturns (s := s.relinked L) reason hactive he hoff).of_frame hleaves.frame,
        hleaves.keeps⟩
  · intro s n q rest others p st f h hdesk horder hq hstate ho hlast hwait out hroom
    have hd := does_wakeDesk s hdesk (by rw [hstate]; decide) horder hq
    have hout : (s.call n).deskOut n q = out := by
      rw [CallRecord.deskOut, telling_of_station .ringback ho, hlast, if_neg nofun, ho]
    have hwoken : State.ringsDesk { s with deskQueue := rest } n q others =
        { s.setPosition q { s.position q with engaged := some n } with
          deskQueue := rest, idleOrder := others, calls := s.calls.set n ((s.call n).ringingDesk s.params q) } := by
      rw [← ringingDesk_waiting s.params q hwait]
      rfl
    rw [hout, hwoken, CallRecord.ringingDesk, told_of_station .ringback ho] at hd
    have hruns : Runs .deskQueueWake s State.wakeDesk s.link [] :=
      (runs_event (i := .deskQueueWake) (f := State.wakeQueued) rfl).congr fun L _ => if_neg (by
        rw [show (s.relinked L).idleOrder = q :: others from horder]; exact nofun)
    obtain ⟨t, hexec, hframe, hlinks⟩ := hruns.answers_quiet hd.apply rfl hroom
    exact ⟨t, hexec, hlinks, hframe⟩

end Sys2Proof.Machine
end

section
/-!
PROOF. Logging on and off (O42), with the desk queue handed over when the last position logs off (R65, R89).
-/

namespace Sys2Proof.Machine

/-! ### The desk queue of a desk nobody serves (R89) -/

/-- Nobody queues for a desk that nobody serves. -/
def State.DeskShut (s : State) : Prop := s.deskQueue = [] ∧ ∀ q, (s.position q).loggedOn = false

theorem CallMove.deskShut {T K : CallNo → Prop} {s t : State} (h : CallMove T K s t) (hs : s.DeskShut) : t.DeskShut := by
  obtain ⟨hqueue, hoff⟩ := hs
  refine ⟨?_, fun q => (h.onCalls.loggedOn q).trans (hoff q)⟩
  cases h with
  | deskQueue q _ hon =>
    refine List.eq_nil_iff_forall_not_mem.mpr fun m hm => (hon m hm).elim (fun hmem => ?_) fun hcount => ?_
    · rw [hqueue] at hmem; exact List.not_mem_nil hmem
    · exact hcount (loggedOnCount_eq_zero.mpr hoff)
  | leavePlaces n => rw [leavePlaces_deskQueue, hqueue]; rfl
  | idleOrder => exact hqueue
  | _ => simpa using hqueue

theorem EventWorks.deskShut {T : CallNo → Prop} {s t : State} (h : EventWorks T s t) (hw : ∀ m, s.Waits m → T m)
    (hs : s.DeskShut) : t.DeskShut := CallMoves.keeps (fun _ _ hm => hm.deskShut) (h hw) hs

/-- Calls that wait nowhere take NO_DESK one after another, and each clears with it. -/
theorem foldl_noDesk (ns : List CallNo) : ∀ {s : State}, ns.Nodup → (∀ n ∈ ns, (s.call n).state ≠ .idle) →
    (∀ m, s.Waits m → m ∉ ns) → ∀ n ∈ ns, ClearedWith s (ns.foldl (fun t m => t.outcome m .noDesk) s) n .noDesk := by
  induction ns with
  | nil => exact fun _ _ _ _ hn => absurd hn List.not_mem_nil
  | cons m ns ih =>
    intro s hnodup hactive hwaits n hn
    obtain ⟨hm, hns⟩ := List.nodup_cons.mp hnodup
    have hwaits' : ∀ k, s.Waits k → k ∉ ns := fun k hk hmem => hwaits k hk (List.mem_cons_of_mem m hmem)
    have hmoves := eventWorks_outcome (T := (· ∉ ns)) s (n := m) .noDesk hm hwaits'
    have hcleared := clearedWith_outcome plain_full (s := s) (cause := .noDesk) (hactive m List.mem_cons_self) (Bool.and_false _)
    change ClearedWith s (s.outcome m .noDesk) m .noDesk at hcleared
    have hkept : ∀ k ∈ ns, (s.outcome m .noDesk).call k = s.call k := fun k hk => hmoves.call_of_not fun h => h hk
    rw [List.foldl_cons]
    generalize s.outcome m .noDesk = t at hmoves hcleared hkept
    obtain rfl | hmem := List.mem_cons.mp hn
    · have hspares : Spares n t (ns.foldl (fun t m => t.outcome m .noDesk) t) := works_foldl t fun k hk x =>
        works_outcome (fullSpares n) (fullSpares k) x .noDesk (fun e => hm (e ▸ hk)) trivial
      obtain ⟨hcall, hnowhere⟩ := hspares.spared hcleared.2
      exact ⟨hcall.trans hcleared.1, hnowhere⟩
    · have h := ih hns (fun k hk => by rw [hkept k hk]; exact hactive k (List.mem_cons_of_mem m hk)) (hmoves.waits hwaits') n hmem
      exact ⟨by rw [h.1, hkept n hmem], h.2⟩

/-- A call that stands on the desk queue stands nowhere else. -/
theorem not_waits_of_deskQueue {s : State} (h : PlacesMatch s) {n : CallNo} (hn : n ∈ s.deskQueue) :
    ¬ State.Waits { s with deskQueue := [] } n := by
  have hqueued := (h.queued n).mpr hn
  rintro (⟨r, hr⟩ | hd | ⟨r, a, hw⟩)
  · have hseek := (h.seeking n).mpr ⟨r, hr⟩
    rw [hqueued] at hseek; cases hseek
  · exact List.not_mem_nil hd
  · have hcamp := (h.camped n).mpr ⟨r, a, hw⟩
    rw [hqueued] at hcamp; cases hcamp

theorem clearedWith_handOverQueue {s : State} (h : PlacesMatch s) : ∀ n ∈ s.deskQueue, ClearedWith s s.handOverQueue n .noDesk :=
  foldl_noDesk s.deskQueue (s := { s with deskQueue := [] }) h.once.2.1
    (fun n hn => by
      show (s.call n).state ≠ .idle
      rw [(h.queued n).mpr hn]; exact nofun)
    fun _ hw hn => not_waits_of_deskQueue h hn hw

theorem deskShut_handOverQueue {s : State} (hoff : ∀ q, (s.position q).loggedOn = false) : s.handOverQueue.DeskShut := by
  have hworks : EventWorks (fun _ => True) { s with deskQueue := [] } s.handOverQueue :=
    works_foldl _ fun n _ x => eventWorks_outcome x .noDesk trivial
  exact hworks.deskShut (fun _ _ => trivial) ⟨rfl, hoff⟩

/-! ### LOGON (R64, R88) -/

/-- A position logs on and takes the tail of the idle order. -/
def State.loggingOn (s : State) (q : Fin 6) : State :=
  { s.setPosition q { s.position q with loggedOn := true } with
    idleOrder := s.idleOrder ++ [q], attention := s.attention ||| 0x02#8 }

theorem logsOn_of_off {s : State} {q : Fin 6} (hoff : (s.position q).loggedOn = false) (hq : q ∉ s.idleOrder) :
    s.logsOn q = ((s.loggingOn q).sendReply (.position q) .accepted).wakeDesk := by
  unfold State.logsOn
  rw [if_neg (by rw [hoff]; exact nofun), State.joinIdleOrder,
    if_neg (show q ∉ (s.setLoggedOn q true).idleOrder from hq)]
  rfl

theorem runs_logon {s : State} {q : Fin 6} (hdel : s.deliverable .trunk (bareMsg (BitVec.ofNat 8 q.val) 0x21#8) = true) :
    Runs (.logon (BitVec.ofNat 8 q.val)) s (·.logsOn q) (s.taking .trunk (bareMsg (BitVec.ofNat 8 q.val) 0x21#8)) [] :=
  runs_position (i := .logon (BitVec.ofNat 8 q.val)) (f := State.logsOn) rfl rfl hdel

/-- A work that is one message answers with it. -/
theorem Runs.sends {i : Instr} {s : State} {f : State → State} {base : LinkId → LinkUnit} {l : LinkId} {m : Message}
    (h : Runs i s f base []) (hf : ∀ L, s.Alike L → f (s.relinked L) = (s.relinked L).put l m) :
    Answers i s s base [(l, m)] :=
  h.answers_quiet (fun hr L hL => (hf L hL).trans ((does_put s s l m).apply hr L hL)) rfl

theorem logsOn_of_on {s : State} {q : Fin 6} (hon : (s.position q).loggedOn = true) :
    s.logsOn q = s.put .trunk (replyMsg (BitVec.ofNat 8 q.val) .accepted) := if_pos hon

theorem logon_answers {s : State} {q : Fin 6} (hdel : s.deliverable .trunk (bareMsg (BitVec.ofNat 8 q.val) 0x21#8) = true)
    (hoff : (s.position q).loggedOn = false) (hq : q ∉ s.idleOrder) {u : State} {out : List (LinkId × Message)}
    (hd : Does s State.wakeDesk (s.loggingOn q) u out) (ha : u.attention = s.attention ||| 0x02#8) (hp : u.params = s.params) :
    Answers (.logon (BitVec.ofNat 8 q.val)) s u (s.taking .trunk (bareMsg (BitVec.ofNat 8 q.val) 0x21#8))
      ((.trunk, replyMsg (BitVec.ofNat 8 q.val) .accepted) :: out ++ s.notice 0x02#8) := by
  have hwork := (does_put s (s.loggingOn q) .trunk (replyMsg (BitVec.ofNat 8 q.val) .accepted)).comp hd
  have h := (runs_logon hdel).answers (u := u) (fun hr L hL =>
    (logsOn_of_off (s := s.relinked L) hoff hq).trans (hwork.apply hr L hL)) (noticeOf_raised ha hp)
  rw [List.append_nil] at h
  exact h

/-- The call at the head of the desk queue rings the position that logs on. -/
theorem ringsDesk_loggingOn {s : State} {q : Fin 6} {n : CallNo} {rest : List CallNo} {f : Nat} {h : Bool}
    (hwait : (s.call n).waitCount = some ⟨.deskWait, f, h⟩) (horder : s.idleOrder = []) :
    State.ringsDesk { s.loggingOn q with deskQueue := rest } n q [] =
      { s.setPosition q { s.position q with loggedOn := true, engaged := some n } with
        deskQueue := rest
        attention := s.attention ||| 0x02#8
        calls := s.calls.set n ((s.call n).ringingDesk s.params q) } := by
  have hposition : State.position { s.loggingOn q with deskQueue := rest } q = { s.position q with loggedOn := true } :=
    setPosition_position_self ..
  have hpositions : (s.positions.set q { s.position q with loggedOn := true }).set q
      { s.position q with loggedOn := true, engaged := some n } =
      s.positions.set q { s.position q with loggedOn := true, engaged := some n } := Vector.set_set ..
  rw [State.ringsDesk, hposition]
  show ({ s with
    positions := (s.positions.set q { s.position q with loggedOn := true }).set q
      { s.position q with loggedOn := true, engaged := some n }
    deskQueue := rest
    idleOrder := []
    attention := s.attention ||| 0x02#8
    calls := s.calls.set n
      { (s.call n).ringingDesk s.params q with waitCount := huntingWait s.params (s.call n).waitCount } } : State) = _
  rw [hpositions, ringingDesk_waiting s.params q hwait, ← horder]
  rfl

/-! ### LOGOFF (R65, R89) -/

/-- A position logs off and leaves the idle order. -/
def State.loggingOff (s : State) (q : Fin 6) : State :=
  { s.setPosition q { s.position q with loggedOn := false } with
    idleOrder := s.idleOrder.filter (· ≠ q), attention := s.attention ||| 0x02#8 }

theorem runs_logoff {s : State} {q : Fin 6} (hdel : s.deliverable .trunk (bareMsg (BitVec.ofNat 8 q.val) 0x22#8) = true) :
    Runs (.logoff (BitVec.ofNat 8 q.val)) s (·.logsOff q) (s.taking .trunk (bareMsg (BitVec.ofNat 8 q.val) 0x22#8)) [] :=
  runs_position (i := .logoff (BitVec.ofNat 8 q.val)) (f := State.logsOff) rfl rfl hdel

theorem logsOff_of_engaged {s : State} {q : Fin 6} (h : (s.position q).engaged ≠ none) :
    s.logsOff q = s.put .trunk (replyMsg (BitVec.ofNat 8 q.val) .refused) := if_pos (Option.isSome_iff_ne_none.mpr h)

theorem logsOff_of_off {s : State} {q : Fin 6} (h : (s.position q).engaged = none) (hoff : (s.position q).loggedOn = false) :
    s.logsOff q = s.put .trunk (replyMsg (BitVec.ofNat 8 q.val) .accepted) := by
  rw [State.logsOff, h, hoff]
  rfl

theorem logsOff_of_on {s : State} {q : Fin 6} (h : (s.position q).engaged = none) (hon : (s.position q).loggedOn = true) :
    s.logsOff q =
      if ((s.loggingOff q).put .trunk (replyMsg (BitVec.ofNat 8 q.val) .accepted)).loggedOnCount = 0 then
        ((s.loggingOff q).put .trunk (replyMsg (BitVec.ofNat 8 q.val) .accepted)).handOverQueue
      else (s.loggingOff q).put .trunk (replyMsg (BitVec.ofNat 8 q.val) .accepted) := by
  rw [State.logsOff, h, hon]
  rfl

theorem loggingOff_position (s : State) (q k : Fin 6) :
    ((s.loggingOff q).position k).loggedOn = if k = q then false else (s.position k).loggedOn := by
  show ((s.setPosition q _).position k).loggedOn = _
  rw [setPosition_position]
  split <;> rfl

/-- While a position is logged on, or nobody queues for the desk, a position that logs off hands nothing over. -/
theorem logoff_answers {s : State} {q : Fin 6} (hdel : s.deliverable .trunk (bareMsg (BitVec.ofNat 8 q.val) 0x22#8) = true)
    (he : (s.position q).engaged = none) (hon : (s.position q).loggedOn = true)
    (hother : s.deskQueue = [] ∨ ∃ k, k ≠ q ∧ (s.position k).loggedOn = true) :
    Answers (.logoff (BitVec.ofNat 8 q.val)) s (s.loggingOff q)
      (s.taking .trunk (bareMsg (BitVec.ofNat 8 q.val) 0x22#8))
      ((.trunk, replyMsg (BitVec.ofNat 8 q.val) .accepted) :: s.notice 0x02#8) := by
  have hput := does_put s (s.loggingOff q) .trunk (replyMsg (BitVec.ofNat 8 q.val) .accepted)
  have h := (runs_logoff hdel).answers (u := s.loggingOff q) (out := [(.trunk, replyMsg (BitVec.ofNat 8 q.val) .accepted)])
    (fun hr L hL => ?_) (noticeOf_raised rfl rfl)
  · rw [List.append_nil] at h
    exact h
  · refine Eq.trans ?_ (hput.apply hr L hL)
    refine (logsOff_of_on (s := s.relinked L) he hon).trans ?_
    have hframe := put_frame ((s.relinked L).loggingOff q) .trunk (replyMsg (BitVec.ofNat 8 q.val) .accepted)
    show _ = ((s.relinked L).loggingOff q).put .trunk (replyMsg (BitVec.ofNat 8 q.val) .accepted)
    generalize ((s.relinked L).loggingOff q).put .trunk (replyMsg (BitVec.ofNat 8 q.val) .accepted) = x at hframe
    obtain hempty | ⟨k, hk, hkon⟩ := hother
    · split
      · have hqueue : x.deskQueue = [] := by rw [hframe]; exact hempty
        rw [State.handOverQueue, hqueue, List.foldl_nil, ← hqueue]
      · rfl
    · refine if_neg (loggedOnCount_ne_zero.mpr ⟨k, ?_⟩)
      rw [hframe]
      exact (loggingOff_position s q k).trans (by rw [if_neg hk]; exact hkon)

/-- The last position logs off: its REPLY goes, then the desk queue is handed over. -/
theorem logsOff_of_last {s : State} {q : Fin 6} (he : (s.position q).engaged = none) (hon : (s.position q).loggedOn = true)
    (hlast : ∀ k, k ≠ q → (s.position k).loggedOn = false) :
    s.logsOff q = ((s.loggingOff q).put .trunk (replyMsg (BitVec.ofNat 8 q.val) .accepted)).handOverQueue := by
  refine (logsOff_of_on he hon).trans (if_pos (loggedOnCount_eq_zero.mpr fun k => ?_))
  rw [put_frame]
  refine (loggingOff_position s q k).trans ?_
  split
  next => rfl
  next hk => exact hlast k hk

theorem loggingOff_off {s : State} {q : Fin 6} (hlast : ∀ k, k ≠ q → (s.position k).loggedOn = false) (k : Fin 6) :
    ((s.loggingOff q).position k).loggedOn = false := by
  rw [loggingOff_position]
  split
  next => rfl
  next hk => exact hlast k hk

theorem PlacesMatch.loggingOff {s : State} (h : PlacesMatch s) (L : Vector LinkUnit 13) (q : Fin 6) :
    PlacesMatch ((s.relinked L).loggingOff q) :=
  ⟨h.seeking, h.queued, h.camped, h.oneQueue, h.oneList, h.once, h.targets⟩

theorem PlacesMatch.put {s : State} (h : PlacesMatch s) (l : LinkId) (m : Message) : PlacesMatch (s.put l m) := by
  rw [put_frame]
  exact ⟨h.seeking, h.queued, h.camped, h.oneQueue, h.oneList, h.once, h.targets⟩

/-- What the last position's logging off leaves. -/
theorem logoff_last {s : State} {q : Fin 6} (hdel : s.deliverable .trunk (bareMsg (BitVec.ofNat 8 q.val) 0x22#8) = true)
    (he : (s.position q).engaged = none) (hon : (s.position q).loggedOn = true)
    (hlast : ∀ k, k ≠ q → (s.position k).loggedOn = false) :
    ∃ t, exec (.logoff (BitVec.ofNat 8 q.val)) s = .next t ∧ t.deskQueue = [] ∧ KeepsToCalls (s.loggingOff q) t none ∧
      t.attention.getLsbD 1 = true ∧ (PlacesMatch s → ∀ n ∈ s.deskQueue, ClearedWith s t n .noDesk) := by
  have hwork : ∀ L, (s.relinked L).logsOff q = (((s.relinked L).loggingOff q).put .trunk
      (replyMsg (BitVec.ofNat 8 q.val) .accepted)).handOverQueue := fun L => logsOff_of_last (s := s.relinked L) he hon hlast
  obtain ⟨L, t, -, hexec, hleaves⟩ := (runs_logoff hdel).leaves (z := s.loggingOff q) rfl fun L _ => by
    rw [hwork]
    exact (onCalls_put ..).trans (onCalls_handOverQueue _)
  have hframe := put_frame ((s.relinked L).loggingOff q) .trunk (replyMsg (BitVec.ofNat 8 q.val) .accepted)
  have hcalls := (onCalls_put ((s.relinked L).loggingOff q) .trunk (replyMsg (BitVec.ofNat 8 q.val) .accepted)).trans
    (onCalls_handOverQueue _)
  rw [hwork] at hleaves
  have hplaces : PlacesMatch s → PlacesMatch (((s.relinked L).loggingOff q).put .trunk
      (replyMsg (BitVec.ofNat 8 q.val) .accepted)) := fun h => (h.loggingOff L q).put ..
  generalize ((s.relinked L).loggingOff q).put .trunk (replyMsg (BitVec.ofNat 8 q.val) .accepted) = x at *
  have hpending : ((s.relinked L).loggingOff q).attention.getLsbD 1 = true := by
    show (s.attention ||| 0x02#8).getLsbD 1 = true
    rw [BitVec.getLsbD_or, Bool.or_eq_true_iff]
    exact .inr rfl
  have hshut := deskShut_handOverQueue (s := x) fun k => by rw [hframe]; exact loggingOff_off hlast k
  refine ⟨t, hexec, ?_, hleaves.keeps, hleaves.pending 1 (hcalls.pending 1 hpending), fun h n hn => ?_⟩
  · rw [hleaves.frame]; exact hshut.1
  · have hc := clearedWith_handOverQueue (hplaces h) n (by rw [hframe]; exact hn)
    have hcall : x.call n = s.call n := by rw [hframe]; rfl
    rw [ClearedWith, hcall] at hc
    exact ClearedWith.of_frame hc hleaves.frame

theorem put_withDeskQueue (s : State) (l : LinkId) (m : Message) (queue : List CallNo) :
    ({ s with deskQueue := queue } : State).put l m = { s.put l m with deskQueue := queue } := by
  unfold State.put
  by_cases hdown : (s.link l).state = .down
  · rw [if_pos hdown, if_pos (show (State.link { s with deskQueue := queue } l).state = .down from hdown)]
  · rw [if_neg hdown, if_neg (show ¬ (State.link { s with deskQueue := queue } l).state = .down from hdown)]
    by_cases hroom : (s.link l).tx.length < Config.transmitPlaces
    · rw [if_pos hroom, if_pos (show (State.link { s with deskQueue := queue } l).tx.length < _ from hroom)]
      rfl
    · rw [if_neg hroom, if_neg (show ¬ (State.link { s with deskQueue := queue } l).tx.length < _ from hroom)]
      rfl

theorem noDesk_raises_none : Cause.noDesk.raised = 0x00#8 := rfl

/-- The one call that queued for the desk clears when the last position logs off. -/
theorem logoff_last_one {s t : State} {q : Fin 6} {n : CallNo}
    (hdel : s.deliverable .trunk (bareMsg (BitVec.ofNat 8 q.val) 0x22#8) = true)
    (he : (s.position q).engaged = none) (hon : (s.position q).loggedOn = true)
    (hlast : ∀ k, k ≠ q → (s.position k).loggedOn = false) (hqueue : s.deskQueue = [n]) (hactive : (s.call n).state ≠ .idle)
    (halone : (s.loggingOff q).WaitsAlone n)
    (hroom : s.Room ((.trunk, replyMsg (BitVec.ofNat 8 q.val) .accepted) :: s.reached ((s.call n).clearingOut .noDesk) ++
      s.notice 0x02#8)) (ht : exec (.logoff (BitVec.ofNat 8 q.val)) s = .next t) :
    GivenUp (s.loggingOff q) t n .noDesk ∧ t.attention = s.attention ||| 0x02#8 ∧
      ∀ k, t.link k = (s.taking .trunk (bareMsg (BitVec.ofNat 8 q.val) 0x22#8) k).withTx
        (outFor k ((.trunk, replyMsg (BitVec.ofNat 8 q.val) .accepted) :: s.reached ((s.call n).clearingOut .noDesk) ++
          s.notice 0x02#8)) := by
  have hends := (ends_outcome plain_full (z := { s.loggingOff q with deskQueue := [] }) (n := n) (cause := .noDesk) hactive
    (Bool.and_false _)).after_putAll [(.trunk, replyMsg (BitVec.ofNat 8 q.val) .accepted)]
  have hwork : ∀ L, (s.relinked L).logsOff q =
      (State.put { (s.relinked L).loggingOff q with deskQueue := [] } .trunk
        (replyMsg (BitVec.ofNat 8 q.val) .accepted)).outcome n .noDesk := fun L => by
    refine (logsOff_of_last (s := s.relinked L) he hon hlast).trans ?_
    rw [put_withDeskQueue ((s.relinked L).loggingOff q) .trunk _ []]
    have hframe := put_frame ((s.relinked L).loggingOff q) .trunk (replyMsg (BitVec.ofNat 8 q.val) .accepted)
    generalize ((s.relinked L).loggingOff q).put .trunk (replyMsg (BitVec.ofNat 8 q.val) .accepted) = x at hframe
    have hone : x.deskQueue = [n] := by rw [hframe]; exact hqueue
    rw [State.handOverQueue, hone]
    rfl
  have hnotice : noticeOf s { s.loggingOff q with
      deskQueue := [], attention := (s.loggingOff q).attention ||| Cause.noDesk.raised } = s.notice 0x02#8 :=
    noticeOf_raised (by rw [noDesk_raises_none, BitVec.or_zero]; rfl) rfl
  obtain ⟨t', L, hexec, -, -, hgives⟩ := (runs_logoff hdel).ends (z := { s.loggingOff q with deskQueue := [] }) rfl hends
    (fun L _ => hwork L) hnotice
  obtain rfl := Host.Outcome.next.inj (ht.symm.trans hexec)
  have hreached : s.reached ([(.trunk, replyMsg (BitVec.ofNat 8 q.val) .accepted)] ++ (s.call n).clearingOut .noDesk) =
      (.trunk, replyMsg (BitVec.ofNat 8 q.val) .accepted) :: s.reached ((s.call n).clearingOut .noDesk) :=
    reached_cons_of_up _ _ (hroom _ List.mem_cons_self).1
  obtain ⟨hseek, -, hwatch, hmode⟩ := halone
  rw [show State.call { s.loggingOff q with deskQueue := [] } n = s.call n from rfl, hreached, List.append_nil,
    noDesk_raises_none, BitVec.or_zero] at hgives
  obtain ⟨hgiven, hattention, hlinks⟩ := hgives ⟨hseek, fun _ hm => absurd hm List.not_mem_nil, hwatch, hmode⟩ hroom
  exact ⟨⟨hgiven.frame, hgiven.record, hgiven.others, hgiven.channels, hgiven.stations, hgiven.handsets, hgiven.positions,
    hgiven.idleOrder, hgiven.idle⟩, hattention, hlinks⟩

/-- Settles O42: LOGON and LOGOFF by the position's state, with the wake of the desk queue and its hand-over. -/
theorem logonAndLogoff : Obligations.LogonAndLogoff := by
  intro s q accepted logon logoff taken on off
  refine ⟨fun hdel => ⟨fun hon => (runs_logon hdel).sends fun L _ => logsOn_of_on (s := s.relinked L) hon,
    fun hoff hq => ⟨fun hempty => ?_, fun n rest f h hdesk horder hstate hwait => ?_⟩⟩,
    fun hdel => ⟨fun he => (runs_logoff hdel).sends fun L _ => logsOff_of_engaged (s := s.relinked L) he,
      fun he hoff => (runs_logoff hdel).sends fun L _ => logsOff_of_off (s := s.relinked L) he hoff,
      fun he hon => ⟨logoff_answers hdel he hon, fun hlast => ?_⟩⟩⟩
  · have hd : Does s State.wakeDesk (s.loggingOn q) (s.loggingOn q) [] :=
      .pure fun L => wakeDesk_of_nil (s := (s.loggingOn q).relinked L) hempty
    exact logon_answers hdel hoff hq hd rfl rfl
  · have hd := does_wakeDesk s (s := s.loggingOn q) (m := n) (q := q) (rest := []) hdesk
      (by show (s.call n).state ≠ .idle; rw [hstate]; exact nofun) (by show s.idleOrder ++ [q] = [q]; rw [horder]; rfl)
      List.not_mem_nil
    rw [ringsDesk_loggingOn hwait horder] at hd
    exact logon_answers hdel hoff hq hd rfl rfl
  · obtain ⟨t, hexec, hempty, hkeeps, hraised, hcleared⟩ := logoff_last hdel he hon hlast
    exact ⟨t, hexec, hempty, hkeeps, hraised, hcleared, fun n hqueue hactive halone =>
      fun hroom => logoff_last_one hdel he hon hlast hqueue hactive halone hroom hexec⟩

end Sys2Proof.Machine
end

section
/-!
PROOF. Joining a call and leaving it (O43), and a joined call handed over to its position (R24).
-/

namespace Sys2Proof.Machine

/-! ### JOIN (R23, R120) -/

theorem runs_join {s : State} {q : Fin 6} {number : Octet}
    (hdel : s.deliverable .trunk ⟨BitVec.ofNat 8 q.val, 0x24#8, [number]⟩ = true) :
    Runs (.join (BitVec.ofNat 8 q.val) number) s (State.joins number q)
      (s.taking .trunk ⟨BitVec.ofNat 8 q.val, 0x24#8, [number]⟩) [] :=
  runs_position (i := .join (BitVec.ofNat 8 q.val) number) (f := State.joins number) rfl rfl hdel

theorem joinable_iff (c : CallRecord) :
    c.joinable = true ↔ c.kind = some .entrance ∧ c.state = .talking ∧ c.joined = none ∧
      ∃ r a, c.answerer = some (.handset r a) := by
  have hanswerer : (match c.answerer with
      | some (.handset _ _) => true
      | _ => false) = true ↔ ∃ r a, c.answerer = some (.handset r a) := by
    rcases c.answerer with _ | (_ | _ | _) <;> simp
  unfold CallRecord.joinable
  rw [Bool.and_eq_true_iff, Bool.and_eq_true_iff, Bool.and_eq_true_iff, decide_eq_true_iff, decide_eq_true_iff,
    Option.isNone_iff_eq_none, and_assoc, and_assoc]
  exact and_congr_right fun _ => and_congr_right fun _ => and_congr_right fun _ => hanswerer

theorem free_iff (x : Position) : x.free = true ↔ x.loggedOn = true ∧ x.engaged = none := by
  rw [Position.free, Bool.and_eq_true_iff, Option.isNone_iff_eq_none]

theorem callNo_toNat (n : CallNo) : (BitVec.ofNat 8 n.val).toNat = n.val := by
  rw [BitVec.toNat_ofNat]
  exact Nat.mod_eq_of_lt (Nat.lt_trans n.isLt (by decide))

theorem joinCall_of_joinable {s : State} {n : CallNo} (h : (s.call n).joinable = true) :
    s.joinCall (BitVec.ofNat 8 n.val) = some n := by
  have hn : (⟨(BitVec.ofNat 8 n.val).toNat, by rw [callNo_toNat]; exact n.isLt⟩ : CallNo) = n := Fin.ext (callNo_toNat n)
  rw [State.joinCall, dif_pos (by rw [callNo_toNat]; exact n.isLt), hn, if_pos h]

theorem joinCall_eq_none {s : State} {number : Octet}
    (h : ∀ n : CallNo, number = BitVec.ofNat 8 n.val → (s.call n).joinable = false) : s.joinCall number = none := by
  unfold State.joinCall
  split
  next hn => exact if_neg (by rw [h ⟨number.toNat, hn⟩ (by rw [BitVec.ofNat_toNat, BitVec.setWidth_eq])]; exact nofun)
  next => rfl

theorem joins_refused {s : State} {q : Fin 6} {number : Octet} (h : (s.position q).free = false ∨ s.joinCall number = none) :
    State.joins number q s = s.put .trunk (replyMsg (BitVec.ofNat 8 q.val) .refused) := by
  unfold State.joins
  obtain hbusy | hnone := h
  · rw [hbusy]; rfl
  · split
    · rw [hnone]; rfl
    · rfl

/-- The record of a call that a position has joined (R23, R120). -/
def CallRecord.joinedBy (c : CallRecord) (q : Fin 6) : CallRecord :=
  { c with
    joined := some q
    voice := c.voice.map fun v => { v with mode := .mixed, joinedMeter := some 0, direction := .neutral, hang := 0 } }

theorem joinVoice_eq {s : State} {n : CallNo} {c : CallRecord} (q : Fin 6) (h : s.call n = c) :
    s.joinVoice n q =
      (s.setCall n { c with voice := c.voice.map fun v =>
        { v with mode := .mixed, joinedMeter := some 0, direction := .neutral, hang := 0 } }).connectAll [(.trunk, q.val)] := by
  subst h; rfl

/-- Call `n` joined by position `q`. -/
def State.joining (s : State) (n : CallNo) (q : Fin 6) : State :=
  { s.setPosition q { s.position q with engaged := some n } with
    idleOrder := s.idleOrder.filter (· ≠ q), calls := s.calls.set n ((s.call n).joinedBy q) }

theorem enterJoin_sent {s : State} {n : CallNo} {q : Fin 6}
    (hroom : s.Room [(.trunk, connectMsg (BitVec.ofNat 8 q.val) q.val)]) :
    s.enterJoin n q =
      ((s.joining n q).sent [(.trunk, connectMsg (BitVec.ofNat 8 q.val) q.val)]).connectAll [(.trunk, q.val)] := by
  let x := (s.engage (.position q) n).setCall n { s.call n with joined := some q }
  have hput : x.put .trunk (connectMsg (BitVec.ofNat 8 q.val) q.val) =
      x.sent [(.trunk, connectMsg (BitVec.ofNat 8 q.val) q.val)] := put_of_room_sent (room_of_links (s := s) rfl hroom)
  have hcall : (x.sent [(.trunk, connectMsg (BitVec.ofNat 8 q.val) q.val)]).call n = { s.call n with joined := some q } :=
    setCall_call_self ..
  have henter : s.enterJoin n q = (x.put .trunk (connectMsg (BitVec.ofNat 8 q.val) q.val)).joinVoice n q := rfl
  rw [henter, hput, joinVoice_eq q hcall]
  exact congrArg (State.connectAll · [(LinkId.trunk, q.val)])
    (congrArg (fun v => State.sent { s.engage (.position q) n with calls := v } _) (Vector.set_set ..))

theorem joins_of_joinable {s : State} {q : Fin 6} {n : CallNo} (hfree : (s.position q).free = true)
    (hjoin : (s.call n).joinable = true) : State.joins (BitVec.ofNat 8 n.val) q s = s.enterJoin n q := by
  unfold State.joins
  rw [if_pos hfree, joinCall_of_joinable hjoin]

/-! ### A position leaves the call it has joined (R24, R122) -/

/-- The record of a call that its joined position has left. -/
def CallRecord.unjoined (c : CallRecord) : CallRecord :=
  { c with joined := none, voice := c.voice.map fun _ => CallRecord.freshVoice { c with joined := none } }

theorem disengage_position_idle {s : State} {n : CallNo} {q : Fin 6} (he : (s.position q).engaged = some n)
    (hon : (s.position q).loggedOn = true) (hq : q ∉ s.idleOrder) (hdesk : s.deskQueue = []) :
    s.disengage n (.position q) = s.returned q :=
  (disengage_position he hon hq).trans (wakeDesk_of_nil hdesk)

theorem unjoinVoice_eq {s : State} {n : CallNo} {c : CallRecord} (h : s.call n = c) :
    s.unjoinVoice n = s.setCall n { c with voice := c.voice.map fun _ => c.freshVoice } := by subst h; rfl

theorem does_joinedLeaves (b : State) {s : State} {n : CallNo} {q : Fin 6} (he : (s.position q).engaged = some n)
    (hon : (s.position q).loggedOn = true) (hq : q ∉ s.idleOrder) (hdesk : s.deskQueue = []) :
    Does b (·.joinedLeaves n q) s ((s.setCall n (s.call n).unjoined).returned q)
      [(.trunk, clearMsg (BitVec.ofNat 8 q.val) .normal)] := by
  let z := s.setCall n { s.call n with joined := none }
  have hput := does_put b z .trunk (clearMsg (BitVec.ofNat 8 q.val) .normal)
  have hleaves : Does b (fun t => (t.disengage n (.position q)).unjoinVoice n) z
      ((s.setCall n (s.call n).unjoined).returned q) [] := .pure fun L => by
    rw [disengage_position_idle (s := z.relinked L) he hon hq hdesk,
      unjoinVoice_eq (s := (z.relinked L).returned q) (c := { s.call n with joined := none }) (setCall_call_self ..)]
    exact congrArg (State.returned · q) (setCall_setCall (s.relinked L) n _ _)
  exact (hput.comp_pure hleaves).via fun L => rfl

/-! ### A joined call is handed over (R24, R122) -/

theorem disengage_handset_of_nil {k : Cascade} (hk : k.Plain) {s : State} {n : CallNo} {r : Fin 8} {a : Fin 63}
    (he : (s.handset r a).engaged = some n) (hw : (s.handset r a).watch = []) :
    s.disengageWith k n (.handset r a) = s.setHandset r a { s.handset r a with engaged := none } :=
  (if_pos he).trans (hk.wake (by rw [setHandset_handset_self]; exact hw))

theorem setAside_only {s : State} {n : CallNo} {r : Fin 8} {c : Fin 4} (h : (s.call n).reservations = [(r, c)]) :
    s.setAside n r c = (s.setChannel r c none).setCall n { s.call n with reservations := [] } := by
  rw [setAside_of_mem (by rw [h]; exact List.mem_cons_self), h, List.erase_cons_head]

theorem channelOn_only {c : CallRecord} {r : Fin 8} {ch : Fin 4} (h : c.reservations = [(r, ch)]) :
    c.channelOn r = some ch := by
  rw [CallRecord.channelOn, h, List.find?_cons_of_pos (by simp)]
  rfl

/-- The record of a call handed over to position `q`. -/
def CallRecord.handedTo (c : CallRecord) (q : Fin 6) : CallRecord :=
  { c with
    answerer := some (.position q)
    joined := none
    reservations := []
    voice := c.voice.map fun _ =>
      { mode := .switched, originMeter := 0, answererMeter := 0, joinedMeter := none, direction := .neutral, hang := 0 } }

/-- Call `n` handed over to position `q`: the handset and its channel are free. -/
def State.handingOver (s : State) (n : CallNo) (r : Fin 8) (a : Fin 63) (c : Fin 4) (q : Fin 6) : State :=
  ((s.setHandset r a { s.handset r a with engaged := none }).setChannel r c none).setCall n ((s.call n).handedTo q)

theorem handedOver_of {s t : State} {n : CallNo} {r : Fin 8} {a : Fin 63} {c : Fin 4} {q : Fin 6}
    (h : t = { s.handingOver n r a c q with links := t.links }) : HandedOver s t n r a c q := h

theorem does_handOver (b : State) {s : State} {n : CallNo} {p : Fin 4} {st : Fin 2} {r : Fin 8} {a : Fin 63} {c : Fin 4}
    {q : Fin 6} (ho : (s.call n).origin = some (.station p st)) (hr : (s.call n).reservations = [(r, c)])
    (he : (s.handset r a).engaged = some n) (hw : (s.handset r a).watch = []) (hq : s.seekQueue r = []) :
    Does b (·.handOver n r a q) s (s.handingOver n r a c q) [(.riser r, clearMsg (BitVec.ofNat 8 a.val) .normal)] := by
  let c1 : CallRecord := { s.call n with answerer := some (.position q), joined := none }
  let z := s.setCall n c1
  let y := z.setHandset r a { z.handset r a with engaged := none }
  have hcall : z.call n = c1 := setCall_call_self ..
  have hput := does_put b z (.riser r) (clearMsg (BitVec.ofNat 8 a.val) .normal)
  have hfrees : Does b (fun t => t.disengage n (.handset r a)) z y [] := .pure fun L =>
    disengage_handset_of_nil plain_full (s := z.relinked L) he hw
  have hres : (y.call n).reservations = [(r, c)] := (congrArg CallRecord.reservations hcall).trans hr
  have hends : Does b (fun t => (match (t.call n).channelOn r with
      | some c => t.handBack n (r, c)
      | none => t).unjoinVoice n) y (s.handingOver n r a c q) [] := .pure fun L => by
    have hchannel : ((y.relinked L).call n).channelOn r = some c := channelOn_only hres
    rw [hchannel]
    show ((y.relinked L).handBackWith .full n (r, c)).unjoinVoice n = _
    rw [handBack_of_nil plain_full (s := y.relinked L) (x := (r, c)) hq, setAside_only (s := y.relinked L) hres]
    have hrecord : (y.relinked L).call n = c1 := hcall
    rw [hrecord, unjoinVoice_eq (c := { c1 with reservations := [] }) (setCall_call_self ..), setCall_setCall]
    have hvoice : CallRecord.freshVoice { c1 with reservations := [] } =
        { mode := .switched, originMeter := 0, answererMeter := 0, joinedMeter := none, direction := .neutral, hang := 0 } := by
      have hmode : CallRecord.voiceMode { c1 with reservations := [] } = .switched := by
        refine (if_neg nofun).trans (if_pos ⟨?_, .inl rfl⟩)
        show (s.call n).origin.any Party.isStation = true
        rw [ho]; rfl
      rw [CallRecord.freshVoice, hmode]
    rw [hvoice]
    exact congrArg (fun v => State.relinked { s.handingOver n r a c q with calls := v } L) (Vector.set_set ..)
  exact ((hput.comp_pure hfrees).comp_pure hends).via fun L => rfl

/-! ### The claims about JOIN and the end of a join -/

theorem voiceMode_of_flat {c : CallRecord} {p : Fin 4} {st : Fin 2} {r : Fin 8} {a : Fin 63}
    (ho : c.origin = some (.station p st)) (hw : c.answerer = some (.handset r a)) (hj : c.joined = none) :
    c.voiceMode = if c.resolved.map (·.duplex) = some true then .duplex else .switched := by
  unfold CallRecord.voiceMode
  rw [ho, hw, hj]
  cases hresolved : c.resolved with
  | none => rfl
  | some x => cases hduplex : x.duplex <;> simp [hduplex, Party.isStation, Party.isPosition]

theorem roleOf_of_role {s : State} {x : Party} {n : CallNo} {ro : Role} (he : s.engagedBy x = some n)
    (h : (s.call n).role x = some ro) : s.roleOf x = some (n, ro) := by
  rw [State.roleOf, he]
  show Option.map _ ((s.call n).role x) = _
  rw [h]
  rfl

theorem runs_hangup_position {s : State} {q : Fin 6}
    (hdel : s.deliverable .trunk (bareMsg (BitVec.ofNat 8 q.val) 0x13#8) = true) :
    Runs (.hangup (.position (BitVec.ofNat 8 q.val))) s (·.hangupPosition q)
      (s.taking .trunk (bareMsg (BitVec.ofNat 8 q.val) 0x13#8)) [] :=
  runs_position (i := .hangup (.position (BitVec.ofNat 8 q.val))) (f := fun k => State.hangsUp (.position k)) rfl rfl hdel

theorem runs_hangup_handset {s : State} {r : Fin 8} {a : Fin 63} (hheard : s.Heard (.handset r a))
    (hdel : s.deliverable (.riser r) (bareMsg (BitVec.ofNat 8 a.val) 0x13#8) = true) :
    Runs (.hangup (.handset r a)) s (·.hangupHandset r a)
      (s.taking (.riser r) (bareMsg (BitVec.ofNat 8 a.val) 0x13#8)) [] :=
  runs_talker (i := .hangup (.handset r a)) (y := .handset r a) (x := .handset r a)
    (m := bareMsg (BitVec.ofNat 8 a.val) 0x13#8) (f := State.hangsUp) rfl rfl hheard rfl hdel

/-- HANGUP of the position that has joined a call. -/
theorem hangup_joined {s : State} {n : CallNo} {q : Fin 6} {p : Fin 4} {st : Fin 2} {r : Fin 8} {a : Fin 63}
    (ho : (s.call n).origin = some (.station p st)) (hw : (s.call n).answerer = some (.handset r a))
    (hj : (s.call n).joined = some q) (hon : (s.position q).loggedOn = true) (he : (s.position q).engaged = some n)
    (ha : .position q ∉ (s.call n).alerted) (hq : q ∉ s.idleOrder) (hdesk : s.deskQueue = [])
    (hdel : s.deliverable .trunk (bareMsg (BitVec.ofNat 8 q.val) 0x13#8) = true) :
    Answers (.hangup (.position (BitVec.ofNat 8 q.val))) s ((s.setCall n (s.call n).unjoined).returned q)
      (s.taking .trunk (bareMsg (BitVec.ofNat 8 q.val) 0x13#8)) [(.trunk, clearMsg (BitVec.ofNat 8 q.val) .normal)] := by
  have hrole : s.roleOf (.position q) = some (n, .joined) := by
    refine roleOf_of_role he ?_
    rw [CallRecord.role, ho, hw, hj, if_neg nofun, if_neg ha, if_neg nofun]
    exact if_pos rfl
  refine (runs_hangup_position hdel).answers_quiet (fun hr L hL => ?_) rfl
  refine Eq.trans ?_ ((does_joinedLeaves s he hon hq hdesk).apply hr L hL)
  have hrole' : (s.relinked L).roleOf (.position q) = some (n, .joined) := hrole
  show State.hangupPosition _ q = _
  rw [State.hangupPosition, hrole']

/-- HANGUP of the handset that answered a joined call. -/
theorem hangup_answerer_joined {s : State} {n : CallNo} {q : Fin 6} {p : Fin 4} {st : Fin 2} {r : Fin 8} {a : Fin 63}
    {c : Fin 4} (ho : (s.call n).origin = some (.station p st)) (hj : (s.call n).joined = some q)
    (hrole : s.roleOf (.handset r a) = some (n, .answerer)) (hr : (s.call n).reservations = [(r, c)])
    (hq : s.seekQueue r = []) (hw : (s.handset r a).watch = []) (b : State) :
    Does b (·.hangupHandset r a) s (s.handingOver n r a c q) [(.riser r, clearMsg (BitVec.ofNat 8 a.val) .normal)] := by
  refine (does_handOver b ho hr (roleOf_eq_some hrole).1 hw hq).via fun L => ?_
  have hrole' : (s.relinked L).roleOf (.handset r a) = some (n, .answerer) := hrole
  have hj' : ((s.relinked L).call n).joined = some q := hj
  rw [State.hangupHandset, hrole']
  show (match ((s.relinked L).call n).joined with
    | some q => (s.relinked L).handOver n r a q
    | none => (s.relinked L).clear n .targetHungup) = _
  rw [hj']

theorem silenced_one (l : LinkId) (j : Nat) (k : LinkId) (u : LinkUnit) :
    silenced [(l, j)] k u = if k = l then { u with lastGood := u.lastGood.set j 0x00#8 } else u := rfl

theorem delivered_lastGood (s : State) (l : LinkId) (m : Message) : (s.delivered l m).lastGood = (s.link l).lastGood := by
  have hdrop : ∀ u : LinkUnit, u.dropHead.lastGood = u.lastGood := fun u => by
    unfold LinkUnit.dropHead
    cases u.holding <;> rfl
  have harrived : ((s.arrived l m).link l).lastGood = (s.link l).lastGood := by
    unfold State.arrived
    split
    · rw [setLink_link_self]
    · rfl
  rw [State.delivered, hdrop, harrived]

/-- Settles O43: JOIN is refused or mixes the call, and a join ends with its position or is handed over to it. -/
theorem joinMixesTheCall : Obligations.JoinMixesTheCall := by
  refine ⟨fun s q number hdel hcannot => ?_, ?_, fun s n q p st r a ho hw hj => ⟨fun hon he ha hq hdesk hdel hroom => ?_,
    fun c he hheard ha hr hq hwatch hdel hroom => ?_⟩⟩
  · refine (runs_join hdel).sends fun L _ => joins_refused (s := s.relinked L) ?_
    obtain hoff | hbusy | hlarge | hnone := hcannot
    · refine .inl (Bool.eq_false_iff.mpr fun h => ?_)
      have hon := ((free_iff (s.position q)).mp h).1
      rw [hon] at hoff; cases hoff
    · exact .inl (Bool.eq_false_iff.mpr fun h => hbusy ((free_iff _).mp h).2)
    · refine .inr (joinCall_eq_none (s := s.relinked L) fun n hn => ?_)
      rw [hn, callNo_toNat] at hlarge
      exact absurd n.isLt (by omega)
    · refine .inr (joinCall_eq_none (s := s.relinked L) fun n hn => Bool.eq_false_iff.mpr fun h => ?_)
      obtain ⟨hkind, hstate, hjoined, r, a, hanswerer⟩ := (joinable_iff _).mp h
      exact (hnone n hn).elim (· hkind) fun h => h.elim (· hstate) fun h => h.elim (· hjoined) fun h => h r a hanswerer
  · intro s q n r a v hon he hkind hstate hw hj hv m hdel hroom
    have hfree : (s.position q).free = true := (free_iff _).mpr ⟨hon, he⟩
    have hjoin : (s.call n).joinable = true := (joinable_iff _).mpr ⟨hkind, hstate, hj, r, a, hw⟩
    obtain ⟨t, hexec, hframe, hlinks⟩ := (runs_join (number := BitVec.ofNat 8 n.val) hdel).connects (u := s.joining n q)
      (ys := [(.trunk, q.val)]) (fun hr L hL => (joins_of_joinable (s := s.relinked L) hfree hjoin).trans
        (enterJoin_sent (Alike.room hL hr))) (noticeOf_self _) (by rw [List.append_nil, List.append_nil]; exact hroom)
    refine ⟨t, hexec, fun k => ?_, ?_⟩
    · rw [hlinks, List.append_nil, List.append_nil, silenced_one, State.taking]
      by_cases hk : k = .trunk
      · subst hk
        rw [if_pos rfl, if_pos rfl, if_pos rfl, delivered_lastGood]
      · rw [if_neg hk, if_neg hk, if_neg hk]
    · rw [hframe, State.joining, CallRecord.joinedBy, hv]
      rfl
  · obtain ⟨t, hexec, hframe, hlinks⟩ := hangup_joined ho hw hj hon he ha hq hdesk hdel hroom
    refine ⟨t, hexec, hlinks, ?_⟩
    have hvoice : CallRecord.freshVoice { s.call n with joined := none } =
        { mode := if (s.call n).resolved.map (·.duplex) = some true then .duplex else .switched
          originMeter := 0, answererMeter := 0, joinedMeter := none, direction := .neutral, hang := 0 } := by
      rw [CallRecord.freshVoice, voiceMode_of_flat (c := { s.call n with joined := none }) ho hw rfl]
    rw [hframe, CallRecord.unjoined, hvoice]
    rfl
  · have hrole : s.roleOf (.handset r a) = some (n, .answerer) := by
      refine roleOf_of_role he ?_
      rw [CallRecord.role, ho, hw, if_neg nofun, if_neg ha, if_pos rfl]
    obtain ⟨t, hexec, hframe, hlinks⟩ := (runs_hangup_handset hheard hdel).answers_quiet
      (hangup_answerer_joined ho hj hrole hr hq hwatch s).apply rfl hroom
    exact ⟨t, hexec, hlinks, handedOver_of hframe⟩

end Sys2Proof.Machine
end

section
/-!
PROOF. The calls for the desk (O32): a call created, the hunt it begins, and the refusal where none can be created (R3, R5, R15,
R21).
-/

namespace Sys2Proof.Machine

/-! ### Creation (R3) -/

theorem create_of_firstIdle {s : State} {n : CallNo} (k : CallKind) (st : CallState) (x : Party) (digits : Code)
    (hmode : s.mode = .run) (hidle : s.FirstIdle n) :
    s.create k st x digits = some (n, (s.setCall n (CallRecord.taken k st x digits)).engage x n) := by
  rw [State.create, if_pos hmode, lowestIdle_of_firstIdle hidle]
  rfl

theorem lowestIdle_eq_none {s : State} (h : ∀ n, (s.call n).state ≠ .idle) : s.lowestIdle = none :=
  List.find?_eq_none.mpr fun n _ hn => h n (of_decide_eq_true hn)

/-- No call can be created: the mode is not RUN, or every record holds a call. -/
def State.Full (s : State) : Prop := s.mode ≠ .run ∨ ∀ n, (s.call n).state ≠ .idle

theorem create_of_full {s : State} (k : CallKind) (st : CallState) (x : Party) (digits : Code) (h : s.Full) :
    s.create k st x digits = none := by
  unfold State.create
  split
  next hmode =>
    obtain hno | hactive := h
    · exact absurd hmode hno
    · rw [lowestIdle_eq_none hactive]; rfl
  next => rfl

/-- A command that refuses a call where none can be created. -/
theorem Runs.createsNoCall {i : Instr} {s : State} {l : LinkId} {m : Message} {f : State → State} {closed busy : LinkId × Message}
    (h : Runs i s f (s.taking l m) [])
    (hf : s.Full → ∀ L, s.Alike L → f (s.relinked L) =
      if s.mode = .run then ((s.relinked L).put busy.1 busy.2).raise .congestion else (s.relinked L).put closed.1 closed.2) :
    CreatesNoCall i s l m closed busy := by
  refine ⟨fun hmode hroom => ?_, fun hmode hfull hroom => ?_⟩
  · obtain ⟨t, hexec, hframe, hlinks⟩ := h.answers_quiet (u := s) (fun hr L hL =>
      ((hf (.inl hmode) L hL).trans (if_neg hmode)).trans ((does_put s s closed.1 closed.2).apply hr L hL)) rfl hroom
    exact ⟨t, hexec, hlinks, hframe⟩
  · have hraises : Does s (fun t => (t.put busy.1 busy.2).raise .congestion) s
        { s with attention := s.attention ||| 0x20#8 } [busy] :=
      (does_put s s busy.1 busy.2).comp_pure (g := (·.raise .congestion)) (.pure fun L => rfl)
    obtain ⟨t, hexec, hframe, hlinks⟩ := h.answers (u := { s with attention := s.attention ||| 0x20#8 }) (fun hr L hL =>
      ((hf (.inr hfull) L hL).trans (if_pos hmode)).trans (hraises.apply hr L hL)) (noticeOf_raised rfl rfl)
      (by rw [List.append_nil]; exact hroom)
    rw [List.append_nil] at hlinks
    exact ⟨t, hexec, hlinks, hframe⟩

/-! ### A call that hunts at once (R15) -/

theorem huntingWait_of_none (p : Params) : huntingWait p none = some ⟨.deskWait, p.deskWait * 8000, false⟩ := by
  show some _ = _
  rw [Nat.mul_assoc]
  rfl

/-- A command whose work is the hunt of a call with no wait count. -/
theorem Runs.hunts {i : Instr} {s z : State} {f : State → State} {base : LinkId → LinkUnit} {n : CallNo}
    (h : Runs i s f base []) (hlinks : z.links = s.links) (hpending : z.maskedPending = s.maskedPending)
    (hactive : (z.call n).state ≠ .idle) (hwait : (z.call n).waitCount = none)
    (hf : ∀ L, s.Alike L → f (s.relinked L) = (z.relinked L).hunt n) : HuntsDesk i s z n base [] [] :=
  h.huntsDesk (g := (·.outcomeWith .full n .noDesk)) hlinks hpending hactive
    (by rw [hwait]; exact huntingWait_of_none _)
    (fun hon L hL => (hf L hL).trans (hunt_of_some n hon))
    (ends_outcome plain_full hactive (Bool.and_false _)) (fun ha _ => ha)
    (fun hoff L hL => (hf L hL).trans (hunt_of_none n hoff))

/-! ### The DESK key (R5, R7) -/

theorem goToDesk_eq (t : State) (n : CallNo) :
    t.goToDesk n =
      (t.setCall n { t.call n with digits := [], resolved := some (deskCopy false []), stateCount := none }).hunt n := by
  rw [State.goToDesk, State.takeCopy, setCall_call_self, setCall_setCall]

theorem runs_keyDesk {s : State} {p : Fin 4} {st : Fin 2} (hexists : s.stationExists p (BitVec.ofNat 8 st.val) = true)
    (hdel : s.deliverable (.panel p) (keyMsg (BitVec.ofNat 8 st.val) 0x0C#8) = true) :
    Runs (.keyDesk p (BitVec.ofNat 8 st.val)) s (State.keysDesk p st)
      (s.taking (.panel p) (keyMsg (BitVec.ofNat 8 st.val) 0x0C#8)) [] :=
  runs_station rfl hexists rfl hdel

theorem keysDesk_of_free {s : State} {p : Fin 4} {st : Fin 2} {n : CallNo} (hfree : s.station p st = none)
    (hmode : s.mode = .run) (hidle : s.FirstIdle n) :
    s.keysDesk p st = ((s.setCall n (CallRecord.taken .entrance .queued (.station p st) [])).engage (.station p st) n).goToDesk n := by
  rw [State.keysDesk, hfree]
  dsimp only
  rw [create_of_firstIdle _ _ _ _ hmode hidle]

theorem keyDesk_creates {s : State} {p : Fin 4} {st : Fin 2} {n : CallNo} (hmode : s.mode = .run) (hidle : s.FirstIdle n)
    (hfree : s.station p st = none) (hexists : s.stationExists p (BitVec.ofNat 8 st.val) = true)
    (hdel : s.deliverable (.panel p) (keyMsg (BitVec.ofNat 8 st.val) 0x0C#8) = true) :
    HuntsDesk (.keyDesk p (BitVec.ofNat 8 st.val)) s
      ((s.setStation p st (some n)).setCall n
        { CallRecord.blank with
          state := .queued
          kind := some .entrance
          origin := some (.station p st)
          resolved := some ⟨.desk, false, false, false, 0, []⟩ })
      n (s.taking (.panel p) (keyMsg (BitVec.ofNat 8 st.val) 0x0C#8)) [] [] := by
  refine (runs_keyDesk hexists hdel).hunts rfl rfl ?_ ?_ fun L _ => ?_
  · rw [setCall_call_self]; exact nofun
  · rw [setCall_call_self]; rfl
  · rw [keysDesk_of_free (s := s.relinked L) hfree hmode hidle, goToDesk_eq]
    have hcall : State.call (((s.relinked L).setCall n (CallRecord.taken .entrance .queued (.station p st) [])).engage
        (.station p st) n) n = CallRecord.taken .entrance .queued (.station p st) [] := setCall_call_self ..
    rw [hcall]
    exact congrArg (State.hunt · n) (setCall_setCall ((s.relinked L).setStation p st (some n)) n _ _)

theorem keysDesk_of_dialling {s : State} {p : Fin 4} {st : Fin 2} {n : CallNo} (hs : s.station p st = some n)
    (hstate : (s.call n).state = .dialling) : s.keysDesk p st = s.goToDesk n := by
  rw [State.keysDesk, hs]
  exact if_pos hstate

theorem keyDesk_dialling {s : State} {p : Fin 4} {st : Fin 2} {n : CallNo} (hstate : (s.call n).state = .dialling)
    (hs : s.station p st = some n) (hwait : (s.call n).waitCount = none)
    (hexists : s.stationExists p (BitVec.ofNat 8 st.val) = true)
    (hdel : s.deliverable (.panel p) (keyMsg (BitVec.ofNat 8 st.val) 0x0C#8) = true) :
    HuntsDesk (.keyDesk p (BitVec.ofNat 8 st.val)) s
      (s.setCall n
        { s.call n with
          digits := [], resolved := some ⟨.desk, false, false, false, 0, []⟩, stateCount := none })
      n (s.taking (.panel p) (keyMsg (BitVec.ofNat 8 st.val) 0x0C#8)) [] [] := by
  refine (runs_keyDesk hexists hdel).hunts rfl rfl ?_ ?_ fun L _ => ?_
  · rw [setCall_call_self]; show (s.call n).state ≠ _; rw [hstate]; exact nofun
  · rw [setCall_call_self]; exact hwait
  · rw [keysDesk_of_dialling (s := s.relinked L) hs hstate, goToDesk_eq]
    rfl

theorem keyDesk_refused {s : State} {p : Fin 4} {st : Fin 2} (hfree : s.station p st = none)
    (hexists : s.stationExists p (BitVec.ofNat 8 st.val) = true)
    (hdel : s.deliverable (.panel p) (keyMsg (BitVec.ofNat 8 st.val) 0x0C#8) = true) :
    CreatesNoCall (.keyDesk p (BitVec.ofNat 8 st.val)) s (.panel p) (keyMsg (BitVec.ofNat 8 st.val) 0x0C#8)
      (.panel p, progressMsg (BitVec.ofNat 8 st.val) .closed) (.panel p, progressMsg (BitVec.ofNat 8 st.val) .busy) := by
  refine (runs_keyDesk hexists hdel).createsNoCall fun hfull L _ => ?_
  rw [State.keysDesk, show (s.relinked L).station p st = none from hfree]
  dsimp only
  rw [create_of_full (s := s.relinked L) _ _ _ _ hfull]
  rfl

/-! ### CALL DESK of a handset (R3, R21, R76) -/

/-- The record of a RESIDENT call as it is created. -/
def CallRecord.fromHandset (r : Fin 8) (a : Fin 63) : CallRecord :=
  { CallRecord.blank with
    state := .seeking
    kind := some .resident
    origin := some (.handset r a)
    resolved := some ⟨.desk, false, false, true, 0, []⟩ }

/-- The handset's RESIDENT call `n` as it asks for its channel. -/
def State.asksChannel (s : State) (n : CallNo) (r : Fin 8) (a : Fin 63) : State :=
  (s.setHandset r a { s.handset r a with misses := 0, engaged := some n }).setCall n (.fromHandset r a)

theorem asksChannel_call (s : State) (n : CallNo) (r : Fin 8) (a : Fin 63) :
    (s.asksChannel n r a).call n = .fromHandset r a := setCall_call_self ..

theorem setHandset_setHandset (s : State) (r : Fin 8) (a : Fin 63) (h h' : Handset) :
    (s.setHandset r a h).setHandset r a h' = s.setHandset r a h' := by
  show ({ s with handsets := _ } : State) = { s with handsets := _ }
  have hrow : (s.setHandset r a h).handsets[r] = s.handsets[r].set a h := Vector.getElem_set_self ..
  rw [hrow, Vector.set_set]
  exact congrArg (fun v => ({ s with handsets := v } : State)) (Vector.set_set ..)

theorem notePresence_of_present {s : State} {r : Fin 8} {a : Fin 63} (h : (s.handset r a).present = true) :
    s.notePresence r a = s.setHandset r a { s.handset r a with misses := 0 } := by
  rw [State.notePresence, if_pos h]
  have hsame : ({ s.handset r a with present := true, misses := 0 } : Handset) = { s.handset r a with misses := 0 } := by
    rw [← h]
  rw [hsame]

theorem callsDesk_of_free {s : State} {r : Fin 8} {a : Fin 63} {n : CallNo} (hmode : s.mode = .run)
    (hidle : s.FirstIdle n) (hpresent : (s.handset r a).present = true) (hfree : (s.handset r a).engaged = none) :
    State.callsDesk r a (s.notePresence r a) =
      let t := (s.asksChannel n r a).reserve n r
      if ((t.call n).channelOn r).isSome then if t.loggedOnCount = 0 then t.outcome n .noDesk else t.acceptResident n
      else t.enterSeeking n r := by
  have hnoted : ((s.notePresence r a).handset r a).engaged = none := by
    rw [notePresence_of_present hpresent, setHandset_handset_self]; exact hfree
  rw [State.callsDesk, hnoted, if_neg nofun]
  rw [create_of_firstIdle (s := s.notePresence r a) (n := n) _ _ _ _
    (by rw [notePresence_of_present hpresent]; exact hmode) (by rw [notePresence_of_present hpresent]; exact hidle)]
  dsimp only
  rw [State.placeResident]
  have hasks : (((s.notePresence r a).setCall n (.taken .resident .seeking (.handset r a) [])).engage (.handset r a) n).takeCopy n
      (deskCopy true []) = s.asksChannel n r a := by
    have hcall : ((((s.notePresence r a).setCall n (.taken .resident .seeking (.handset r a) [])).engage (.handset r a) n).call n) =
        .taken .resident .seeking (.handset r a) [] := setCall_call_self ..
    rw [State.takeCopy, hcall, notePresence_of_present hpresent]
    refine (setCall_setCall (((s.setHandset r a _).setHandset r a _)) n _ _).trans ?_
    rw [setHandset_setHandset]
    show State.setCall (s.setHandset r a { (s.setHandset r a _).handset r a with engaged := some n }) n _ = _
    rw [setHandset_handset_self]
    rfl
  rw [hasks]

theorem asksChannel_reserve_of_firstFree {s : State} {n : CallNo} {r : Fin 8} {a : Fin 63} {c : Fin 4} (h : s.FirstFree r c) :
    (s.asksChannel n r a).reserve n r =
      ((s.setHandset r a { s.handset r a with misses := 0, engaged := some n }).setChannel r c (some n)).setCall n
        { CallRecord.fromHandset r a with reservations := [(r, c)] } := by
  rw [State.reserve, asksChannel_call, if_neg nofun, lowestFree_of_firstFree (s := s.asksChannel n r a) h]
  exact setCall_setCall ((s.setHandset r a { s.handset r a with misses := 0, engaged := some n }).setChannel r c (some n)) n _ _

theorem lowestFree_of_full {s : State} {r : Fin 8} (h : ∀ c, s.channel r c ≠ none) : s.lowestFree r = none :=
  List.find?_eq_none.mpr fun c _ hc => h c (Option.isNone_iff_eq_none.mp hc)

theorem asksChannel_reserve_of_full {s : State} {n : CallNo} {r : Fin 8} {a : Fin 63} (h : ∀ c, s.channel r c ≠ none) :
    (s.asksChannel n r a).reserve n r = s.asksChannel n r a := by
  rw [State.reserve, asksChannel_call, if_neg nofun, lowestFree_of_full (s := s.asksChannel n r a) h]

theorem runs_callDesk {s : State} {r : Fin 8} {a : Fin 63}
    (hdel : s.deliverable (.riser r) (bareMsg (BitVec.ofNat 8 a.val) 0x15#8) = true) :
    Runs (.callDesk r a) s (fun t => State.callsDesk r a (t.notePresence r a))
      (s.taking (.riser r) (bareMsg (BitVec.ofNat 8 a.val) 0x15#8)) [] := runs_handset rfl rfl hdel

theorem acceptResident_of_origin {s : State} {n : CallNo} {x : Party} (h : (s.call n).origin = some x) :
    s.acceptResident n = (s.sendReply x .accepted).deskPlace n := by rw [State.acceptResident, h]

theorem callDesk_hunts {s : State} {n : CallNo} {r : Fin 8} {a : Fin 63} {c : Fin 4} (hmode : s.mode = .run)
    (hidle : s.FirstIdle n) (hpresent : (s.handset r a).present = true) (hfree : (s.handset r a).engaged = none)
    (hdel : s.deliverable (.riser r) (bareMsg (BitVec.ofNat 8 a.val) 0x15#8) = true) (hc : s.FirstFree r c) :
    HuntsDesk (.callDesk r a) s
      (((s.setHandset r a { s.handset r a with misses := 0, engaged := some n }).setChannel r c (some n)).setCall n
        { CallRecord.fromHandset r a with reservations := [(r, c)] })
      n (s.taking (.riser r) (bareMsg (BitVec.ofNat 8 a.val) 0x15#8))
      [(.riser r, replyMsg (BitVec.ofNat 8 a.val) .accepted)] [] := by
  have hchannel : CallRecord.channelOn { CallRecord.fromHandset r a with reservations := [(r, c)] } r = some c :=
    channelOn_only rfl
  have hwork : ∀ L, State.callsDesk r a ((s.relinked L).notePresence r a) =
      let t := State.relinked (((s.setHandset r a { s.handset r a with misses := 0, engaged := some n }).setChannel r c
        (some n)).setCall n { CallRecord.fromHandset r a with reservations := [(r, c)] }) L
      if t.loggedOnCount = 0 then t.outcome n .noDesk else t.acceptResident n := by
    intro L
    rw [callsDesk_of_free (s := s.relinked L) hmode hidle hpresent hfree,
      asksChannel_reserve_of_firstFree (s := s.relinked L) hc]
    dsimp only
    rw [setCall_call_self, hchannel]
    rfl
  refine (runs_callDesk hdel).huntsDesk (g := (·.outcomeWith .full n .noDesk)) rfl rfl ?_ ?_ (fun hon L _ => ?_)
    (ends_outcome plain_full ?_ ?_) (fun ha _ => ha) fun hoff L _ => ?_
  · rw [setCall_call_self]; exact nofun
  · rw [setCall_call_self]; exact huntingWait_of_none _
  · refine (hwork L).trans ((if_neg (loggedOnCount_ne_zero.mpr hon)).trans ?_)
    exact acceptResident_of_origin (x := .handset r a) (congrArg CallRecord.origin (setCall_call_self ..))
  · rw [setCall_call_self]; exact nofun
  · exact Bool.and_false _
  · exact (hwork L).trans (if_pos (loggedOnCount_eq_zero.mpr hoff))

theorem callDesk_seeks {s : State} {n : CallNo} {r : Fin 8} {a : Fin 63} (hmode : s.mode = .run)
    (hidle : s.FirstIdle n) (hpresent : (s.handset r a).present = true) (hfree : (s.handset r a).engaged = none)
    (hdel : s.deliverable (.riser r) (bareMsg (BitVec.ofNat 8 a.val) 0x15#8) = true) (hfull : ∀ c, s.channel r c ≠ none) :
    Answers (.callDesk r a) s
      { ((s.setHandset r a { s.handset r a with misses := 0, engaged := some n }).setSeekQueue r (s.seekQueue r ++ [n])) with
        calls := s.calls.set n
          { CallRecord.fromHandset r a with waitCount := some ⟨.seek, s.params.seekTime * 8000, false⟩ } }
      (s.taking (.riser r) (bareMsg (BitVec.ofNat 8 a.val) 0x15#8)) [] := by
  have hwait : seekingWait s.params none = some ⟨.seek, s.params.seekTime * 8000, false⟩ := by
    show some _ = _
    rw [Nat.mul_assoc]; rfl
  have hrecord : ({ (CallRecord.fromHandset r a).told .wait with
      state := .seeking, stateCount := none, waitCount := seekingWait s.params none } : CallRecord) =
      { CallRecord.fromHandset r a with waitCount := some ⟨.seek, s.params.seekTime * 8000, false⟩ } := by
    rw [hwait]; rfl
  have hseeks : (s.asksChannel n r a).seeksOn n r =
      { ((s.setHandset r a { s.handset r a with misses := 0, engaged := some n }).setSeekQueue r (s.seekQueue r ++ [n])) with
        calls := s.calls.set n
          { CallRecord.fromHandset r a with waitCount := some ⟨.seek, s.params.seekTime * 8000, false⟩ } } := by
    rw [State.seeksOn, asksChannel_call, ← hrecord]
    exact congrArg (fun v => ({ ((s.setHandset r a _).setSeekQueue r (s.seekQueue r ++ [n])) with calls := v } : State))
      (Vector.set_set ..)
  have hdoes := does_enterSeeking s (s.asksChannel n r a) n r
  rw [asksChannel_call, hseeks] at hdoes
  refine (runs_callDesk hdel).answers_quiet (fun hr L hL => Eq.trans ?_ (hdoes.apply hr L hL)) rfl
  rw [callsDesk_of_free (s := s.relinked L) hmode hidle hpresent hfree, asksChannel_reserve_of_full (s := s.relinked L) hfull]
  dsimp only
  rw [asksChannel_call]
  rfl

theorem runs_callDesk_heard {s : State} {r : Fin 8} {a : Fin 63} (hheard : s.Heard (.handset r a))
    (hdel : s.deliverable (.riser r) (bareMsg (BitVec.ofNat 8 a.val) 0x15#8) = true) :
    Runs (.callDesk r a) s (State.callsDesk r a) (s.taking (.riser r) (bareMsg (BitVec.ofNat 8 a.val) 0x15#8)) [] :=
  (runs_callDesk hdel).congr fun L _ => congrArg (State.callsDesk r a) (notePresence_of_heard (s := s.relinked L) hheard)

theorem callDesk_refused {s : State} {r : Fin 8} {a : Fin 63} (hheard : s.Heard (.handset r a))
    (hdel : s.deliverable (.riser r) (bareMsg (BitVec.ofNat 8 a.val) 0x15#8) = true) (hfree : (s.handset r a).engaged = none) :
    CreatesNoCall (.callDesk r a) s (.riser r) (bareMsg (BitVec.ofNat 8 a.val) 0x15#8)
      (.riser r, replyMsg (BitVec.ofNat 8 a.val) .refused) (.riser r, replyMsg (BitVec.ofNat 8 a.val) .refused) := by
  refine (runs_callDesk_heard hheard hdel).createsNoCall fun hfull L _ => ?_
  rw [State.callsDesk, show ((s.relinked L).handset r a).engaged = none from hfree, if_neg nofun,
    create_of_full (s := s.relinked L) _ _ _ _ hfull]
  rfl

theorem callDesk_of_engaged {s : State} {r : Fin 8} {a : Fin 63} (hheard : s.Heard (.handset r a))
    (hdel : s.deliverable (.riser r) (bareMsg (BitVec.ofNat 8 a.val) 0x15#8) = true)
    (he : (s.handset r a).engaged ≠ none) :
    Answers (.callDesk r a) s s (s.taking (.riser r) (bareMsg (BitVec.ofNat 8 a.val) 0x15#8))
      [(.riser r, replyMsg (BitVec.ofNat 8 a.val) .refused)] :=
  (runs_callDesk_heard hheard hdel).answers_quiet (fun hr L hL =>
    (if_pos (Option.isSome_iff_ne_none.mpr he)).trans ((does_put s s _ _).apply hr L hL)) rfl

/-- Settles O32: a call for the desk is created (or found DIALLING) in one closed form and hunts; where none can be created the
caller is refused. -/
theorem deskCallsRingTheHead : Obligations.DeskCallsRingTheHead := by
  unfold Obligations.DeskCallsRingTheHead
  refine ⟨fun s n hmode hidle => ⟨fun p st hfree hexists hdel => keyDesk_creates hmode hidle hfree hexists hdel,
    fun r a hpresent hfree hdel => ⟨fun c hc => callDesk_hunts hmode hidle hpresent hfree hdel hc,
      callDesk_seeks hmode hidle hpresent hfree hdel⟩⟩,
    fun s n p st hstate hs _ hwait hexists hdel => keyDesk_dialling hstate hs hwait hexists hdel,
    fun s p st hfree hexists hdel => keyDesk_refused hfree hexists hdel,
    fun s r a hheard hdel => ⟨callDesk_refused hheard hdel, fun he hroom => ?_⟩⟩
  obtain ⟨t, hexec, hframe, hlinks⟩ := callDesk_of_engaged hheard hdel he hroom
  exact ⟨t, hexec, hlinks, hframe⟩

end Sys2Proof.Machine
end

section
/-!
PROOF. The target check of a call to a flat, in closed form (R10, R11, R13, R14, R73, R74): the channels it takes, the handsets
it rings, the place it waits on, or the outcome it takes.
-/

namespace Sys2Proof.Machine

/-! ### Reservations (R73) -/

/-- The channels a call takes that asks for one on the riser of each member, where `free` gives each riser's lowest FREE one. -/
def heldOn (free : Fin 8 → Option (Fin 4)) (ms : List (Fin 8 × Fin 63)) : List (Fin 8 × Fin 4) :=
  ((ms.map (·.1)).eraseDups).filterMap fun r => (free r).map fun ch => (r, ch)

theorem mem_heldOn {free : Fin 8 → Option (Fin 4)} {ms : List (Fin 8 × Fin 63)} {r : Fin 8} {ch : Fin 4} :
    (r, ch) ∈ heldOn free ms ↔ r ∈ ms.map (·.1) ∧ free r = some ch := by
  rw [heldOn, List.mem_filterMap]
  constructor
  · rintro ⟨r', hr', he⟩
    obtain ⟨ch', hch, he⟩ := Option.map_eq_some_iff.mp he
    obtain ⟨rfl, rfl⟩ := Prod.mk.inj he
    exact ⟨List.mem_eraseDups.mp hr', hch⟩
  · rintro ⟨hr, hch⟩
    exact ⟨r, List.mem_eraseDups.mpr hr, by rw [hch]; rfl⟩

theorem heldOn_concat_of_mem {free : Fin 8 → Option (Fin 4)} {ms : List (Fin 8 × Fin 63)} {m : Fin 8 × Fin 63}
    (h : m.1 ∈ ms.map (·.1)) : heldOn free (ms ++ [m]) = heldOn free ms := by
  have hnone : [m.1].removeAll (ms.map (·.1)) = [] := by simpa [List.removeAll] using h
  rw [heldOn, List.map_append, List.eraseDups_append]
  show List.filterMap _ (_ ++ ([m.1].removeAll (ms.map (·.1))).eraseDups) = _
  rw [hnone, List.eraseDups_nil, List.append_nil]
  rfl

theorem heldOn_concat_of_not_mem {free : Fin 8 → Option (Fin 4)} {ms : List (Fin 8 × Fin 63)} {m : Fin 8 × Fin 63}
    (h : m.1 ∉ ms.map (·.1)) :
    heldOn free (ms ++ [m]) = heldOn free ms ++ ((free m.1).map fun ch => (m.1, ch)).toList := by
  have hone : [m.1].removeAll (ms.map (·.1)) = [m.1] := by simpa [List.removeAll] using h
  rw [heldOn, List.map_append, List.eraseDups_append]
  show List.filterMap _ (_ ++ ([m.1].removeAll (ms.map (·.1))).eraseDups) = _
  rw [hone, List.filterMap_append]
  cases hf : free m.1 <;> simp [hf, heldOn, List.eraseDups_cons]

theorem channelOn_isSome {c : CallRecord} {r : Fin 8} : (c.channelOn r).isSome = true ↔ ∃ ch, (r, ch) ∈ c.reservations := by
  rw [CallRecord.channelOn, Option.isSome_map, List.find?_isSome]
  constructor
  · rintro ⟨⟨r', ch⟩, hm, he⟩
    obtain rfl := of_decide_eq_true he
    exact ⟨ch, hm⟩
  · rintro ⟨ch, hm⟩
    exact ⟨(r, ch), hm, decide_eq_true rfl⟩

/-- A call that held no channel, once it has asked for one on the riser of each member. -/
structure Reserved (s t : State) (n : CallNo) (rs : List (Fin 8 × Fin 4)) : Prop where
  frame : t = { s with channels := t.channels, calls := s.calls.set n { s.call n with reservations := rs } }
  channels : ∀ r c, t.channel r c = if (r, c) ∈ rs then some n else s.channel r c

theorem Reserved.call {s t : State} {n : CallNo} {rs : List (Fin 8 × Fin 4)} (h : Reserved s t n rs) :
    t.call n = { s.call n with reservations := rs } := by rw [h.frame]; exact setCall_call_self s n _

/-- A riser on which a call holds no channel shows it the same FREE ones. -/
theorem Reserved.lowestFree {s t : State} {n : CallNo} {rs : List (Fin 8 × Fin 4)} (h : Reserved s t n rs) {r : Fin 8}
    (hr : ∀ ch, (r, ch) ∉ rs) : t.lowestFree r = s.lowestFree r := by
  have hsame : (fun c => (t.channel r c).isNone) = fun c => (s.channel r c).isNone :=
    funext fun c => by rw [h.channels, if_neg (hr c)]
  rw [State.lowestFree, State.lowestFree, hsame]

theorem reserve_of_held {s : State} {n : CallNo} {r : Fin 8} {ch : Fin 4} (h : (r, ch) ∈ (s.call n).reservations) :
    s.reserve n r = s := if_pos (channelOn_isSome.mpr ⟨ch, h⟩)

theorem reserve_of_lowest {s : State} {n : CallNo} {r : Fin 8} {ch : Fin 4} (hno : ∀ ch, (r, ch) ∉ (s.call n).reservations)
    (h : s.lowestFree r = some ch) :
    s.reserve n r = (s.setChannel r ch (some n)).setCall n
      { s.call n with reservations := (s.call n).reservations ++ [(r, ch)] } := by
  rw [State.reserve, if_neg fun e => (channelOn_isSome.mp e).elim hno, h]

theorem reserve_of_none {s : State} {n : CallNo} {r : Fin 8} (hno : ∀ ch, (r, ch) ∉ (s.call n).reservations)
    (h : s.lowestFree r = none) : s.reserve n r = s := by
  rw [State.reserve, if_neg fun e => (channelOn_isSome.mp e).elim hno, h]

theorem Reserved.reserve {s t : State} {n : CallNo} {rs : List (Fin 8 × Fin 4)} (h : Reserved s t n rs) {r : Fin 8}
    {ch : Fin 4} (hno : ∀ ch, (r, ch) ∉ rs) (hch : s.lowestFree r = some ch) :
    Reserved s (t.reserve n r) n (rs ++ [(r, ch)]) := by
  have hcall := h.call
  have hrs : (t.call n).reservations = rs := by rw [hcall]
  rw [reserve_of_lowest (by rw [hrs]; exact hno) ((h.lowestFree hno).trans hch), hcall]
  refine ⟨?_, fun r' c' => ?_⟩
  · rw [h.frame]
    exact congrArg (fun v => ({ s with channels := _, calls := v } : State)) (Vector.set_set ..)
  · rw [setCall_channel, setChannel_channel, h.channels]
    by_cases he : (r', c') = (r, ch)
    · obtain ⟨rfl, rfl⟩ := Prod.mk.inj he
      simp
    · have hne : ¬ (r' = r ∧ c' = ch) := fun e => he (Prod.ext e.1 e.2)
      simp [hne]

theorem Reserved.refl {s : State} {n : CallNo} (h : (s.call n).reservations = []) : Reserved s s n [] := by
  have hsame : ({ s.call n with reservations := [] } : CallRecord) = s.call n := by rw [← h]
  refine ⟨?_, fun r c => (if_neg List.not_mem_nil).symm⟩
  rw [hsame]
  exact (setCall_call_eq s n).symm

/-- Call `n` asks for a channel on the riser of each member, in list order. -/
def State.reserveAll (s : State) (n : CallNo) (ms : List (Fin 8 × Fin 63)) : State := ms.foldl (fun t m => t.reserve n m.1) s

theorem reserveAll_concat (s : State) (n : CallNo) (ms : List (Fin 8 × Fin 63)) (m : Fin 8 × Fin 63) :
    s.reserveAll n (ms ++ [m]) = (s.reserveAll n ms).reserve n m.1 := by
  rw [State.reserveAll, List.foldl_append]; rfl

theorem reserveAll_reserved {s : State} {n : CallNo} (hnone : (s.call n).reservations = []) (ms : List (Fin 8 × Fin 63)) :
    Reserved s (s.reserveAll n ms) n (heldOn s.lowestFree ms) := by
  induction ms using List.reverseRecOn with
  | nil => exact Reserved.refl hnone
  | append_singleton ms m ih =>
    rw [reserveAll_concat]
    generalize s.reserveAll n ms = t at ih
    have hrs : (t.call n).reservations = heldOn s.lowestFree ms := by rw [ih.call]
    cases hfree : s.lowestFree m.1 with
    | none =>
      have hno : ∀ ch, (m.1, ch) ∉ heldOn s.lowestFree ms := fun ch hm =>
        absurd ((mem_heldOn.mp hm).2.symm.trans hfree) nofun
      rw [reserve_of_none (by rw [hrs]; exact hno) ((ih.lowestFree hno).trans hfree)]
      by_cases hm : m.1 ∈ ms.map (·.1)
      · rw [heldOn_concat_of_mem hm]; exact ih
      · rw [heldOn_concat_of_not_mem hm, hfree]
        show Reserved s t n (heldOn s.lowestFree ms ++ [])
        rw [List.append_nil]; exact ih
    | some ch =>
      by_cases hm : m.1 ∈ ms.map (·.1)
      · rw [heldOn_concat_of_mem hm, reserve_of_held (ch := ch) (by rw [hrs]; exact mem_heldOn.mpr ⟨hm, hfree⟩)]
        exact ih
      · rw [heldOn_concat_of_not_mem hm, hfree]
        exact ih.reserve (fun _ h => hm (mem_heldOn.mp h).1) hfree

theorem reserve_relinked (s : State) (L : Vector LinkUnit 13) (n : CallNo) (r : Fin 8) :
    (s.relinked L).reserve n r = (s.reserve n r).relinked L := by
  unfold State.reserve
  by_cases h : ((s.call n).channelOn r).isSome
  · rw [if_pos h, if_pos (by exact h)]
  · rw [if_neg h, if_neg (by exact h), show (s.relinked L).lowestFree r = s.lowestFree r from rfl]
    cases s.lowestFree r <;> rfl

theorem reserveAll_relinked (s : State) (L : Vector LinkUnit 13) (n : CallNo) (ms : List (Fin 8 × Fin 63)) :
    (s.relinked L).reserveAll n ms = (s.reserveAll n ms).relinked L :=
  foldl_relinked (f := fun t (m : Fin 8 × Fin 63) => State.reserve t n m.1) (fun s L m => reserve_relinked s L n m.1) ..

/-! ### The handsets a call rings (R11, R12a, R96) -/

/-- The handsets `ms`, engaged by call `n`. -/
def State.engageAll (s : State) (n : CallNo) (ms : List (Fin 8 × Fin 63)) : State :=
  ms.foldl (fun t m => t.engage (.handset m.1 m.2) n) s

/-- Call `n` rings the handsets `ms` of its flat, over the channels it holds. -/
def State.ringsFlat (s : State) (n : CallNo) (alert : Nat) (ms : List (Fin 8 × Fin 63)) : State :=
  { s.engageAll n ms with
    calls := s.calls.set n ((s.call n).ringing s.params alert ms (s.call n).reservations) }

theorem engageAll_frame (s : State) (n : CallNo) (ms : List (Fin 8 × Fin 63)) :
    s.engageAll n ms = { s with handsets := (s.engageAll n ms).handsets } := by
  induction ms generalizing s with
  | nil => rfl
  | cons m ms ih => exact ih (s.engage (.handset m.1 m.2) n)

theorem engageAll_handset (s : State) (n : CallNo) (ms : List (Fin 8 × Fin 63)) (r : Fin 8) (a : Fin 63) :
    (s.engageAll n ms).handset r a = if (r, a) ∈ ms then { s.handset r a with engaged := some n } else s.handset r a := by
  induction ms generalizing s with
  | nil => rfl
  | cons m ms ih =>
    have hone : (s.engage (.handset m.1 m.2) n).handset r a =
        if (r, a) = m then { s.handset r a with engaged := some n } else s.handset r a := by
      refine (setHandset_handset ..).trans ?_
      by_cases he : (r, a) = m
      · subst he; rw [if_pos rfl, if_pos ⟨rfl, rfl⟩]
      · rw [if_neg he, if_neg fun e => he (Prod.ext e.1 e.2)]
    refine (ih (s.engage (.handset m.1 m.2) n)).trans ?_
    rw [hone]
    by_cases he : (r, a) = m <;> by_cases hm : (r, a) ∈ ms <;> simp [he, hm]

/-- A record that rings the handsets `ms` beside those it rings already. -/
def CallRecord.alerting (c : CallRecord) (p : Params) (ms : List (Fin 8 × Fin 63)) : CallRecord :=
  { c with alerted := c.alerted ++ ms.map fun m => .handset m.1 m.2, ringCadence := some (c.cadence p) }

theorem cadence_eq_ringClass (p : Params) (c : CallRecord) : c.cadence p = c.ringClass p := by
  unfold CallRecord.cadence CallRecord.ringClass CallRecord.firstCadence
  cases c.ringCadence with
  | some k => rfl
  | none =>
    cases c.origin with
    | none => rfl
    | some x => cases x <;> rfl

/-- The RING of a call to a handset (R11). -/
def CallRecord.ringTo (p : Params) (c : CallRecord) (m : Fin 8 × Fin 63) : LinkId × Message :=
  (.riser m.1, ringHandsetMsg (BitVec.ofNat 8 m.2.val) c.ringEntrance (BitVec.ofNat 8 (c.cadence p).val))

theorem does_alertMember (b s : State) (n : CallNo) (m : Fin 8 × Fin 63) :
    Does b (fun t => State.alertMember n t m) s
      ((s.engage (.handset m.1 m.2) n).setCall n ((s.call n).alerting s.params [m])) [(s.call n).ringTo s.params m] := by
  have h := (does_put b s (.riser m.1) (ringHandsetMsg (BitVec.ofNat 8 m.2.val) (s.call n).ringEntrance
    (BitVec.ofNat 8 ((s.call n).cadence s.params).val))).comp_pure
    (g := fun t => (t.engage (.handset m.1 m.2) n).setCall n ((s.call n).alerting s.params [m]))
    (v := (s.engage (.handset m.1 m.2) n).setCall n ((s.call n).alerting s.params [m])) (.pure fun L => rfl)
  refine fun L pre hL hroom => Eq.trans ?_ (h L pre hL hroom)
  have hcall : (((s.relinked L).sent pre).sendRing n m).call n = s.call n := put_call ..
  show State.setCall _ n _ = State.setCall _ n _
  have hengaged : ((((s.relinked L).sent pre).sendRing n m).engage (.handset m.1 m.2) n).call n = s.call n := hcall
  rw [hengaged]
  rfl

theorem engageAll_setCall (s : State) (n : CallNo) (c : CallRecord) (ms : List (Fin 8 × Fin 63)) :
    (s.setCall n c).engageAll n ms = (s.engageAll n ms).setCall n c := by
  induction ms generalizing s with
  | nil => rfl
  | cons m ms ih => exact ih (s.engage (.handset m.1 m.2) n)

theorem does_foldl_alertMember (b : State) (n : CallNo) (m : Fin 8 × Fin 63) (ms : List (Fin 8 × Fin 63)) (s : State) :
    Does b (fun t => (m :: ms).foldl (State.alertMember n) t) s
      ((s.engageAll n (m :: ms)).setCall n ((s.call n).alerting s.params (m :: ms)))
      ((m :: ms).map ((s.call n).ringTo s.params)) := by
  induction ms generalizing m s with
  | nil => exact does_alertMember b s n m
  | cons m' ms ih =>
    have h := (does_alertMember b s n m).comp
      (ih m' ((s.engage (.handset m.1 m.2) n).setCall n ((s.call n).alerting s.params [m])))
    rw [setCall_call_self, engageAll_setCall, setCall_setCall] at h
    have hrecord : CallRecord.alerting ((s.call n).alerting s.params [m]) s.params (m' :: ms) =
        (s.call n).alerting s.params (m :: m' :: ms) :=
      congrArg (fun l => ({ s.call n with alerted := l, ringCadence := some ((s.call n).cadence s.params) } : CallRecord))
        (List.append_assoc ..)
    have hring : CallRecord.ringTo s.params ((s.call n).alerting s.params [m]) = (s.call n).ringTo s.params := rfl
    rw [show ((s.engage (.handset m.1 m.2) n).setCall n ((s.call n).alerting s.params [m])).params = s.params from rfl,
      hrecord, hring] at h
    exact h

theorem told_ringing (p : Params) (c : CallRecord) (alert : Nat) (ms : List (Fin 8 × Fin 63)) (rs : List (Fin 8 × Fin 4)) :
    CallRecord.told
        { c with
          state := .alerting
          alerted := ms.map fun m => .handset m.1 m.2
          reservations := rs
          ringCadence := some (c.ringClass p)
          stateCount := loadState .alert ((if alert = 0 then p.alertTime else alert) * 10)
          waitCount := none } .ringback = c.ringing p alert ms rs := by
  have hsteps : loadState .alert ((if alert = 0 then p.alertTime else alert) * 10) =
      some ⟨.alert, (if alert = 0 then p.alertTime else alert) * 8000⟩ := by rw [loadState, Nat.mul_assoc]; rfl
  rw [hsteps, CallRecord.ringing]
  obtain hin | ⟨p, st, ho⟩ := fromInside_or_station c
  · rw [told_of_fromInside .ringback hin, told_of_fromInside .ringback (by exact hin)]
  · rw [told_of_station .ringback ho, told_of_station .ringback (by exact ho)]

theorem ringingOut_eq (p : Params) (c : CallRecord) (ms : List (Fin 8 × Fin 63)) :
    c.ringingOut p ms = ms.map (c.ringTo p) ++ c.telling .ringback := by
  have hring : ∀ m : Fin 8 × Fin 63, c.ringTo p m = (LinkId.riser m.1, ringHandsetMsg (BitVec.ofNat 8 m.2.val)
      (match c.origin with | some (.station i _) => BitVec.ofNat 8 i.val | _ => 0x0F#8)
      (BitVec.ofNat 8 (c.ringClass p).val)) := fun m => by rw [CallRecord.ringTo, cadence_eq_ringClass]; rfl
  rw [funext hring]
  rfl

/-- A call that rings no party yet rings the handsets of its flat. -/
theorem does_alerts (b : State) {s : State} {n : CallNo} {x : Resolved} (hx : (s.call n).resolved = some x)
    (hquiet : (s.call n).alerted = []) (m : Fin 8 × Fin 63) (ms : List (Fin 8 × Fin 63)) :
    Does b (fun t => ((m :: ms).foldl (State.alertMember n) t).enterAlerting n) s (s.ringsFlat n x.alertTime (m :: ms))
      ((s.call n).ringingOut s.params (m :: ms)) := by
  let c : CallRecord := (s.call n).alerting s.params (m :: ms)
  let z : State := (s.engageAll n (m :: ms)).setCall n c
  have hzcall : z.call n = c := setCall_call_self ..
  have hzparams : z.params = s.params := by show (s.engageAll n (m :: ms)).params = _; rw [engageAll_frame]
  have hsteps : alertSteps z.params (z.call n) = (if x.alertTime = 0 then s.params.alertTime else x.alertTime) * 10 := by
    rw [hzcall, hzparams, alertSteps, show c.resolved = some x from hx]
  have hrecord : ({ z.call n with
      state := .alerting, stateCount := loadState .alert (alertSteps z.params (z.call n)), waitCount := none } : CallRecord) =
      { s.call n with
          state := .alerting
          alerted := (m :: ms).map fun m => .handset m.1 m.2
          reservations := (s.call n).reservations
          ringCadence := some ((s.call n).ringClass s.params)
          stateCount := loadState .alert ((if x.alertTime = 0 then s.params.alertTime else x.alertTime) * 10)
          waitCount := none } := by
    rw [hsteps, hzcall, ← cadence_eq_ringClass]
    show ({ s.call n with alerted := (s.call n).alerted ++ _, state := _, ringCadence := _, stateCount := _, waitCount := _ } :
      CallRecord) = _
    rw [hquiet]
    rfl
  have henter : Does b (·.enterAlerting n) z (s.ringsFlat n x.alertTime (m :: ms)) ((s.call n).telling .ringback) := by
    have h := does_setCall_tell b z (n := n)
      (c := { z.call n with
        state := .alerting, stateCount := loadState .alert (alertSteps z.params (z.call n)), waitCount := none })
      (v := .ringback) rfl
    rw [hrecord, told_ringing, setCall_setCall] at h
    have hrings : (s.engageAll n (m :: ms)).setCall n
        ((s.call n).ringing s.params x.alertTime (m :: ms) (s.call n).reservations) = s.ringsFlat n x.alertTime (m :: ms) := by
      rw [State.ringsFlat, engageAll_frame]; rfl
    rw [hrings] at h
    refine h.via fun L => ?_
    rw [← hrecord]
    rfl
  rw [ringingOut_eq]
  exact (does_foldl_alertMember b n m ms s).comp henter

end Sys2Proof.Machine
end

section
/-!
PROOF. A command whose work is the target check of a call to a flat (R10, R11, R13, R14, R74): what it answers in each outcome
of the check.
-/

namespace Sys2Proof.Machine

/-! ### The members by class (R10) -/

/-- The members with a presence, an engagement and a quiet flag. -/
def State.members (s : State) (ts : List (Fin 8 × Fin 63)) (present busy : Bool) (quiet : Option Bool) :
    List (Fin 8 × Fin 63) :=
  ts.filter fun m =>
    decide ((s.handset m.1 m.2).present = present ∧ (s.handset m.1 m.2).engaged.isSome = busy ∧
      (quiet = none ∨ quiet = some (s.handset m.1 m.2).quiet))

theorem memberClass_eq (s : State) (m : Fin 8 × Fin 63) (present busy : Bool) (quiet : Option Bool) (k : MemberClass)
    (hk : ∀ h : Handset,
      (if h.present = false then MemberClass.absent else if h.engaged.isSome then .busy else if h.quiet then .quiet else .eligible) =
          k ↔ h.present = present ∧ h.engaged.isSome = busy ∧ (quiet = none ∨ quiet = some h.quiet)) :
    decide (s.memberClass m = k) = decide ((s.handset m.1 m.2).present = present ∧ (s.handset m.1 m.2).engaged.isSome = busy ∧
      (quiet = none ∨ quiet = some (s.handset m.1 m.2).quiet)) := decide_eq_decide.mpr (hk (s.handset m.1 m.2))

theorem membersOf_eligible (s : State) (ts : List (Fin 8 × Fin 63)) :
    s.membersOf .eligible ts = s.members ts true false (some false) :=
  List.filter_congr fun m _ => memberClass_eq s m _ _ _ _ fun h => by split_ifs <;> simp_all

theorem membersOf_busy (s : State) (ts : List (Fin 8 × Fin 63)) : s.membersOf .busy ts = s.members ts true true none :=
  List.filter_congr fun m _ => memberClass_eq s m _ _ _ _ fun h => by split_ifs <;> simp_all

theorem membersOf_quiet (s : State) (ts : List (Fin 8 × Fin 63)) :
    s.membersOf .quiet ts = s.members ts true false (some true) :=
  List.filter_congr fun m _ => memberClass_eq s m _ _ _ _ fun h => by split_ifs <;> simp_all

/-! ### The check of a call that holds nothing -/

/-- Call `n` has the flat `x` of the members `ts` resolved, and rings no party and holds no channel. -/
structure State.Checks (s : State) (n : CallNo) (x : Resolved) (ts : List (Fin 8 × Fin 63)) : Prop where
  active : (s.call n).state ≠ .idle
  resolved : (s.call n).resolved = some x
  targets : x.targets = .flat ts
  alerted : (s.call n).alerted = []
  reservations : (s.call n).reservations = []

theorem targetCheck_of_eligible {s : State} {n : CallNo} {x : Resolved} {ts : List (Fin 8 × Fin 63)} {m : Fin 8 × Fin 63}
    {ms : List (Fin 8 × Fin 63)} (h : (s.call n).state ≠ .idle) (hx : (s.call n).resolved = some x)
    (hts : x.targets = .flat ts) (hm : s.membersOf .eligible ts = m :: ms) :
    s.targetCheck n = s.seekAndAlert n (m :: ms) := by
  rw [State.targetCheck, if_neg h, hx]
  dsimp only
  rw [hts]
  dsimp only
  rw [hm]

/-- Where a member is eligible, the call rings those it holds a channel for. -/
theorem seekAndAlert_rings {s : State} {n : CallNo} {es : List (Fin 8 × Fin 63)} {m : Fin 8 × Fin 63}
    {ms : List (Fin 8 × Fin 63)}
    (h : es.filter (fun m => (((s.reserveAll n es).call n).channelOn m.1).isSome) = m :: ms) :
    s.seekAndAlert n es = ((m :: ms).foldl (State.alertMember n) (s.reserveAll n es)).enterAlerting n := by
  unfold State.seekAndAlert
  show (match es.filter (fun m => (((s.reserveAll n es).call n).channelOn m.1).isSome) with
    | [] => _
    | rung => _) = _
  rw [h]
  rfl

theorem seekAndAlert_seeks {s : State} {n : CallNo} {m : Fin 8 × Fin 63} {ms : List (Fin 8 × Fin 63)}
    (h : (m :: ms).filter (fun x => (((s.reserveAll n (m :: ms)).call n).channelOn x.1).isSome) = []) :
    s.seekAndAlert n (m :: ms) = (s.reserveAll n (m :: ms)).enterSeeking n m.1 := by
  unfold State.seekAndAlert
  show (match (m :: ms).filter (fun x => (((s.reserveAll n (m :: ms)).call n).channelOn x.1).isSome) with
    | [] => _
    | rung => _) = _
  rw [h]
  rfl

/-- Of the members a call asks for, it can ring those whose riser has a FREE channel. -/
theorem Reserved.rung {s t : State} {n : CallNo} {es : List (Fin 8 × Fin 63)} (h : Reserved s t n (heldOn s.lowestFree es)) :
    es.filter (fun m => ((t.call n).channelOn m.1).isSome) = es.filter fun m => (s.lowestFree m.1).isSome := by
  refine List.filter_congr fun m hm => Bool.eq_iff_iff.mpr ?_
  rw [channelOn_isSome, h.call]
  constructor
  · rintro ⟨ch, hch⟩
    rw [(mem_heldOn.mp hch).2]; rfl
  · intro hsome
    obtain ⟨ch, hch⟩ := Option.isSome_iff_exists.mp hsome
    exact ⟨ch, mem_heldOn.mpr ⟨List.mem_map_of_mem hm, hch⟩⟩

theorem reserveAll_of_none {s : State} {n : CallNo} (hnone : (s.call n).reservations = []) (ms : List (Fin 8 × Fin 63))
    (h : ∀ m ∈ ms, s.lowestFree m.1 = none) : s.reserveAll n ms = s := by
  induction ms with
  | nil => rfl
  | cons m ms ih =>
    have hstep : s.reserve n m.1 = s :=
      reserve_of_none (fun ch hc => by rw [hnone] at hc; exact nomatch hc) (h m List.mem_cons_self)
    show (s.reserve n m.1).reserveAll n ms = s
    rw [hstep]
    exact ih fun m' hm' => h m' (List.mem_cons_of_mem m hm')

theorem does_check_rings (b : State) {s : State} {n : CallNo} {x : Resolved} {ts es : List (Fin 8 × Fin 63)}
    (h : s.Checks n x ts) (hes : s.membersOf .eligible ts = es)
    (hrung : es.filter (fun m => (s.lowestFree m.1).isSome) ≠ []) :
    Does b (·.targetCheck n) s ((s.reserveAll n es).ringsFlat n x.alertTime (es.filter fun m => (s.lowestFree m.1).isSome))
      ((s.call n).ringingOut s.params (es.filter fun m => (s.lowestFree m.1).isSome)) := by
  have hreserved := reserveAll_reserved h.reservations es
  have hcall := hreserved.call
  have hparams : (s.reserveAll n es).params = s.params := by rw [hreserved.frame]
  have hfilter := hreserved.rung
  obtain ⟨m, ms, hlist⟩ := List.exists_cons_of_ne_nil hrung
  rw [hlist] at hfilter ⊢
  obtain ⟨e, es', rfl⟩ : ∃ e es', es = e :: es' := List.exists_cons_of_ne_nil fun he => by
    subst he; exact hrung rfl
  have hdoes := does_alerts b (s := s.reserveAll n (e :: es')) (n := n) (x := x) (by rw [hcall]; exact h.resolved)
    (by rw [hcall]; exact h.alerted) m ms
  have hout : ((s.reserveAll n (e :: es')).call n).ringingOut (s.reserveAll n (e :: es')).params (m :: ms) =
      (s.call n).ringingOut s.params (m :: ms) := by rw [hcall, hparams]; rfl
  rw [hout] at hdoes
  refine hdoes.via fun L => ?_
  rw [targetCheck_of_eligible (s := s.relinked L) h.active h.resolved h.targets hes]
  have hrelinked : (s.relinked L).reserveAll n (e :: es') = (s.reserveAll n (e :: es')).relinked L := reserveAll_relinked ..
  rw [seekAndAlert_rings (s := s.relinked L) (by rw [hrelinked]; exact hfilter), hrelinked]

theorem does_check_seeks (b : State) {s : State} {n : CallNo} {x : Resolved} {ts : List (Fin 8 × Fin 63)}
    {m : Fin 8 × Fin 63} {ms : List (Fin 8 × Fin 63)} (h : s.Checks n x ts) (hes : s.membersOf .eligible ts = m :: ms)
    (hrung : (m :: ms).filter (fun m => (s.lowestFree m.1).isSome) = []) :
    Does b (·.targetCheck n) s (s.seeksOn n m.1) ((s.call n).telling .wait) := by
  have hsame : s.reserveAll n (m :: ms) = s := reserveAll_of_none h.reservations _ fun y hy => by
    simpa using List.filter_eq_nil_iff.mp hrung y hy
  have hfilter := (reserveAll_reserved h.reservations (m :: ms)).rung
  rw [hsame, hrung] at hfilter
  refine (does_enterSeeking b s n m.1).via fun L => ?_
  have hrelinked : (s.relinked L).reserveAll n (m :: ms) = s.relinked L := by rw [reserveAll_relinked, hsame]
  rw [targetCheck_of_eligible (s := s.relinked L) h.active h.resolved h.targets hes,
    seekAndAlert_seeks (s := s.relinked L) (by rw [hrelinked]; exact hfilter), hrelinked]

/-! ### No member is eligible -/

theorem targetCheck_of_busy_room {s : State} {n : CallNo} {x : Resolved} {ts : List (Fin 8 × Fin 63)} {m : Fin 8 × Fin 63}
    (hactive : (s.call n).state ≠ .idle) (hx : (s.call n).resolved = some x) (hts : x.targets = .flat ts)
    (hes : s.membersOf .eligible ts = []) (hcamp : x.camp = true)
    (hm : (s.membersOf .busy ts).find? (fun t => decide ((s.handset t.1 t.2).watch.length < Config.watchPlaces)) = some m) :
    s.targetCheck n = s.enterCamped n m.1 m.2 := by
  rw [State.targetCheck, if_neg hactive, hx]
  dsimp only
  rw [hts]
  dsimp only
  rw [hes]
  dsimp only
  split
  next he => rw [he] at hm; exact nomatch hm
  next => rw [if_pos hcamp, hm]

/-- The outcome of a check that finds no eligible member (R14). -/
def State.checkCause (s : State) (ts : List (Fin 8 × Fin 63)) : Cause :=
  if s.membersOf .busy ts ≠ [] then .busy else if s.membersOf .quiet ts ≠ [] then .quiet else .absent

theorem targetCheck_of_no_busy {s : State} {n : CallNo} {x : Resolved} {ts : List (Fin 8 × Fin 63)}
    (h : s.Checks n x ts) (hes : s.membersOf .eligible ts = []) (hbusy : s.membersOf .busy ts = []) :
    s.targetCheck n = s.outcomeWith .bare n (s.checkCause ts) := by
  have hcause : (if (s.membersOf .quiet ts).isEmpty then Cause.absent else .quiet) = s.checkCause ts := by
    rw [State.checkCause, hbusy]
    cases s.membersOf .quiet ts <;> rfl
  rw [State.targetCheck, if_neg h.active, h.resolved]
  dsimp only
  rw [h.targets]
  dsimp only
  rw [hes]
  dsimp only
  rw [hbusy]
  dsimp only
  rw [hcause]

theorem targetCheck_of_busy {s : State} {n : CallNo} {x : Resolved} {ts : List (Fin 8 × Fin 63)}
    (h : s.Checks n x ts) (hes : s.membersOf .eligible ts = []) (hbusy : s.membersOf .busy ts ≠ [])
    (hno : x.camp = false ∨
      (s.membersOf .busy ts).find? (fun t => decide ((s.handset t.1 t.2).watch.length < Config.watchPlaces)) = none) :
    s.targetCheck n = s.outcomeWith .bare n .busy := by
  rw [State.targetCheck, if_neg h.active, h.resolved]
  dsimp only
  rw [h.targets]
  dsimp only
  rw [hes]
  dsimp only
  obtain ⟨m, ms, hlist⟩ := List.exists_cons_of_ne_nil hbusy
  rw [hlist] at hno ⊢
  dsimp only
  obtain hcamp | hnone := hno
  · rw [hcamp]; rfl
  · rw [hnone]; exact ite_self _

theorem targetCheck_outcome {s : State} {n : CallNo} {x : Resolved} {ts : List (Fin 8 × Fin 63)}
    (h : s.Checks n x ts) (hes : s.membersOf .eligible ts = [])
    (hno : x.camp = false ∨
      (s.membersOf .busy ts).find? (fun t => decide ((s.handset t.1 t.2).watch.length < Config.watchPlaces)) = none) :
    s.targetCheck n = s.outcomeWith .bare n (s.checkCause ts) := by
  by_cases hbusy : s.membersOf .busy ts = []
  · exact targetCheck_of_no_busy h hes hbusy
  · rw [targetCheck_of_busy h hes hbusy hno, State.checkCause, if_pos hbusy]

theorem checkCause_forwardable (s : State) (ts : List (Fin 8 × Fin 63)) :
    (s.checkCause ts).Forwardable ∧ s.checkCause ts ≠ .congestion := by
  unfold State.checkCause
  split
  · exact ⟨by simp [Cause.Forwardable], nofun⟩
  · split
    · exact ⟨by simp [Cause.Forwardable], nofun⟩
    · exact ⟨by simp [Cause.Forwardable], nofun⟩

/-! ### An outcome that goes on to the desk (R14) -/

/-- The record of a call that an outcome has forwarded to the desk. -/
def CallRecord.sentToDesk (c : CallRecord) (x : Resolved) : CallRecord :=
  { c with forwarded := true, lastProgress := some .wait, stateCount := none, resolved := some { x with targets := .desk } }

theorem outcoming_of_bare {k : Cascade} {s : State} {n : CallNo} {cause : Cause} (hnowhere : s.StandsNowhere n)
    (hres : (s.call n).reservations = []) (hwait : (s.call n).waitCount = none) (hcause : cause ≠ .congestion) :
    s.outcoming k n cause = s.setCall n { s.call n with stateCount := none } := by
  have hback : s.handBackAllWith k n = s := by rw [State.handBackAllWith, hres]; rfl
  have hrecord : ({ s.call n with stateCount := none, waitCount := stoppedSeek (s.call n).waitCount } : CallRecord) =
      { s.call n with stateCount := none } := by
    rw [hwait, show stoppedSeek none = (s.call n).waitCount from hwait.symm]
  rw [State.outcoming, if_neg hcause, leavePlaces_of_standsNowhere hnowhere]
  dsimp only
  rw [hback, hrecord]

theorem put_setCall (s : State) (l : LinkId) (m : Message) (n : CallNo) (c : CallRecord) :
    (s.put l m).setCall n c = (s.setCall n c).put l m := by
  unfold State.put
  by_cases hdown : (s.link l).state = .down
  · rw [if_pos hdown, if_pos (show ((s.setCall n c).link l).state = .down from hdown)]
  · rw [if_neg hdown, if_neg (show ¬ ((s.setCall n c).link l).state = .down from hdown)]
    by_cases hroom : (s.link l).tx.length < Config.transmitPlaces
    · rw [if_pos hroom, if_pos (show ((s.setCall n c).link l).tx.length < _ from hroom)]
      rfl
    · rw [if_neg hroom, if_neg (show ¬ ((s.setCall n c).link l).tx.length < _ from hroom)]
      rfl

/-- A forwarded call has its station told WAIT and its record sent to the desk. -/
theorem forwarding_eq {s : State} {n : CallNo} {c : CallRecord} {x : Resolved} (hx : c.resolved = some x)
    (hs : s.call n = { c with stateCount := none }) :
    s.forwarding c n =
      (s.setCall n (c.sentToDesk x)).putAll (CallRecord.telling { c with lastProgress := none } .wait) := by
  have hrecord : CallRecord.forwardedToDesk { c with stateCount := none } = c.sentToDesk x := by
    rw [CallRecord.forwardedToDesk, CallRecord.sentToDesk, hx]; rfl
  obtain hin | ⟨p, st, ho⟩ := fromInside_or_station c
  · rw [telling_of_fromInside .wait (by exact hin), State.forwarding]
    split
    next p st ho => exact absurd ho (hin p st)
    next => rw [hs, hrecord]; rfl
  · rw [telling_of_station (p := p) (st := st) .wait (by exact ho), if_neg nofun, State.forwarding, ho]
    dsimp only
    have hcall : (s.sendProgress p st .wait).call n = s.call n := put_call ..
    rw [hcall, hs, hrecord]
    exact put_setCall ..

theorem outcome_of_forwards {k : Cascade} {s : State} {n : CallNo} {cause : Cause} {x : Resolved}
    (hactive : (s.call n).state ≠ .idle) (hmay : (s.call n).MayForward) (hcause : cause.Forwardable ∧ cause ≠ .congestion)
    (hnowhere : s.StandsNowhere n) (hres : (s.call n).reservations = []) (hwait : (s.call n).waitCount = none)
    (hx : (s.call n).resolved = some x) :
    s.outcomeWith k n cause =
      let t := (s.setCall n ((s.call n).sentToDesk x)).putAll
        (CallRecord.telling { s.call n with lastProgress := none } .wait)
      if s.loggedOnCount = 0 then t.clearWith k n .noDesk else t.deskPlace n := by
  have hforwarding : (s.outcoming k n cause).forwarding (s.call n) n =
      (s.setCall n ((s.call n).sentToDesk x)).putAll (CallRecord.telling { s.call n with lastProgress := none } .wait) := by
    rw [outcoming_of_bare hnowhere hres hwait hcause.2, forwarding_eq hx (setCall_call_self ..), setCall_setCall]
  have hcount : (State.putAll (s.setCall n ((s.call n).sentToDesk x))
      (CallRecord.telling { s.call n with lastProgress := none } .wait)).loggedOnCount = s.loggedOnCount := by
    rw [putAll_frame]; rfl
  rw [outcomeWith_of_active hactive, if_pos ((forwards_iff _ _).mpr ⟨hmay, hcause.1⟩), hforwarding, hcount]

/-! ### A command that runs the check -/

theorem putAll_call (s : State) (xs : List (LinkId × Message)) (n : CallNo) : (s.putAll xs).call n = s.call n := by
  rw [putAll_frame]; rfl

/-- Work after other work that has left a state where it only puts messages. -/
theorem Does.andThen {b s u : State} {f g : State → State} {out reply : List (LinkId × Message)} (h : Does b f s u out)
    (hg : ∀ L, g (u.relinked L) = (u.relinked L).putAll reply) : Does b (fun t => g (f t)) s u (out ++ reply) :=
  h.comp ((does_putAll_room b u reply).via hg)

/-- What a command does after the target check of call `n`: where the call waits or rings it puts `reply`, and where the call
has cleared, or goes on to the desk, it does nothing. -/
structure Replies (g : State → State) (z : State) (n : CallNo) (reply : List (LinkId × Message)) : Prop where
  waits : ∀ x, (x.call n).state = .alerting ∨ (x.call n).state = .seeking ∨ (x.call n).state = .camped → g x = x.putAll reply
  cleared : ∀ x, (x.call n).state = .idle → g x = x
  forwards : (z.call n).MayForward → ∀ x, g x = x

theorem replies_none (z : State) (n : CallNo) : Replies (fun t => t) z n [] := ⟨fun _ _ => rfl, fun _ _ => rfl, fun _ _ => rfl⟩

theorem ringing_of_reservations (p : Params) (c : CallRecord) (alert : Nat) (ms : List (Fin 8 × Fin 63))
    (rs rs' : List (Fin 8 × Fin 4)) :
    CallRecord.ringing p { c with reservations := rs } alert ms rs' = c.ringing p alert ms rs' := by
  rw [← told_ringing, ← told_ringing]
  rfl

theorem ringsFlat_call (s : State) (n : CallNo) (alert : Nat) (ms : List (Fin 8 × Fin 63)) :
    (s.ringsFlat n alert ms).call n = (s.call n).ringing s.params alert ms (s.call n).reservations :=
  Vector.getElem_set_self ..

theorem seeksOn_call (s : State) (n : CallNo) (r : Fin 8) : ((s.seeksOn n r).call n).state = .seeking :=
  congrArg CallRecord.state (setCall_call_self s n _)

theorem campsOn_call (s : State) (n : CallNo) (r : Fin 8) (a : Fin 63) : ((s.campsOn n r a).call n).state = .camped :=
  congrArg CallRecord.state (setCall_call_self s n _)

section
variable {i : Instr} {s z : State} {f g : State → State} {base : LinkId → LinkUnit} {n : CallNo}
  {reply : List (LinkId × Message)} {x : Resolved} {ts : List (Fin 8 × Fin 63)}

theorem Runs.check_rings (h : Runs i s f base []) (hpending : z.maskedPending = s.maskedPending)
    (hf : ∀ L, s.Alike L → f (s.relinked L) = g ((z.relinked L).targetCheck n)) (hg : Replies g z n reply)
    (hc : z.Checks n x ts) {es rung : List (Fin 8 × Fin 63)} (hes : z.membersOf .eligible ts = es)
    (hr : es.filter (fun m => (z.lowestFree m.1).isSome) = rung) (hrung : rung ≠ []) 
    (hroom : s.Room ((z.call n).ringingOut z.params rung ++ reply)) :
    ∃ t, exec i s = .next t ∧
      t = { z with
            links := t.links
            handsets := t.handsets
            channels := t.channels
            calls := z.calls.set n ((z.call n).ringing z.params x.alertTime rung (heldOn z.lowestFree es)) } ∧
      (∀ k, t.link k = (base k).withTx (outFor k ((z.call n).ringingOut z.params rung ++ reply))) ∧
      (∀ r a, t.handset r a = if (r, a) ∈ rung then { z.handset r a with engaged := some n } else z.handset r a) ∧
      ∀ r ch, t.channel r ch = if (r, ch) ∈ heldOn z.lowestFree es then some n else z.channel r ch := by
  subst hr
  have hreserved := reserveAll_reserved hc.reservations es
  have hdoes := (does_check_rings s hc hes hrung).andThen (g := g) (reply := reply)
    fun _ => hg.waits _ (.inl (congrArg CallRecord.state (ringsFlat_call ..)))
  obtain ⟨t, hexec, hframe, hlinks⟩ := h.answers_quiet (fun hr L hL => (hf L hL).trans (hdoes.apply hr L hL))
    (by show ((z.reserveAll n es).engageAll n _).maskedPending = _; rw [engageAll_frame, hreserved.frame]; exact hpending) hroom
  generalize z.reserveAll n es = y at hreserved hframe
  generalize es.filter (fun m => (z.lowestFree m.1).isSome) = rung at hframe hlinks ⊢
  have hhandset : ∀ r a, t.handset r a = (y.engageAll n rung).handset r a := fun r a => by rw [hframe]; rfl
  have hchannel : ∀ r ch, t.channel r ch = y.channel r ch := fun r ch => by
    rw [hframe]
    show (y.engageAll n rung).channel r ch = _
    rw [engageAll_frame]; rfl
  refine ⟨t, hexec, ?_, hlinks, fun r a => ?_, fun r ch => (hchannel r ch).trans (hreserved.channels r ch)⟩
  · have hframe' : y.ringsFlat n x.alertTime rung =
        { z with
          handsets := (y.ringsFlat n x.alertTime rung).handsets
          channels := (y.ringsFlat n x.alertTime rung).channels
          calls := z.calls.set n ((z.call n).ringing z.params x.alertTime rung (heldOn z.lowestFree es)) } := by
      have hcalls : (y.ringsFlat n x.alertTime rung).calls =
          z.calls.set n ((z.call n).ringing z.params x.alertTime rung (heldOn z.lowestFree es)) := by
        show y.calls.set n ((y.call n).ringing y.params x.alertTime rung (y.call n).reservations) = _
        have hcalls : y.calls = z.calls.set n { z.call n with reservations := heldOn z.lowestFree es } := by rw [hreserved.frame]
        have hparams : y.params = z.params := by rw [hreserved.frame]
        rw [hreserved.call, hparams, hcalls]
        rw [ringing_of_reservations]
        exact Vector.set_set ..
      rw [← hcalls, State.ringsFlat, engageAll_frame, hreserved.frame]
    rw [hframe, hframe']
  · rw [hhandset, engageAll_handset, hreserved.frame]
    rfl

theorem Runs.check_seeks (h : Runs i s f base []) (hpending : z.maskedPending = s.maskedPending)
    (hf : ∀ L, s.Alike L → f (s.relinked L) = g ((z.relinked L).targetCheck n)) (hg : Replies g z n reply)
    (hc : z.Checks n x ts) {m : Fin 8 × Fin 63} {ms : List (Fin 8 × Fin 63)} (hes : z.membersOf .eligible ts = m :: ms)
    (hr : (m :: ms).filter (fun m => (z.lowestFree m.1).isSome) = []) :
    Answers i s (z.seeksOn n m.1) base ((z.call n).telling .wait ++ reply) :=
  h.answers_quiet (fun hr' L hL => (hf L hL).trans
    (((does_check_seeks s hc hes hr).andThen (g := g) fun _ => hg.waits _ (.inr (.inl (seeksOn_call z n m.1)))).apply hr' L hL)) hpending

theorem Runs.check_camps (h : Runs i s f base []) (hpending : z.maskedPending = s.maskedPending)
    (hf : ∀ L, s.Alike L → f (s.relinked L) = g ((z.relinked L).targetCheck n)) (hg : Replies g z n reply)
    (hc : z.Checks n x ts) {m : Fin 8 × Fin 63} (hes : z.membersOf .eligible ts = []) (hcamp : x.camp = true)
    (hm : (z.membersOf .busy ts).find? (fun t => decide ((z.handset t.1 t.2).watch.length < Config.watchPlaces)) = some m) :
    Answers i s (z.campsOn n m.1 m.2) base ((z.call n).telling .wait ++ reply) := by
  have hdoes : Does s (·.targetCheck n) z (z.campsOn n m.1 m.2) ((z.call n).telling .wait) :=
    (does_enterCamped s z n m.1 m.2).via fun L => 
      targetCheck_of_busy_room (s := z.relinked L) hc.active hc.resolved hc.targets hes hcamp hm
  exact h.answers_quiet (fun hr' L hL => (hf L hL).trans
    ((hdoes.andThen (g := g) fun _ => hg.waits _ (.inr (.inr (campsOn_call z n m.1 m.2)))).apply hr' L hL)) hpending

theorem Runs.check_clears (h : Runs i s f base []) (hlinks : z.links = s.links) (hpending : z.maskedPending = s.maskedPending)
    (hf : ∀ L, s.Alike L → f (s.relinked L) = g ((z.relinked L).targetCheck n)) (hg : Replies g z n reply)
    (hc : z.Checks n x ts) (hes : z.membersOf .eligible ts = [])
    (hno : x.camp = false ∨
      (z.membersOf .busy ts).find? (fun t => decide ((z.handset t.1 t.2).watch.length < Config.watchPlaces)) = none)
    (hmay : ¬ (z.call n).MayForward) :
    ∃ t, exec i s = .next t ∧ ClearedWith z t n (z.checkCause ts) ∧ KeepsToCalls z t none ∧
      ClearsAlone z t n (z.checkCause ts) base [] := by
  have hforwards : (z.call n).forwards (z.checkCause ts) = false :=
    Bool.eq_false_iff.mpr fun e => hmay ((forwards_iff _ _).mp e).1
  have hf' : ∀ L, s.Alike L → f (s.relinked L) = (z.relinked L).outcomeWith .bare n (z.checkCause ts) := by
    intro L hL
    have hcleared := clearedWith_outcome plain_bare (s := z.relinked L) hc.active hforwards
    rw [hf L hL, targetCheck_outcome (s := z.relinked L) (x := x) (ts := ts)
      ⟨hc.active, hc.resolved, hc.targets, hc.alerted, hc.reservations⟩ hes hno]
    exact hg.cleared _ (congrArg CallRecord.state hcleared.1)
  obtain ⟨t, L, hexec, hcleared, hleaves, halone⟩ := h.outcomes (n := n) (notice := []) plain_bare hlinks hc.active hforwards
    (checkCause_forwardable z ts).2 hf' (noticeOf_of_kept hpending)
  exact ⟨t, hexec, hcleared, hleaves.keeps, halone⟩

theorem Runs.check_forwards (h : Runs i s f base []) (hlinks : z.links = s.links)
    (hpending : z.maskedPending = s.maskedPending)
    (hf : ∀ L, s.Alike L → f (s.relinked L) = g ((z.relinked L).targetCheck n)) (hg : Replies g z n reply)
    (hc : z.Checks n x ts) (hwait : (z.call n).waitCount = none) (hes : z.membersOf .eligible ts = [])
    (hno : x.camp = false ∨
      (z.membersOf .busy ts).find? (fun t => decide ((z.handset t.1 t.2).watch.length < Config.watchPlaces)) = none)
    (hmay : (z.call n).MayForward) (hnowhere : z.StandsNowhere n) :
    HuntsDesk i s (z.setCall n ((z.call n).sentToDesk x)) n base
      (CallRecord.telling { z.call n with lastProgress := none } .wait)
      (CallRecord.telling { z.call n with lastProgress := none } .wait) := by
  have hactive : ((z.setCall n ((z.call n).sentToDesk x)).call n).state ≠ .idle := by rw [setCall_call_self]; exact hc.active
  have hf' : ∀ L, s.Alike L → f (s.relinked L) =
      let t := ((z.setCall n ((z.call n).sentToDesk x)).relinked L).putAll
        (CallRecord.telling { z.call n with lastProgress := none } .wait)
      if z.loggedOnCount = 0 then t.clearWith .bare n .noDesk else t.deskPlace n := by
    intro L hL
    rw [hf L hL, targetCheck_outcome (s := z.relinked L) (x := x) (ts := ts)
      ⟨hc.active, hc.resolved, hc.targets, hc.alerted, hc.reservations⟩ hes hno, hg.forwards hmay,
      outcome_of_forwards (s := z.relinked L) hc.active hmay (checkCause_forwardable (z.relinked L) ts) hnowhere hc.reservations hwait
        hc.resolved]
    rfl
  refine h.huntsDesk (Alone := (z.setCall n ((z.call n).sentToDesk x)).WaitsAlone n ∧
      (z.setCall n ((z.call n).sentToDesk x)).StandsNowhere n) hlinks hpending hactive ?_ (fun hon L hL => ?_)
    ((ends_clear plain_bare .noDesk hactive).after_putAll _) (fun ha hn => ⟨ha, hn⟩) fun hoff L hL => ?_
  · rw [setCall_call_self, show ((z.call n).sentToDesk x).waitCount = none from hwait]
    exact huntingWait_of_none _
  · exact (hf' L hL).trans (if_neg ((loggedOnCount_ne_zero (s := z)).mpr hon))
  · exact (hf' L hL).trans (if_pos ((loggedOnCount_eq_zero (s := z)).mpr hoff))

end

/-! ### The check as a whole -/

theorem lowestFree_of_free {z : State} {free : Fin 8 → Option (Fin 4)}
    (hfree : ∀ r, match free r with | some ch => z.FirstFree r ch | none => ∀ ch, z.channel r ch ≠ none) :
    free = z.lowestFree := by
  funext r
  have h := hfree r
  cases hr : free r with
  | none => rw [hr] at h; exact (lowestFree_of_full h).symm
  | some ch => rw [hr] at h; exact (lowestFree_of_firstFree h).symm

theorem seeksOn_of_none {z : State} {n : CallNo} {r : Fin 8} (hwait : (z.call n).waitCount = none) :
    z.seeksOn n r = { (z.setSeekQueue r (z.seekQueue r ++ [n])) with
      calls := z.calls.set n
        { (z.call n).told .wait with
          state := .seeking, stateCount := none, waitCount := some ⟨.seek, z.params.seekTime * 8000, false⟩ } } := by
  have hseek : seekingWait z.params none = some ⟨.seek, z.params.seekTime * 8000, false⟩ := by
    show some _ = _
    rw [Nat.mul_assoc]; rfl
  rw [State.seeksOn, hwait, hseek]

theorem told_waitCount (c : CallRecord) (v : Progress) : (c.told v).waitCount = c.waitCount := by
  unfold CallRecord.told
  split <;> rfl

theorem campsOn_of_none {z : State} {n : CallNo} {r : Fin 8} {a : Fin 63} (hwait : (z.call n).waitCount = none) :
    z.campsOn n r a = { (z.setHandset r a { z.handset r a with watch := (z.handset r a).watch ++ [n] }) with
      calls := z.calls.set n
        { (z.call n).told .wait with state := .camped, stateCount := some ⟨.camp, z.params.campTime * 8000⟩ } } := by
  have htold := told_waitCount (z.call n) .wait
  rw [State.campsOn, show campedWait (z.call n).waitCount = ((z.call n).told .wait).waitCount by rw [htold, hwait]; rfl]

theorem Runs.checksTargets {i : Instr} {s z : State} {f g : State → State} {base : LinkId → LinkUnit} {n : CallNo}
    {reply : List (LinkId × Message)} (h : Runs i s f base []) (hlinks : z.links = s.links)
    (hpending : z.maskedPending = s.maskedPending)
    (hf : ∀ L, s.Alike L → f (s.relinked L) = g ((z.relinked L).targetCheck n)) (hg : Replies g z n reply) :
    ChecksTargets i s z n base reply := by
  intro x ts free hactive hx hts halerted hres hwait hfree is eligible busy quiet rung held cause room
  obtain rfl := lowestFree_of_free hfree
  have hc : z.Checks n x ts := ⟨hactive, hx, hts, halerted, hres⟩
  have heligible : z.membersOf .eligible ts = eligible := membersOf_eligible z ts
  have hroom : (z.membersOf .busy ts).find? (fun t => decide ((z.handset t.1 t.2).watch.length < Config.watchPlaces)) = room := by
    rw [membersOf_busy]; rfl
  have hcause : z.checkCause ts = cause := by rw [State.checkCause, membersOf_busy, membersOf_quiet]; rfl
  refine ⟨h.check_rings hpending hf hg hc heligible rfl, fun m more hes hrung => ?_,
    fun hes => ⟨fun m hcamp hm => ?_, fun hno => ⟨fun hmay => ?_, fun hmay hnowhere => ?_⟩⟩⟩
  · have hseeks := h.check_seeks hpending hf hg hc (heligible.trans hes) (by rw [← hes]; exact hrung)
    rwa [seeksOn_of_none hwait] at hseeks
  · have hcamps := h.check_camps hpending hf hg hc (heligible.trans hes) hcamp (hroom.trans hm)
    rwa [campsOn_of_none hwait] at hcamps
  · have hclears := h.check_clears hlinks hpending hf hg hc (heligible.trans hes) (hno.imp_right hroom.trans) hmay
    rwa [hcause] at hclears
  · exact h.check_forwards hlinks hpending hf hg hc hwait (heligible.trans hes) (hno.imp_right hroom.trans) hmay hnowhere

end Sys2Proof.Machine
end

section
/-!
PROOF. Digits put to the directory (R6, R8, R9, R22): an ENTRANCE call whose code is resolved (O30, O31), and a DESK-kind call
from a position (O41).
-/

namespace Sys2Proof.Machine

/-! ### A call whose state count stands apart -/

/-- Call `n` with another state count. -/
def State.recounted (s : State) (n : CallNo) (w : Option StateCount) : State := s.setCall n { s.call n with stateCount := w }

theorem recounted_call (s : State) (n : CallNo) (w : Option StateCount) :
    (s.recounted n w).call n = { s.call n with stateCount := w } := setCall_call_self ..

theorem recounted_self (s : State) (n : CallNo) : s.recounted n (s.call n).stateCount = s := setCall_call_eq s n

/-- What a clearing gives up does not depend on the counts of the call. -/
theorem GivenUp.of_setCall {s t : State} {n : CallNo} {cause : Cause} {c : CallRecord} (h : GivenUp (s.setCall n c) t n cause)
    (hreleases : c.releases = (s.call n).releases) (hres : c.reservations = (s.call n).reservations)
    (hparties : ∀ x, x ∈ c.parties ↔ x ∈ (s.call n).parties) : GivenUp s t n cause := by
  obtain ⟨hframe, hrecord, hothers, hchannels, hstations, hhandsets, hpositions, hprefix, hidle⟩ := h
  rw [setCall_call_self] at hrecord hchannels hstations hhandsets hpositions hidle
  refine ⟨hframe, by rw [hrecord, hreleases], fun m hm => (hothers m hm).trans (setCall_call_ne _ _ hm), fun r ch => ?_,
    fun p st => ?_, fun r a => ?_, fun q => ?_, hprefix, fun q => ?_⟩
  · rw [hchannels, hres]; rfl
  · rw [hstations]; simp only [hparties]; rfl
  · rw [hhandsets]; simp only [hparties]; rfl
  · rw [hpositions]; simp only [hparties]; rfl
  · rw [hidle]; simp only [hparties]; rfl

/-- Call `n` clears with a cause, by what a command answers. -/
def Clears (i : Instr) (s z : State) (n : CallNo) (cause : Cause) (base : LinkId → LinkUnit) : Prop :=
  ∃ t, exec i s = .next t ∧ ClearedWith z t n cause ∧ KeepsToCalls z t none ∧ ClearsAlone z t n cause base []

/-- A clearing does not depend on what a record keeps beside its releases, its channels and its parties. -/
theorem Clears.of_setCall {i : Instr} {s z : State} {n : CallNo} {cause : Cause} {base : LinkId → LinkUnit} {c : CallRecord}
    (h : Clears i s (z.setCall n c) n cause base) (hreleases : c.releases = (z.call n).releases)
    (hres : c.reservations = (z.call n).reservations) (hparties : ∀ x, x ∈ c.parties ↔ x ∈ (z.call n).parties)
    (hout : c.clearingOut cause = (z.call n).clearingOut cause) : Clears i s z n cause base := by
  obtain ⟨t, hexec, hcleared, hkeeps, halone⟩ := h
  refine ⟨t, hexec, ⟨?_, hcleared.2⟩, hkeeps, fun ha hn hroom => ?_⟩
  · rw [hcleared.1, setCall_call_self, hreleases]
  · have hgives := halone ha hn (by rw [setCall_call_self, hout]; exact hroom)
    rw [setCall_call_self, hout] at hgives
    exact ⟨hgives.1.of_setCall hreleases hres hparties, hgives.2⟩

theorem Clears.of_recounted {i : Instr} {s z : State} {n : CallNo} {cause : Cause} {base : LinkId → LinkUnit}
    {w : Option StateCount} (h : Clears i s (z.recounted n w) n cause base) : Clears i s z n cause base :=
  h.of_setCall rfl rfl (fun _ => .rfl) rfl

theorem Runs.clears_by_outcome {i : Instr} {s z : State} {f : State → State} {base : LinkId → LinkUnit} {n : CallNo}
    {cause : Cause} (h : Runs i s f base []) (hlinks : z.links = s.links) (hpending : z.maskedPending = s.maskedPending)
    (hactive : (z.call n).state ≠ .idle) (hforwards : (z.call n).forwards cause = false) (hcause : cause ≠ .congestion)
    (hf : ∀ L, s.Alike L → f (s.relinked L) = (z.relinked L).outcome n cause) : Clears i s z n cause base := by
  obtain ⟨t, L, hexec, hcleared, hleaves, halone⟩ := h.outcomes (n := n) (notice := []) plain_full hlinks hactive hforwards
    hcause hf (noticeOf_of_kept hpending)
  exact ⟨t, hexec, hcleared, hleaves.keeps, halone⟩

/-! ### The end of a call that holds nothing but its station (R9, R27) -/

/-- Call `n` holds nothing but station `st` of panel `p`, and stands nowhere. -/
structure State.OnlyStation (s : State) (n : CallNo) (p : Fin 4) (st : Fin 2) : Prop where
  active : (s.call n).state ≠ .idle
  origin : (s.call n).origin = some (.station p st)
  alerted : (s.call n).alerted = []
  reservations : (s.call n).reservations = []
  answerer : (s.call n).answerer = none
  joined : (s.call n).joined = none
  station : s.station p st = some n
  nowhere : s.StandsNowhere n
  mode : s.mode ≠ .draining

theorem giveUp_of_onlyStation {k : Cascade} {s : State} {n : CallNo} {p : Fin 4} {st : Fin 2}
    (hres : (s.call n).reservations = []) (hparties : (s.call n).parties = [.station p st]) :
    s.giveUpWith k n = if s.station p st = some n then s.setStation p st none else s := by
  have hback : s.handBackAllWith k n = s := by rw [State.handBackAllWith, hres]; rfl
  rw [State.giveUpWith, hback, hparties]
  rfl

theorem clear_of_onlyStation {k : Cascade} {s : State} {n : CallNo} {p : Fin 4} {st : Fin 2} {cause : Cause}
    (h : s.OnlyStation n p st) (hsilent : clearingTable cause = (none, none)) :
    s.clearWith k n cause =
      (s.setStation p st none).setCall n
        { CallRecord.blank with lastCause := some cause, releases := (s.call n).releases } := by
  have hparties : (s.call n).parties = [.station p st] := by
    rw [CallRecord.parties, h.alerted, h.answerer, h.joined, h.origin]; rfl
  have hout : (s.call n).clearingOut cause = [] := by
    rw [CallRecord.clearingOut, hsilent, h.alerted, h.origin]; rfl
  have hmessages : s.clearMessages (s.call n) cause = s := by rw [clearMessages_eq, hout]; rfl
  have hfirst : s.giveUpWith k n = s.setStation p st none :=
    (giveUp_of_onlyStation h.reservations hparties).trans (if_pos h.station)
  have hsecond : (s.setStation p st none).giveUpWith k n = s.setStation p st none := by
    refine (giveUp_of_onlyStation (s := s.setStation p st none) h.reservations hparties).trans (if_neg ?_)
    rw [setStation_station, if_pos ⟨rfl, rfl⟩]
    exact nofun
  rw [clearWith_of_active h.active, State.clearing, hmessages, hfirst,
    leavePlaces_of_standsNowhere (s := s.setStation p st none) h.nowhere, hsecond, State.retire, endDrain_of_mode]
  exact h.mode

/-- The state once a call that held nothing but its station has ended. -/
def State.endedAt (s : State) (n : CallNo) (p : Fin 4) (st : Fin 2) (cause : Cause) (releases : Nat) : State :=
  (s.setStation p st none).setCall n { CallRecord.blank with lastCause := some cause, releases := releases }

theorem does_clear_onlyStation {b s : State} {n : CallNo} {p : Fin 4} {st : Fin 2} {cause : Cause}
    (h : s.OnlyStation n p st) (hsilent : clearingTable cause = (none, none)) :
    Does b (·.clear n cause) s (s.endedAt n p st cause (s.call n).releases) [] :=
  .pure fun L => clear_of_onlyStation (s := s.relinked L)
    ⟨h.active, h.origin, h.alerted, h.reservations, h.answerer, h.joined, h.station, h.nowhere, h.mode⟩ hsilent

/-! ### An ACCESS entry (R9, R46) -/

theorem eq_of_code_eq {d : List Entry} (hd : d.Pairwise fun x y => dialBefore x.code y.code = true) {e x : Entry} (he : e ∈ d)
    (hx : x ∈ d) (hcode : x.code = e.code) : x = e := by
  obtain ⟨before, after, rfl⟩ := List.append_of_mem he
  obtain ⟨hbefore, hafter⟩ := code_ne_of_ordered hd
  rcases List.mem_append.mp hx with hx | hx
  · exact absurd hcode (hbefore x hx)
  · exact (List.mem_cons.mp hx).resolve_right fun hx => hafter x hx hcode

theorem decrementUses_of_ordered {d : List Entry} (hd : d.Pairwise fun x y => dialBefore x.code y.code = true) {e : Entry}
    {uses : Nat} (he : e ∈ d) (hbody : e.body = .access uses) (h1 : 1 ≤ uses) (h254 : uses ≤ 254) :
    decrementUses e.code d = d.map fun x => if x.code = e.code then { x with body := .access (uses - 1) } else x := by
  rw [decrementUses_eq_map]
  refine List.map_congr_left fun x hx => ?_
  unfold Entry.usedOnce
  split
  next hcode =>
    obtain rfl := eq_of_code_eq hd he hx hcode
    rw [hbody]
    exact if_pos ⟨h1, h254⟩
  next => rfl

theorem entryOf_mem {c : Code} {d : List Entry} {e : Entry} (h : entryOf c d = some e) : e ∈ d := List.mem_of_find?_eq_some h

section
variable {b s : State} {n : CallNo} {p : Fin 4} {st : Fin 2} {e : Entry} {uses : Nat}

theorem does_resolveAccess_denied (h : s.OnlyStation n p st) :
    Does b (fun t => t.resolveAccess n p st e 0) s (s.endedAt n p st .accessDenied (s.call n).releases)
      [(.panel p, progressMsg (BitVec.ofNat 8 st.val) .denied)] :=
  (does_put b s _ _).comp_pure (does_clear_onlyStation h rfl)

theorem does_resolveAccess_already (h : s.OnlyStation n p st) (huses : uses ≠ 0) (hdoor : (s.door p).state ≠ .locked) :
    Does b (fun t => t.resolveAccess n p st e uses) s (s.endedAt n p st .accessDone (s.call n).releases)
      [(.panel p, progressMsg (BitVec.ofNat 8 st.val) .opened)] := by
  refine ((does_put b s (.panel p) (progressMsg (BitVec.ofNat 8 st.val) .opened)).comp_pure
    (does_clear_onlyStation h (cause := .accessDone) rfl)).via fun L => ?_
  rw [State.resolveAccess, if_neg huses, requestRelease_of_unlocked (s := s.relinked L) hdoor]
  rfl

/-- The directory with one use of an ACCESS entry less. -/
def State.usedOnce (s : State) (e : Entry) (uses : Nat) : State :=
  if uses = 255 then s else { s with directory := decrementUses e.code s.directory }

theorem usedOnce_relinked (s : State) (L : Vector LinkUnit 13) (e : Entry) (uses : Nat) :
    (s.relinked L).usedOnce e uses = (s.usedOnce e uses).relinked L := by
  unfold State.usedOnce
  split <;> rfl

theorem usedOnce_frame (s : State) (e : Entry) (uses : Nat) :
    s.usedOnce e uses = { s with directory := if uses = 255 then s.directory else decrementUses e.code s.directory } := by
  unfold State.usedOnce
  split <;> rfl

theorem does_startRelease (b s : State) (n : CallNo) (p : Fin 4) (st : Fin 2) (kind : ReleaseKind) (granting : Option Party)
    (code : Code) :
    Does b (·.startRelease n p st kind granting code) s (s.releasing n p (s.releaseRecord p st kind granting code))
      [(.panel p, unlockMsg (BitVec.ofNat 8 st.val) s.params.releaseTime)] := by
  intro L pre hL hroom
  exact startRelease_sent (s := s.relinked L) (room_of_links (s := b.relinked L) rfl (Alike.room hL hroom))

theorem resolveAccess_of_locked {s : State} (huses : uses ≠ 0) (hdoor : (s.door p).state = .locked)
    (hup : (s.link (.panel p)).state ≠ .down) :
    s.resolveAccess n p st e uses =
      (((s.startRelease n p st .byCode none e.code).usedOnce e uses).sendProgress p st .opened).clear n .accessDone := by
  rw [State.resolveAccess, if_neg huses, requestRelease_of_locked hdoor hup]
  rfl

theorem does_resolveAccess_started (h : s.OnlyStation n p st) (huses : uses ≠ 0) (hdoor : (s.door p).state = .locked) :
    Does b (fun t => t.resolveAccess n p st e uses) s
      (State.endedAt ((s.releasing n p (s.releaseRecord p st .byCode none e.code)).usedOnce e uses) n p st .accessDone
        (min ((s.call n).releases + 1) 255))
      [(.panel p, unlockMsg (BitVec.ofNat 8 st.val) s.params.releaseTime),
        (.panel p, progressMsg (BitVec.ofNat 8 st.val) .opened)] := by
  let x := s.releaseRecord p st .byCode none e.code
  let y := (s.releasing n p x).usedOnce e uses
  have hcall : y.call n = { s.call n with releases := min ((s.call n).releases + 1) 255 } := by
    show ((s.releasing n p x).usedOnce e uses).call n = _
    rw [usedOnce_frame]
    exact Vector.getElem_set_self ..
  have hy : y.OnlyStation n p st := by
    have hstation : y.station p st = s.station p st := by
      show ((s.releasing n p x).usedOnce e uses).station p st = _
      rw [usedOnce_frame]; rfl
    have hmode : y.mode = s.mode := by
      show ((s.releasing n p x).usedOnce e uses).mode = _
      rw [usedOnce_frame]; rfl
    have hnowhere : y.StandsNowhere n := by
      show ((s.releasing n p x).usedOnce e uses).StandsNowhere n
      rw [usedOnce_frame]; exact h.nowhere
    exact ⟨by rw [hcall]; exact h.active, by rw [hcall]; exact h.origin, by rw [hcall]; exact h.alerted,
      by rw [hcall]; exact h.reservations, by rw [hcall]; exact h.answerer, by rw [hcall]; exact h.joined,
      hstation.trans h.station, hnowhere, by rw [hmode]; exact h.mode⟩
  have hused : Does b (·.usedOnce e uses) (s.releasing n p x) y [] := .pure fun L => usedOnce_relinked ..
  have hends := does_clear_onlyStation (b := b) hy (cause := .accessDone) rfl
  rw [hcall] at hends
  have hall := (((does_startRelease b s n p st .byCode none e.code).comp_pure hused).comp
    (does_put b y (.panel p) (progressMsg (BitVec.ofNat 8 st.val) .opened))).comp_pure hends
  intro L pre hL hroom
  have hup : (((s.relinked L).sent pre).link (.panel p)).state ≠ .down := by
    have hup := (hroom (.panel p, unlockMsg (BitVec.ofNat 8 st.val) s.params.releaseTime)
      (List.mem_append_right _ List.mem_cons_self)).1
    rw [sent_link]
    exact (hL (.panel p)).1 ▸ hup
  refine Eq.trans ?_ (hall L pre hL hroom)
  exact resolveAccess_of_locked (s := (s.relinked L).sent pre) huses hdoor hup

end

/-! ### Digits put to the directory by an ENTRANCE call (R6, R8, R9) -/

theorem noticeOf_congr {s z u : State} (h : z.maskedPending = s.maskedPending) : noticeOf s u = noticeOf z u := by
  rw [noticeOf, noticeOf, h]

theorem resolveExact_of_none {s : State} {n : CallNo} {ds : Code} (hds : (s.call n).digits = ds)
    (h : entryOf ds s.directory = none) : s.resolveExact n = s.outcome n .unknown := by
  rw [State.resolveExact, hds, h]

theorem resolveExact_of_entrance {s : State} {n : CallNo} {p : Fin 4} {st : Fin 2} {ds : Code} {e : Entry}
    (hds : (s.call n).digits = ds) (ho : (s.call n).origin = some (.station p st)) (h : entryOf ds s.directory = some e) :
    s.resolveExact n = s.resolveEntrance n p st e := by
  rw [State.resolveExact, hds, h]
  dsimp only
  rw [ho]

theorem forwards_of_not_forwardable {c : CallRecord} {cause : Cause} (h : ¬ cause.Forwardable) : c.forwards cause = false :=
  Bool.eq_false_iff.mpr fun e => h ((forwards_iff _ _).mp e).2

theorem resolveEntrance_barred {s : State} {n : CallNo} {p : Fin 4} {st : Fin 2} {e : Entry}
    (h : e.entrances.getLsbD p.val = false ∨ e.body = .barred) : s.resolveEntrance n p st e = s.outcome n .barred := by
  unfold State.resolveEntrance
  split
  · rfl
  next hopen => rw [h.resolve_left hopen]

theorem resolveEntrance_of_open {s : State} {n : CallNo} {p : Fin 4} {st : Fin 2} {e : Entry}
    (h : e.entrances.getLsbD p.val = true) :
    s.resolveEntrance n p st e =
      match e.body with
      | .flat ts f c d alert => (s.takeCopy n ⟨.flat ts, f, c, d, alert, e.code⟩).targetCheck n
      | .desk => (s.takeCopy n (deskCopy false e.code)).hunt n
      | .access uses => s.resolveAccess n p st e uses
      | .barred => s.outcome n .barred :=
  if_neg (by rw [h]; decide)

theorem takeCopy_recounted (z : State) (n : CallNo) (w : Option StateCount) (x : Resolved) :
    (z.recounted n w).takeCopy n x = z.setCall n { z.call n with resolved := some x, stateCount := none } := by
  rw [State.takeCopy, recounted_call]
  exact setCall_setCall ..

theorem endedAt_recounted (z : State) (n : CallNo) (w : Option StateCount) (p : Fin 4) (st : Fin 2) (cause : Cause)
    (releases : Nat) : (z.recounted n w).endedAt n p st cause releases = z.endedAt n p st cause releases :=
  setCall_setCall (z.setStation p st none) n _ _

/-- The state once an ACCESS entry has released the door and the call that asked for it has ended. -/
def State.accessDoneAt (s : State) (n : CallNo) (p : Fin 4) (st : Fin 2) (e : Entry) (uses : Nat) : State :=
  let x := s.releaseRecord p st .byCode none e.code
  { s.endedAt n p st .accessDone (min ((s.call n).releases + 1) 255) with
    directory := if uses = 255 then s.directory else decrementUses e.code s.directory
    doors := s.doors.set p
      { state := .released, releaseTimer := some (s.params.releaseTime * 800), heldOpenTimer := none }
    journal := s.journalWith x
    journalSeq := (s.journalSeq + 1) % 65536
    overwrites := if decide (64 ≤ s.journal.length) then min (s.overwrites + 1) 65535 else s.overwrites
    attention := s.attention ||| s.journalClass x }

theorem endedAt_of_released (s : State) (n : CallNo) (p : Fin 4) (st : Fin 2) (e : Entry) (uses : Nat) :
    State.endedAt ((s.releasing n p (s.releaseRecord p st .byCode none e.code)).usedOnce e uses) n p st .accessDone
      (min ((s.call n).releases + 1) 255) = s.accessDoneAt n p st e uses := by
  rw [usedOnce_frame]
  exact congrArg (fun v => ({ s.accessDoneAt n p st e uses with calls := v } : State)) (Vector.set_set ..)

theorem accessDoneAt_recounted (s : State) (n : CallNo) (w : Option StateCount) (p : Fin 4) (st : Fin 2) (e : Entry)
    (uses : Nat) : (s.recounted n w).accessDoneAt n p st e uses = s.accessDoneAt n p st e uses := by
  have hreleases : ((s.recounted n w).call n).releases = (s.call n).releases := by rw [recounted_call]
  rw [State.accessDoneAt, hreleases, endedAt_recounted]
  rfl

section
variable {i : Instr} {s z : State} {f : State → State} {base : LinkId → LinkUnit} {n : CallNo} {p : Fin 4} {st : Fin 2}
  {w : Option StateCount} {e : Entry}

theorem Runs.resolves_flat (h : Runs i s f base []) (hlinks : z.links = s.links)
    (hpending : z.maskedPending = s.maskedPending)
    (hf : ∀ L, s.Alike L → f (s.relinked L) = ((z.recounted n w).relinked L).resolveEntrance n p st e)
    (hopen : e.entrances.getLsbD p.val = true) {ts : List (Fin 8 × Fin 63)} {fb cmp dup : Bool} {alert : Nat}
    (hbody : e.body = .flat ts fb cmp dup alert) :
    ChecksTargets i s (z.setCall n { z.call n with resolved := some ⟨.flat ts, fb, cmp, dup, alert, e.code⟩, stateCount := none })
      n base [] := by
  refine h.checksTargets (g := fun t => t) hlinks hpending (fun L hL => ?_) (replies_none _ n)
  rw [hf L hL, resolveEntrance_of_open hopen, hbody, ← takeCopy_recounted z n w]
  rfl

theorem Runs.resolves_desk (h : Runs i s f base []) (hlinks : z.links = s.links)
    (hpending : z.maskedPending = s.maskedPending) (hactive : (z.call n).state ≠ .idle) (hwait : (z.call n).waitCount = none)
    (hf : ∀ L, s.Alike L → f (s.relinked L) = ((z.recounted n w).relinked L).resolveEntrance n p st e)
    (hopen : e.entrances.getLsbD p.val = true) (hbody : e.body = .desk) :
    HuntsDesk i s (z.setCall n { z.call n with resolved := some (deskCopy false e.code), stateCount := none }) n base [] [] := by
  refine h.hunts hlinks hpending ?_ ?_ fun L hL => ?_
  · rw [setCall_call_self]; exact hactive
  · rw [setCall_call_self]; exact hwait
  · rw [hf L hL, resolveEntrance_of_open hopen, hbody, ← takeCopy_recounted z n w]
    rfl

theorem State.OnlyStation.recounted (h : z.OnlyStation n p st) (w : Option StateCount) : (z.recounted n w).OnlyStation n p st := by
  have hcall := recounted_call z n w
  exact ⟨by rw [hcall]; exact h.active, by rw [hcall]; exact h.origin, by rw [hcall]; exact h.alerted,
    by rw [hcall]; exact h.reservations, by rw [hcall]; exact h.answerer, by rw [hcall]; exact h.joined, h.station, h.nowhere,
    h.mode⟩

theorem Runs.resolves_access (h : Runs i s f base [])
    (hpending : z.maskedPending = s.maskedPending)
    (hf : ∀ L, s.Alike L → f (s.relinked L) = ((z.recounted n w).relinked L).resolveEntrance n p st e)
    (hopen : e.entrances.getLsbD p.val = true) {uses : Nat} (hbody : e.body = .access uses) (honly : z.OnlyStation n p st) :
    (uses = 0 → Answers i s (z.endedAt n p st .accessDenied (z.call n).releases) base
      [(.panel p, progressMsg (BitVec.ofNat 8 st.val) .denied)]) ∧
    (uses ≠ 0 → (z.door p).state ≠ .locked → Answers i s (z.endedAt n p st .accessDone (z.call n).releases) base
      [(.panel p, progressMsg (BitVec.ofNat 8 st.val) .opened)]) ∧
    (uses ≠ 0 → (z.door p).state = .locked →
      Answers i s (z.accessDoneAt n p st e uses) base
        ([(.panel p, unlockMsg (BitVec.ofNat 8 st.val) z.params.releaseTime),
          (.panel p, progressMsg (BitVec.ofNat 8 st.val) .opened)] ++
            z.notice (z.journalClass (z.releaseRecord p st .byCode none e.code)))) := by
  have hwork : ∀ L, s.Alike L → f (s.relinked L) = ((z.recounted n w).relinked L).resolveAccess n p st e uses := by
    intro L hL
    rw [hf L hL, resolveEntrance_of_open hopen, hbody]
  have honly' := honly.recounted w
  have hreleases : ((z.recounted n w).call n).releases = (z.call n).releases := by rw [recounted_call]
  refine ⟨?_, fun huses hdoor => ?_, fun huses hdoor => ?_⟩
  · rintro rfl
    rw [← hreleases, ← endedAt_recounted z n w]
    exact h.answers_quiet (fun hr L hL => (hwork L hL).trans ((does_resolveAccess_denied honly').apply hr L hL)) hpending
  · rw [← hreleases, ← endedAt_recounted z n w]
    exact h.answers_quiet (fun hr L hL => (hwork L hL).trans ((does_resolveAccess_already honly' huses hdoor).apply hr L hL))
      hpending
  · have hdoes := does_resolveAccess_started (b := s) (e := e) honly' huses hdoor
    rw [endedAt_of_released, accessDoneAt_recounted] at hdoes
    have hanswers := h.answers (notice := z.notice (z.journalClass (z.releaseRecord p st .byCode none e.code)))
      (fun hr L hL => (hwork L hL).trans (hdoes.apply hr L hL)) ((noticeOf_congr hpending).trans (noticeOf_raised rfl rfl))
    rwa [List.append_nil] at hanswers

end

theorem decrementUses_of_found {z : State} (hz : DirectoryOrdered z) {ds : Code} {e : Entry} {uses : Nat}
    (he : entryOf ds z.directory = some e) (hbody : e.body = .access uses) (huses : uses ≠ 0) :
    (if uses = 255 then z.directory else decrementUses e.code z.directory) =
      if uses = 255 then z.directory
      else z.directory.map fun x => if x.code = e.code then { x with body := .access (uses - 1) } else x := by
  obtain ⟨-, -, -, -, hkept⟩ := hz.entries e (entryOf_mem he)
  rw [hbody] at hkept
  split
  · rfl
  next h255 =>
    exact decrementUses_of_ordered hz.order (entryOf_mem he) hbody (Nat.one_le_iff_ne_zero.mpr huses)
      (Nat.le_of_lt_succ (lt_of_le_of_ne hkept h255))

/-- A command that puts the digits of an ENTRANCE call to the directory. -/
theorem Runs.resolvesCode {i : Instr} {s z : State} {f : State → State} {base : LinkId → LinkUnit} {n : CallNo} {p : Fin 4}
    {st : Fin 2} {ds : Code} (h : Runs i s f base []) (w : Option StateCount) (hlinks : z.links = s.links)
    (hpending : z.maskedPending = s.maskedPending) (hactive : (z.call n).state ≠ .idle)
    (ho : (z.call n).origin = some (.station p st)) (hds : (z.call n).digits = ds)
    (hf : ∀ L, s.Alike L → f (s.relinked L) = ((z.recounted n w).relinked L).resolveExact n) :
    ResolvesCode i s z n p st base ds := by
  have hcall := recounted_call z n w
  have hactive' : ((z.recounted n w).call n).state ≠ .idle := by rw [hcall]; exact hactive
  have hds' : ((z.recounted n w).call n).digits = ds := by rw [hcall]; exact hds
  have ho' : ((z.recounted n w).call n).origin = some (.station p st) := by rw [hcall]; exact ho
  have hclears : ∀ cause, ¬ cause.Forwardable → cause ≠ .congestion →
      (∀ L, s.Alike L → f (s.relinked L) = ((z.recounted n w).relinked L).outcome n cause) →
      Clears i s z n cause base := fun cause hno hcause hf' =>
    (h.clears_by_outcome (z := z.recounted n w) hlinks hpending hactive' (forwards_of_not_forwardable hno) hcause hf').of_recounted
  refine ⟨fun hnone => ?_, fun e he => ?_⟩
  · exact hclears .unknown nofun nofun fun L hL => (hf L hL).trans
      (resolveExact_of_none (s := (z.recounted n w).relinked L) hds' hnone)
  have hentry : ∀ L, s.Alike L → f (s.relinked L) = ((z.recounted n w).relinked L).resolveEntrance n p st e :=
    fun L hL => (hf L hL).trans (resolveExact_of_entrance (s := (z.recounted n w).relinked L) hds' ho' he)
  refine ⟨fun hbarred => ?_, fun hopen => ⟨fun ts fb cmp dup at' hbody => ?_, fun hbody hwait => ?_, ?_⟩⟩
  · exact hclears .barred nofun nofun fun L hL => (hentry L hL).trans (resolveEntrance_barred hbarred)
  · exact h.resolves_flat hlinks hpending hentry hopen hbody
  · exact h.resolves_desk hlinks hpending hactive hwait hentry hopen hbody
  · intro uses hbody halerted hres hanswerer hjoined hstation hnowhere hmode ended record full journal raised
    have honly : z.OnlyStation n p st := ⟨hactive, ho, halerted, hres, hanswerer, hjoined, hstation, hnowhere, hmode⟩
    obtain ⟨hdenied, halready, hstarted⟩ := h.resolves_access hpending hentry hopen hbody honly
    refine ⟨hdenied, halready, fun huses hdoor hordered => ?_⟩
    have hstarted := hstarted huses hdoor
    rw [State.accessDoneAt, decrementUses_of_found hordered he hbody huses] at hstarted
    exact hstarted

/-! ### The keys of a station (R5, R6, R7) -/

theorem properPrefix_iff (c d : Code) : properPrefix c d = true ↔ c <+: d ∧ c ≠ d := by
  induction c generalizing d with
  | nil => cases d <;> simp [properPrefix]
  | cons x xs ih =>
    cases d with
    | nil => simp [properPrefix]
    | cons y ys =>
      rw [properPrefix, Bool.and_eq_true_iff, decide_eq_true_iff, ih, List.cons_prefix_cons]
      constructor
      · rintro ⟨rfl, hprefix, hne⟩
        exact ⟨⟨rfl, hprefix⟩, fun e => hne (List.cons.inj e).2⟩
      · rintro ⟨⟨rfl, hprefix⟩, hne⟩
        exact ⟨rfl, hprefix, fun e => hne (e ▸ rfl)⟩

theorem longerCode_iff (c : Code) (d : List Entry) :
    longerCode c d = true ↔ c.length < 6 ∧ ∃ e ∈ d, c <+: e.code ∧ c ≠ e.code := by
  rw [longerCode, Bool.and_eq_true_iff, decide_eq_true_iff, List.any_eq_true]
  simp only [properPrefix_iff]

theorem longerCode_of_last {c : Code} {d : List Entry} (h : ∀ e ∈ d, c <+: e.code → e.code = c) : longerCode c d = false :=
  Bool.eq_false_iff.mpr fun hlonger =>
    have ⟨_, e, he, hprefix, hne⟩ := (longerCode_iff c d).mp hlonger
    hne (h e he hprefix).symm

theorem afterDigit_of_last {s : State} {n : CallNo} {ds : Code} (hds : (s.call n).digits = ds)
    (h : ∀ e ∈ s.directory, ds <+: e.code → e.code = ds) : s.afterDigit n = s.resolveExact n := by
  rw [State.afterDigit, hds, longerCode_of_last h]
  rfl

theorem afterDigit_of_longer {s : State} {n : CallNo} {ds : Code} (hds : (s.call n).digits = ds) (hlen : ds.length < 6)
    {e : Entry} (he : e ∈ s.directory) (hprefix : ds <+: e.code) (hne : ds ≠ e.code) :
    s.afterDigit n = s.setCall n { s.call n with stateCount := some ⟨.digit, s.params.digitTime * 800⟩ } := by
  rw [State.afterDigit, hds, if_pos ((longerCode_iff _ _).mpr ⟨hlen, e, he, hprefix, hne⟩)]
  rfl

theorem keysDigit_of_dialling {s : State} {p : Fin 4} {st : Fin 2} {n : CallNo} (d : Fin 10) (hs : s.station p st = some n)
    (hstate : (s.call n).state = .dialling) :
    s.keysDigit d p st = (s.setCall n { s.call n with digits := (s.call n).digits ++ [d.val] }).afterDigit n := by
  rw [State.keysDigit, hs]
  exact if_pos hstate

theorem keysDigit_of_free {s : State} {p : Fin 4} {st : Fin 2} {n : CallNo} (d : Fin 10) (hs : s.station p st = none)
    (hmode : s.mode = .run) (hidle : s.FirstIdle n) :
    s.keysDigit d p st =
      ((s.setStation p st (some n)).setCall n (.taken .entrance .dialling (.station p st) [d.val])).afterDigit n := by
  rw [State.keysDigit, hs]
  dsimp only
  rw [create_of_firstIdle _ _ _ _ hmode hidle]
  rfl

theorem keysCall_of_dialling {s : State} {p : Fin 4} {st : Fin 2} {n : CallNo} (hs : s.station p st = some n)
    (hstate : (s.call n).state = .dialling) : s.keysCall p st = s.resolveExact n := by
  rw [State.keysCall, hs]
  exact if_pos hstate

theorem digitExpires_of_due {s : State} {n : CallNo} (hstate : (s.call n).state = .dialling)
    (hdue : (s.call n).stateCount = some ⟨.digit, 0⟩) : State.digitExpires n s = (s.recounted n none).resolveExact n := by
  refine if_pos ⟨hstate, ?_⟩
  rw [CallRecord.stateRanOut, hdue]
  rfl

theorem digitExpires_early {s : State} {n : CallNo} (h : (s.call n).stateCount ≠ some ⟨.digit, 0⟩) :
    exec (.digitTimerExpiry n) s = .next s := by
  refine congrArg Host.Outcome.next (event_of_unchanged (if_neg fun hdue => h (of_decide_eq_true hdue.2)))

theorem recount_setCall (s : State) (n : CallNo) (c : CallRecord) (w : Option StateCount) (hw : c.stateCount = w) :
    (s.setCall n c).recounted n w = s.setCall n c := by
  subst hw
  rw [State.recounted, setCall_call_self, setCall_setCall]

section
variable {s : State} {p : Fin 4} {st : Fin 2} {n : CallNo} {m : Message}

theorem runs_keyCall (hexists : s.stationExists p (BitVec.ofNat 8 st.val) = true)
    (hdel : s.deliverable (.panel p) (keyMsg (BitVec.ofNat 8 st.val) 0x0A#8) = true) :
    Runs (.keyCall p (BitVec.ofNat 8 st.val)) s (State.keysCall p st)
      (s.taking (.panel p) (keyMsg (BitVec.ofNat 8 st.val) 0x0A#8)) [] := runs_station rfl hexists rfl hdel

theorem runs_keyDigit (d : Fin 10) (hexists : s.stationExists p (BitVec.ofNat 8 st.val) = true)
    (hdel : s.deliverable (.panel p) (keyMsg (BitVec.ofNat 8 st.val) (BitVec.ofNat 8 d.val)) = true) :
    Runs (.keyDigit p (BitVec.ofNat 8 st.val) d) s (State.keysDigit d p st)
      (s.taking (.panel p) (keyMsg (BitVec.ofNat 8 st.val) (BitVec.ofNat 8 d.val))) [] := runs_station rfl hexists rfl hdel

theorem keyCall_resolves (hexists : s.stationExists p (BitVec.ofNat 8 st.val) = true)
    (hdel : s.deliverable (.panel p) (keyMsg (BitVec.ofNat 8 st.val) 0x0A#8) = true) (hs : s.station p st = some n)
    (hstate : (s.call n).state = .dialling) (ho : (s.call n).origin = some (.station p st)) :
    ResolvesCode (.keyCall p (BitVec.ofNat 8 st.val)) s s n p st
      (s.taking (.panel p) (keyMsg (BitVec.ofNat 8 st.val) 0x0A#8)) (s.call n).digits := by
  refine (runs_keyCall hexists hdel).resolvesCode (s.call n).stateCount rfl rfl (by rw [hstate]; exact nofun) ho rfl fun L _ => ?_
  rw [recounted_self]
  exact keysCall_of_dialling (s := s.relinked L) hs hstate

theorem keyDigit_resolves (d : Fin 10) (hexists : s.stationExists p (BitVec.ofNat 8 st.val) = true)
    (hdel : s.deliverable (.panel p) (keyMsg (BitVec.ofNat 8 st.val) (BitVec.ofNat 8 d.val)) = true)
    (hs : s.station p st = some n) (hstate : (s.call n).state = .dialling) (ho : (s.call n).origin = some (.station p st))
    (hlast : ∀ e ∈ s.directory, (s.call n).digits ++ [d.val] <+: e.code → e.code = (s.call n).digits ++ [d.val]) :
    ResolvesCode (.keyDigit p (BitVec.ofNat 8 st.val) d) s
      (s.setCall n { s.call n with digits := (s.call n).digits ++ [d.val] }) n p st
      (s.taking (.panel p) (keyMsg (BitVec.ofNat 8 st.val) (BitVec.ofNat 8 d.val))) ((s.call n).digits ++ [d.val]) := by
  have hcall := setCall_call_self s n { s.call n with digits := (s.call n).digits ++ [d.val] }
  refine (runs_keyDigit d hexists hdel).resolvesCode (s.call n).stateCount rfl rfl ?_ ?_ ?_ fun L _ => ?_
  · rw [hcall]; show (s.call n).state ≠ _; rw [hstate]; exact nofun
  · rw [hcall]; exact ho
  · rw [hcall]
  · rw [recount_setCall _ _ _ _ rfl, keysDigit_of_dialling (s := s.relinked L) d hs hstate]
    exact afterDigit_of_last (s := (s.relinked L).setCall n _) (congrArg CallRecord.digits (setCall_call_self ..)) hlast

theorem keyDigit_creates_resolved (d : Fin 10) (hexists : s.stationExists p (BitVec.ofNat 8 st.val) = true)
    (hdel : s.deliverable (.panel p) (keyMsg (BitVec.ofNat 8 st.val) (BitVec.ofNat 8 d.val)) = true)
    (hs : s.station p st = none) (hmode : s.mode = .run) (hidle : s.FirstIdle n)
    (hlast : ∀ e ∈ s.directory, [d.val] <+: e.code → e.code = [d.val]) :
    ResolvesCode (.keyDigit p (BitVec.ofNat 8 st.val) d) s
      ((s.setStation p st (some n)).setCall n (.taken .entrance .dialling (.station p st) [d.val])) n p st
      (s.taking (.panel p) (keyMsg (BitVec.ofNat 8 st.val) (BitVec.ofNat 8 d.val))) [d.val] := by
  have hcall := setCall_call_self (s.setStation p st (some n)) n (.taken .entrance .dialling (.station p st) [d.val])
  refine (runs_keyDigit d hexists hdel).resolvesCode none rfl rfl ?_ ?_ ?_ fun L _ => ?_
  · rw [hcall]; exact nofun
  · rw [hcall]; rfl
  · rw [hcall]; rfl
  · rw [recount_setCall (s.setStation p st (some n)) n (.taken .entrance .dialling (.station p st) [d.val]) none rfl,
      keysDigit_of_free (s := s.relinked L) d hs hmode hidle]
    exact afterDigit_of_last (s := ((s.relinked L).setStation p st (some n)).setCall n _)
      (congrArg CallRecord.digits (setCall_call_self ..)) hlast

theorem digitTimerExpiry_resolves (hstate : (s.call n).state = .dialling) (ho : (s.call n).origin = some (.station p st))
    (hdue : (s.call n).stateCount = some ⟨.digit, 0⟩) :
    ResolvesCode (.digitTimerExpiry n) s s n p st s.link (s.call n).digits :=
  (runs_event rfl).resolvesCode none rfl rfl (by rw [hstate]; exact nofun) ho rfl fun L _ =>
    digitExpires_of_due (s := s.relinked L) hstate hdue

end

/-- A command delivers one message. -/
theorem delivery_unique {i : Instr} {l : LinkId} {m m' : Message} (h : i.delivery = some (l, m))
    (h' : i.delivery = some (l, m')) : m = m' := (Prod.mk.inj (Option.some.inj (h.symm.trans h'))).2

/-- Settles O31: every command of the statement comes to the digits of an ENTRANCE call put to the directory. -/
theorem exactCodeRingsTheFlat : Obligations.ExactCodeRingsTheFlat := by
  intro s p st n addr keyed last
  refine ⟨fun hstate ho => ⟨fun i m hkeyed hs => ⟨?_, ?_⟩, digitTimerExpiry_resolves hstate ho, fun f hf hne => ?_⟩, ?_⟩
  · rintro rfl
    obtain ⟨hexists, hdel, hm⟩ := hkeyed
    obtain rfl := delivery_unique (m := keyMsg addr 0x0A#8) rfl hm
    exact keyCall_resolves hexists hdel hs hstate ho
  · intro d ds hi hlast
    subst hi
    obtain ⟨hexists, hdel, hm⟩ := hkeyed
    obtain rfl := delivery_unique (m := keyMsg addr (BitVec.ofNat 8 d.val)) rfl hm
    exact keyDigit_resolves d hexists hdel hs hstate ho hlast
  · refine digitExpires_early fun e => hne ?_
    rw [hf] at e
    exact congrArg StateCount.frames (Option.some.inj e)
  · rintro m d ⟨hexists, hdel, hm⟩ hs hmode hidle hlast
    obtain rfl := delivery_unique (m := keyMsg addr (BitVec.ofNat 8 d.val)) rfl hm
    exact keyDigit_creates_resolved d hexists hdel hs hmode hidle hlast

/-! ### A digit that ends nothing (R3, R6) -/

theorem outcome_station {s : State} {n : CallNo} {p : Fin 4} {st : Fin 2} {cause : Cause} (hactive : (s.call n).state ≠ .idle)
    (hforwards : (s.call n).forwards cause = false) (ho : (s.call n).origin = some (.station p st))
    (hs : s.station p st = some n) : (s.outcome n cause).station p st = none := by
  have hmoves := eventWorks_outcome (T := fun _ => True) s (n := n) cause trivial fun _ _ => trivial
  have hown : (s.outcome n cause).OwnStation n p st :=
    CallMoves.keeps (P := fun u => u.OwnStation n p st) (fun _ _ hm => hm.ownStation) hmoves (.inr ⟨ho, hs⟩)
  have hended : (s.outcome n cause).call n = _ := (clearedWith_outcome plain_full hactive hforwards).1
  exact hown.elim id fun e => by rw [hended] at e; exact absurd e.1 nofun

section
variable {s : State} {p : Fin 4} {st : Fin 2} {n : CallNo} {d : Fin 10}

theorem keyDigit_waits (hexists : s.stationExists p (BitVec.ofNat 8 st.val) = true)
    (hdel : s.deliverable (.panel p) (keyMsg (BitVec.ofNat 8 st.val) (BitVec.ofNat 8 d.val)) = true)
    {ds : Code} (hlen : ds.length < 6) {e : Entry} (he : e ∈ s.directory) (hprefix : ds <+: e.code) (hne : ds ≠ e.code)
    {z : State} {c : CallRecord} (hz : z.directory = s.directory) (hpending : z.maskedPending = s.maskedPending)
    (hds : c.digits = ds)
    (hf : ∀ L, s.Alike L → (s.relinked L).keysDigit d p st = ((z.relinked L).setCall n c).afterDigit n) :
    Answers (.keyDigit p (BitVec.ofNat 8 st.val) d) s
      (z.setCall n { c with stateCount := some ⟨.digit, z.params.digitTime * 800⟩ })
      (s.taking (.panel p) (keyMsg (BitVec.ofNat 8 st.val) (BitVec.ofNat 8 d.val))) [] := by
  refine (runs_keyDigit d hexists hdel).answers_quiet (fun hr L hL => ?_) hpending
  have hcall := setCall_call_self (z.relinked L) n c
  rw [hf L hL, afterDigit_of_longer (s := (z.relinked L).setCall n c) (by rw [hcall]; exact hds) hlen
    (by show e ∈ z.directory; rw [hz]; exact he) hprefix hne, hcall]
  exact setCall_setCall (z.relinked L) n c _

theorem keyDigit_unknown (hexists : s.stationExists p (BitVec.ofNat 8 st.val) = true)
    (hdel : s.deliverable (.panel p) (keyMsg (BitVec.ofNat 8 st.val) (BitVec.ofNat 8 d.val)) = true)
    (hs : s.station p st = some n) (hstate : (s.call n).state = .dialling) (ho : (s.call n).origin = some (.station p st))
    (hnone : ∀ e ∈ s.directory, ¬ (s.call n).digits ++ [d.val] <+: e.code) :
    ∃ t, exec (.keyDigit p (BitVec.ofNat 8 st.val) d) s = .next t ∧ t.station p st = none ∧
      Clears (.keyDigit p (BitVec.ofNat 8 st.val) d) s s n .unknown
        (s.taking (.panel p) (keyMsg (BitVec.ofNat 8 st.val) (BitVec.ofNat 8 d.val))) := by
  have hcall := setCall_call_self s n { s.call n with digits := (s.call n).digits ++ [d.val] }
  have hactive : ((s.setCall n { s.call n with digits := (s.call n).digits ++ [d.val] }).call n).state ≠ .idle := by
    rw [hcall]; show (s.call n).state ≠ _; rw [hstate]; exact nofun
  have hforwards : ((s.setCall n { s.call n with digits := (s.call n).digits ++ [d.val] }).call n).forwards .unknown = false :=
    forwards_of_not_forwardable nofun
  have hwork : ∀ L, s.Alike L → (s.relinked L).keysDigit d p st =
      ((s.setCall n { s.call n with digits := (s.call n).digits ++ [d.val] }).relinked L).outcome n .unknown := by
    intro L _
    rw [keysDigit_of_dialling (s := s.relinked L) d hs hstate,
      afterDigit_of_last (s := (s.relinked L).setCall n _) (congrArg CallRecord.digits (setCall_call_self ..))
        fun e he hprefix => absurd hprefix (hnone e he)]
    exact resolveExact_of_none (s := (s.relinked L).setCall n _) (congrArg CallRecord.digits (setCall_call_self ..))
      ((entryOf_eq_none_iff _ _).mpr fun e he hcode => hnone e he (hcode ▸ List.prefix_rfl))
  obtain ⟨t, L, hexec, hcleared, hleaves, halone⟩ := (runs_keyDigit d hexists hdel).outcomes (n := n) (notice := []) plain_full
    (z := s.setCall n { s.call n with digits := (s.call n).digits ++ [d.val] }) rfl hactive hforwards nofun hwork
    (noticeOf_of_kept rfl)
  refine ⟨t, hexec, ?_, Clears.of_setCall ⟨t, hexec, hcleared, hleaves.keeps, halone⟩ rfl rfl (fun _ => .rfl) rfl⟩
  have hstation := outcome_station (s := (s.setCall n { s.call n with digits := (s.call n).digits ++ [d.val] }).relinked L)
    hactive hforwards (by rw [relinked_call, hcall]; exact ho) hs
  rw [hleaves.frame]
  exact hstation

theorem keyDigit_refused (hexists : s.stationExists p (BitVec.ofNat 8 st.val) = true)
    (hdel : s.deliverable (.panel p) (keyMsg (BitVec.ofNat 8 st.val) (BitVec.ofNat 8 d.val)) = true)
    (hs : s.station p st = none) :
    CreatesNoCall (.keyDigit p (BitVec.ofNat 8 st.val) d) s (.panel p)
      (keyMsg (BitVec.ofNat 8 st.val) (BitVec.ofNat 8 d.val)) (.panel p, progressMsg (BitVec.ofNat 8 st.val) .closed)
      (.panel p, progressMsg (BitVec.ofNat 8 st.val) .busy) := by
  refine (runs_keyDigit d hexists hdel).createsNoCall fun hfull L _ => ?_
  rw [State.keysDigit, show (s.relinked L).station p st = none from hs]
  dsimp only
  rw [create_of_full (s := s.relinked L) _ _ _ _ hfull]
  rfl

end

/-- Settles O30: a digit that some longer code goes on from waits; one that no code has ends the call; a station that can have
no call is refused. -/
theorem keyDigitIsTaken : Obligations.KeyDigitIsTaken := by
  refine ⟨fun s p st d n ds e hdel hexists hlen he hprefix hne => ⟨fun hs hmode hidle hds => ?_, fun hs hstate hds => ?_⟩,
    fun s p st d n hdel hexists hs hstate ho hnone => ?_, fun s p st d hdel hexists hs => keyDigit_refused hexists hdel hs⟩
  · obtain ⟨t, hexec, hframe, hlinks⟩ := keyDigit_waits (d := d) (z := s.setStation p st (some n))
      (c := .taken .entrance .dialling (.station p st) [d.val]) hexists hdel hlen he hprefix hne rfl rfl hds.symm
      (fun L _ => keysDigit_of_free (s := s.relinked L) d hs hmode hidle) (room_nil s)
    subst hds
    exact ⟨t, hexec, hlinks, hframe⟩
  · obtain ⟨t, hexec, hframe, hlinks⟩ := keyDigit_waits (d := d) (z := s)
      (c := { s.call n with digits := (s.call n).digits ++ [d.val] }) hexists hdel hlen he hprefix hne rfl rfl hds.symm
      (fun L _ => keysDigit_of_dialling (s := s.relinked L) d hs hstate) (room_nil s)
    subst hds
    exact ⟨t, hexec, hlinks, hframe⟩
  · obtain ⟨t, hexec, hstation, t', hexec', hcleared, hkeeps, halone⟩ := keyDigit_unknown hexists hdel hs hstate ho hnone
    obtain rfl := Host.Outcome.next.inj (hexec.symm.trans hexec')
    exact ⟨t, hexec, hcleared, hstation, hkeeps, halone⟩

end Sys2Proof.Machine
end

section
/-!
PROOF. DIAL of a position (O41): the DESK-kind call it creates, and what it is told where none can be created (R3, R22).
-/

namespace Sys2Proof.Machine

theorem position_free_iff (x : Position) : x.free = true ↔ x.loggedOn = true ∧ x.engaged = none := by
  rw [Position.free, Bool.and_eq_true_iff, Option.isNone_iff_eq_none]

/-- The record of a DESK-kind call as it is created. -/
def CallRecord.dialled (q : Fin 6) (ds : Code) : CallRecord := .taken .desk .dialling (.position q) ds

/-- Position `q` engaged by a call `n` with the record `c`. -/
def State.dialling (s : State) (n : CallNo) (q : Fin 6) (c : CallRecord) : State :=
  State.setCall
    { (s.setPosition q { s.position q with engaged := some n }) with idleOrder := s.idleOrder.filter (· ≠ q) } n c

theorem dialling_call (s : State) (n : CallNo) (q : Fin 6) (c : CallRecord) : (s.dialling n q c).call n = c :=
  setCall_call_self ..

/-- What a state does with the end of a DIAL (R22). -/
theorem acceptDial_replies {z : State} {n : CallNo} (q : Fin 6) (hkind : (z.call n).kind = some .desk) :
    Replies (fun t => t.acceptDial n q) z n [(.trunk, replyMsg (BitVec.ofNat 8 q.val) .accepted)] := by
  refine ⟨fun x hx => ?_, fun x hx => ?_, fun hmay => ?_⟩
  · unfold State.acceptDial
    rcases hx with h | h | h <;> rw [h] <;> rfl
  · unfold State.acceptDial
    rw [hx]
  · exact absurd (hmay.1.symm.trans hkind) nofun

section
variable {s : State} {q : Fin 6} {f : CodeField} {n : CallNo}

theorem runs_dial (hdel : s.deliverable .trunk ⟨BitVec.ofNat 8 q.val, 0x23#8, f.octets⟩ = true) :
    Runs (.dial (BitVec.ofNat 8 q.val) f) s (State.dials f q)
      (s.taking .trunk ⟨BitVec.ofNat 8 q.val, 0x23#8, f.octets⟩) [] := runs_position rfl rfl hdel

theorem dials_of_free (hcode : f.code = some f.digits) (hfree : (s.position q).free = true) (hmode : s.mode = .run)
    (hidle : s.FirstIdle n) :
    s.dials f q = ((s.dialling n q (.dialled q f.digits)).resolveExact n).acceptDial n q := by
  rw [State.dials, hcode]
  dsimp only
  rw [if_pos hfree, create_of_firstIdle _ _ _ _ hmode hidle]
  rfl

theorem dials_of_full (hcode : f.code = some f.digits) (hfree : (s.position q).free = true) (hfull : s.Full) :
    s.dials f q = s.refuseCaller (.position q) := by
  rw [State.dials, hcode]
  dsimp only
  rw [if_pos hfree, create_of_full _ _ _ _ hfull]

theorem dials_refused (h : f.code = none ∨ (s.position q).free = false) :
    s.dials f q = s.sendReply (.position q) .refused := by
  unfold State.dials
  split
  next c hc =>
    rw [if_neg]
    intro hfree
    exact h.elim (fun e => nomatch e.symm.trans hc) fun e => nomatch e.symm.trans hfree
  next => rfl

theorem resolveExact_of_desk {e : Entry} {c : CallRecord} (ho : c.origin = some (.position q)) (hds : c.digits = f.digits)
    (he : entryOf f.digits s.directory = some e) :
    (s.dialling n q c).resolveExact n = (s.dialling n q c).resolveDesk n e := by
  rw [State.resolveExact, dialling_call, hds, show entryOf f.digits (s.dialling n q c).directory = some e from he]
  dsimp only
  rw [ho]

theorem dial_checks (hcode : f.code = some f.digits) (hfree : (s.position q).free = true) (hmode : s.mode = .run)
    (hidle : s.FirstIdle n) (hdel : s.deliverable .trunk ⟨BitVec.ofNat 8 q.val, 0x23#8, f.octets⟩ = true)
    {e : Entry} {ts : List (Fin 8 × Fin 63)} {fb cmp dup : Bool} {alert : Nat} (he : entryOf f.digits s.directory = some e)
    (hbody : e.body = .flat ts fb cmp dup alert) :
    ChecksTargets (.dial (BitVec.ofNat 8 q.val) f) s
      (s.dialling n q { CallRecord.dialled q f.digits with resolved := some ⟨.flat ts, fb, cmp, dup, alert, e.code⟩ }) n
      (s.taking .trunk ⟨BitVec.ofNat 8 q.val, 0x23#8, f.octets⟩) [(.trunk, replyMsg (BitVec.ofNat 8 q.val) .accepted)] := by
  refine (runs_dial hdel).checksTargets (g := fun t => t.acceptDial n q) rfl rfl (fun L _ => ?_)
    (acceptDial_replies q (by rw [dialling_call]; rfl))
  rw [dials_of_free (s := s.relinked L) hcode hfree hmode hidle, resolveExact_of_desk (s := s.relinked L) rfl rfl he,
    State.resolveDesk, hbody]
  dsimp only
  rw [State.takeCopy, dialling_call]
  exact congrArg (fun t => (State.targetCheck t n).acceptDial n q)
    (setCall_setCall { ((s.relinked L).setPosition q { s.position q with engaged := some n }) with
      idleOrder := s.idleOrder.filter (· ≠ q) } n _ _)

theorem resolveExact_unknown {s : State}
    (hno : ∀ e, entryOf f.digits s.directory = some e → ∀ ts fb cmp dup at', e.body ≠ .flat ts fb cmp dup at') :
    (s.dialling n q (.dialled q f.digits)).resolveExact n = (s.dialling n q (.dialled q f.digits)).outcome n .unknown := by
  cases he : entryOf f.digits s.directory with
  | none => exact resolveExact_of_none (by rw [dialling_call]; rfl) he
  | some e =>
    rw [resolveExact_of_desk rfl rfl he]
    unfold State.resolveDesk
    split
    next ts fb cmp dup at' hbody => exact absurd hbody (hno e he ts fb cmp dup at')
    next => rfl

theorem dial_unknown (hcode : f.code = some f.digits) (hfree : (s.position q).free = true) (hmode : s.mode = .run)
    (hidle : s.FirstIdle n) (hdel : s.deliverable .trunk ⟨BitVec.ofNat 8 q.val, 0x23#8, f.octets⟩ = true)
    (hno : ∀ e, entryOf f.digits s.directory = some e → ∀ ts fb cmp dup at', e.body ≠ .flat ts fb cmp dup at') :
    Clears (.dial (BitVec.ofNat 8 q.val) f) s (s.dialling n q (.dialled q f.digits)) n .unknown
      (s.taking .trunk ⟨BitVec.ofNat 8 q.val, 0x23#8, f.octets⟩) := by
  have hactive : ((s.dialling n q (.dialled q f.digits)).call n).state ≠ .idle := by rw [dialling_call]; exact nofun
  have hforwards : ((s.dialling n q (.dialled q f.digits)).call n).forwards .unknown = false := forwards_of_not_forwardable nofun
  refine (runs_dial hdel).clears_by_outcome rfl rfl hactive hforwards nofun fun L _ => ?_
  rw [dials_of_free (s := s.relinked L) hcode hfree hmode hidle, resolveExact_unknown (s := s.relinked L) hno]
  have hcleared := clearedWith_outcome plain_full (s := (s.dialling n q (.dialled q f.digits)).relinked L) (n := n) hactive hforwards
  exact (acceptDial_replies (z := s.dialling n q (.dialled q f.digits)) q (by rw [dialling_call]; rfl)).cleared _
    (congrArg CallRecord.state hcleared.1)

theorem dial_creates_none (hcode : f.code = some f.digits) (hfree : (s.position q).free = true)
    (hdel : s.deliverable .trunk ⟨BitVec.ofNat 8 q.val, 0x23#8, f.octets⟩ = true) :
    CreatesNoCall (.dial (BitVec.ofNat 8 q.val) f) s .trunk ⟨BitVec.ofNat 8 q.val, 0x23#8, f.octets⟩
      (.trunk, replyMsg (BitVec.ofNat 8 q.val) .refused) (.trunk, replyMsg (BitVec.ofNat 8 q.val) .refused) := by
  refine (runs_dial hdel).createsNoCall fun hfull L _ => ?_
  rw [dials_of_full (s := s.relinked L) hcode hfree hfull]
  rfl

theorem dial_refused (hdel : s.deliverable .trunk ⟨BitVec.ofNat 8 q.val, 0x23#8, f.octets⟩ = true)
    (h : f.code = none ∨ (s.position q).free = false) :
    Answers (.dial (BitVec.ofNat 8 q.val) f) s s (s.taking .trunk ⟨BitVec.ofNat 8 q.val, 0x23#8, f.octets⟩)
      [(.trunk, replyMsg (BitVec.ofNat 8 q.val) .refused)] :=
  (runs_dial hdel).answers_quiet (fun hr L hL =>
    (dials_refused (s := s.relinked L) h).trans ((does_put s s _ _).apply hr L hL)) rfl

end

/-- Settles O41: the digits of a DIAL are resolved at once, by the target check or to UNKNOWN; a refusal says so alone. -/
theorem dialRingsTheFlat : Obligations.DialRingsTheFlat := by
  refine ⟨fun s q f n h1 h6 hdigits hon hfree hmode hidle hdel => ?_, ?_⟩
  · have hcode := code_of_good ⟨h1, h6, hdigits⟩
    have hposition := (position_free_iff _).mpr ⟨hon, hfree⟩
    exact ⟨fun e ts fb cmp dup at' he hbody => dial_checks hcode hposition hmode hidle hdel he hbody,
      fun hno => dial_unknown hcode hposition hmode hidle hdel hno⟩
  · intro s q f m hdel refused good free
    refine ⟨fun ⟨hgood, hfree⟩ => dial_creates_none (code_of_good hgood) ((position_free_iff _).mpr hfree) hdel,
      fun hnot hroom => ?_⟩
    have hrefused : f.code = none ∨ (s.position q).free = false := by
      by_cases hgood : good
      · exact .inr (Bool.eq_false_iff.mpr fun e => hnot ⟨hgood, (position_free_iff _).mp e⟩)
      · exact .inl (code_of_not_good hgood)
    obtain ⟨t, hexec, hframe, hlinks⟩ := dial_refused hdel hrefused hroom
    exact ⟨t, hexec, hlinks, hframe⟩

end Sys2Proof.Machine
end

section
/-!
PROOF. The expiries of the timers that wait and ring (O56): what an outcome leaves of its call, and the end of a ringing that
nobody answered.
-/

namespace Sys2Proof.Machine

/-! ### What decides the fate of a call -/

/-- A record with the same claim to a fallback and the same releases, IDLE where the other is. -/
structure CallRecord.SameFate (c c' : CallRecord) : Prop where
  kind : c'.kind = c.kind
  resolved : c'.resolved = c.resolved
  forwarded : c'.forwarded = c.forwarded
  releases : c'.releases = c.releases
  idle : c'.state = .idle ↔ c.state = .idle

theorem CallRecord.SameFate.refl (c : CallRecord) : c.SameFate c := ⟨rfl, rfl, rfl, rfl, .rfl⟩

theorem CallRecord.SameFate.trans {c c' c'' : CallRecord} (h : c.SameFate c') (h' : c'.SameFate c'') : c.SameFate c'' :=
  ⟨h'.kind.trans h.kind, h'.resolved.trans h.resolved, h'.forwarded.trans h.forwarded, h'.releases.trans h.releases,
    h'.idle.trans h.idle⟩

theorem CallRecord.SameFate.forwards {c c' : CallRecord} (h : c.SameFate c') (cause : Cause) :
    c'.forwards cause = c.forwards cause := by
  unfold CallRecord.forwards
  rw [h.kind, h.resolved, h.forwarded]

/-- A state in which a call has the same fate. -/
def State.Fated (s t : State) (n : CallNo) : Prop := (s.call n).SameFate (t.call n)

theorem State.Fated.of_call {s t : State} {n : CallNo} (h : t.call n = s.call n) : s.Fated t n := by
  rw [State.Fated, h]; exact .refl _

theorem State.Fated.trans {s t u : State} {n : CallNo} (h : s.Fated t n) (h' : t.Fated u n) : s.Fated u n :=
  CallRecord.SameFate.trans h h'

theorem setCall_fated {s : State} {m n : CallNo} {c : CallRecord} (h : (s.call m).SameFate c) : s.Fated (s.setCall m c) n := by
  rw [State.Fated, setCall_call]
  split
  next e => subst e; exact h
  next => exact .refl _

theorem tellProgress_fated (s : State) (m n : CallNo) : s.Fated (s.tellProgress m) n := by
  obtain e | ⟨p, st, v, -, -, -, -, e⟩ := tellProgress_cases s m
  · rw [e]; exact .of_call rfl
  · rw [e]
    refine (State.Fated.of_call (put_call ..)).trans (setCall_fated (s := s.sendProgress p st v) ?_)
    rw [State.sendProgress, put_call]
    exact ⟨rfl, rfl, rfl, rfl, .rfl⟩

theorem ringPosition_fated {s : State} {m : CallNo} (q : Fin 6) (n : CallNo) (h : (s.call m).state ≠ .idle) :
    s.Fated (s.ringPosition m q) n := by
  have hput : s.Fated ((s.engage (.position q) m).put .trunk (ringPositionMsg (Party.position q).addr m (s.call m).origin)) n :=
    .of_call (by rw [put_call, engage_call])
  refine (hput.trans (setCall_fated ?_)).trans (tellProgress_fated _ m n)
  rw [put_call, engage_call]
  exact ⟨rfl, rfl, rfl, rfl, by simp [h]⟩

theorem deskPlace_fated (s : State) (m n : CallNo) : s.Fated (s.deskPlace m) n := by
  by_cases h : (s.call m).state = .idle
  · rw [deskPlace_of_idle h]; exact .of_call rfl
  have hhunting : s.Fated (s.hunting m) n := setCall_fated ⟨rfl, rfl, rfl, rfl, .rfl⟩
  have hactive : ((s.hunting m).call m).state ≠ .idle := by rw [hunting_call_self]; exact h
  cases horder : s.idleOrder with
  | nil =>
    rw [deskPlace_of_nil h horder]
    refine (hhunting.trans (setCall_fated (s := { s.hunting m with deskQueue := s.deskQueue ++ [m] }) ?_)).trans
      (tellProgress_fated _ m n)
    exact ⟨rfl, rfl, rfl, rfl, iff_of_false nofun hactive⟩
  | cons q rest =>
    rw [deskPlace_of_cons h horder]
    exact hhunting.trans (ringPosition_fated (s := { s.hunting m with idleOrder := rest }) q n hactive)

theorem deskPlace_call_state {s : State} {n : CallNo} (h : (s.call n).state ≠ .idle) :
    ((s.deskPlace n).call n).state = .queued ∨ ((s.deskPlace n).call n).state = .alerting := by
  cases horder : s.idleOrder with
  | nil =>
    rw [deskPlace_of_nil h horder, tellProgress_call_state, setCall_call_self]
    exact .inl rfl
  | cons q rest =>
    rw [deskPlace_of_cons h horder]
    unfold State.ringPosition
    rw [tellProgress_call_state, setCall_call_self]
    exact .inr rfl

theorem wakeDesk_fated (s : State) (n : CallNo) : s.Fated s.wakeDesk n := by
  unfold State.wakeDesk
  split
  next m rest _ => exact deskPlace_fated { s with deskQueue := rest } m n
  next => exact .of_call rfl

theorem appendIdle_fated (s : State) (q : Fin 6) (n : CallNo) : s.Fated (s.appendIdle q) n := by
  unfold State.appendIdle
  split
  · exact wakeDesk_fated s n
  · exact wakeDesk_fated { s with idleOrder := s.idleOrder ++ [q] } n

theorem disengage_position_fated (s : State) (m : CallNo) (q : Fin 6) (n : CallNo) :
    s.Fated (s.disengage m (.position q)) n := by
  by_cases he : (s.position q).engaged = some m
  · by_cases hon : (s.position q).loggedOn = true
    · have hfree : s.disengage m (.position q) = (s.setPosition q { s.position q with engaged := none }).appendIdle q :=
        (if_pos he).trans (if_pos hon)
      rw [hfree]
      exact appendIdle_fated (s.setPosition q { s.position q with engaged := none }) q n
    · have hfree : s.disengage m (.position q) = s.setPosition q { s.position q with engaged := none } :=
        (if_pos he).trans (if_neg hon)
      rw [hfree]
      exact .of_call rfl
  · have hsame : s.disengage m (.position q) = s := if_neg he
    rw [hsame]
    exact .of_call rfl

/-! ### An outcome that forwards a call (R14) -/

theorem forwarding_call (s : State) (c : CallRecord) (n : CallNo) :
    (s.forwarding c n).call n = (s.call n).forwardedToDesk := by
  unfold State.forwarding
  split
  · rw [setCall_call_self, State.sendProgress, put_call]
  · rw [setCall_call_self]

theorem onCalls_outcoming {k : Cascade} (hk : k.Plain) (s : State) (n : CallNo) (cause : Cause) :
    OnCalls (if cause = .congestion then s.raise .congestion else s) (s.outcoming k n cause) := by
  unfold State.outcoming
  generalize (if cause = .congestion then s.raise .congestion else s) = x
  have hback : EventWorks (fun _ => True) x ((x.leavePlaces n).handBackAllWith k n) :=
    (works_leavePlaces x n).trans (works_handBackAll hk.works _ trivial trivial)
  exact hback.onCalls.trans (onCalls_setCall ..)

theorem onCalls_forwarding (s : State) (c : CallRecord) (n : CallNo) : OnCalls s (s.forwarding c n) := by
  unfold State.forwarding
  split
  · exact (onCalls_put ..).trans (onCalls_setCall ..)
  · exact onCalls_setCall ..

theorem onCalls_loggedOnCount {s t : State} (h : OnCalls s t) : t.loggedOnCount = 0 ↔ s.loggedOnCount = 0 := by
  rw [loggedOnCount_eq_zero, loggedOnCount_eq_zero]
  exact forall_congr' fun q => by rw [h.loggedOn q]

/-- An outcome raises its class first. -/
theorem onCalls_outcome_raised {k : Cascade} (hk : k.Plain) {s : State} {n : CallNo} {cause : Cause}
    (h : (s.call n).state ≠ .idle) :
    OnCalls (if cause = .congestion then s.raise .congestion else s) (s.outcomeWith k n cause) := by
  have hout := onCalls_outcoming hk s n cause
  have hfwd := hout.trans (onCalls_forwarding _ (s.call n) n)
  rw [outcomeWith_of_active h]
  generalize (if cause = .congestion then s.raise .congestion else s) = x at hout hfwd
  split
  · split
    · exact hfwd.trans (onCalls_clearWith hk ..)
    next hon =>
      exact hfwd.trans (EventWorks.onCalls (works_deskPlace _ trivial fun _ => hon))
  · exact hout.trans (onCalls_clearWith hk ..)

section
variable {k : Cascade} {s : State} {n : CallNo} {cause : Cause}

theorem forwarding_outcoming_call (hk : k.Plain) :
    ∃ w, ((s.outcoming k n cause).forwarding (s.call n) n).call n =
      CallRecord.forwardedToDesk { s.call n with reservations := [], stateCount := none, waitCount := w } :=
  ⟨_, by rw [forwarding_call, (outcoming_call (hk.spares n) s cause).1]⟩

theorem outcome_forwards_off (hk : k.Plain) (hactive : (s.call n).state ≠ .idle) (hforwards : (s.call n).forwards cause = true)
    (hoff : ∀ q, (s.position q).loggedOn = false) : ClearedWith s (s.outcomeWith k n cause) n .noDesk := by
  obtain ⟨w, hcall⟩ := forwarding_outcoming_call (s := s) (n := n) (cause := cause) hk
  have hcalls := (onCalls_outcoming hk s n cause).trans (onCalls_forwarding _ (s.call n) n)
  have hcount : ((s.outcoming k n cause).forwarding (s.call n) n).loggedOnCount = 0 := by
    refine (onCalls_loggedOnCount hcalls).mpr (loggedOnCount_eq_zero.mpr fun q => ?_)
    split
    · exact hoff q
    · exact hoff q
  rw [outcomeWith_of_active hactive, if_pos hforwards, if_pos hcount]
  obtain ⟨hrecord, hnowhere⟩ := clearedWith_clear hk (s := (s.outcoming k n cause).forwarding (s.call n) n) (n := n) .noDesk
    (by rw [hcall]; exact hactive)
  refine ⟨?_, hnowhere⟩
  rw [hrecord, hcall]
  rfl

theorem outcome_forwards_on (hk : k.Plain) (hactive : (s.call n).state ≠ .idle) (hforwards : (s.call n).forwards cause = true)
    (hon : ∃ q, (s.position q).loggedOn = true) :
    let t := s.outcomeWith k n cause
    ((t.call n).state = .queued ∨ (t.call n).state = .alerting) ∧ (t.call n).forwarded = true ∧
      (t.call n).resolved = (s.call n).resolved.map fun x => { x with targets := .desk } := by
  obtain ⟨w, hcall⟩ := forwarding_outcoming_call (s := s) (n := n) (cause := cause) hk
  have hcalls := (onCalls_outcoming hk s n cause).trans (onCalls_forwarding _ (s.call n) n)
  have hcount : ((s.outcoming k n cause).forwarding (s.call n) n).loggedOnCount ≠ 0 := by
    refine fun e => loggedOnCount_ne_zero.mpr hon ?_
    have h := (onCalls_loggedOnCount hcalls).mp e
    split at h
    · exact h
    · exact h
  have hactive' : (((s.outcoming k n cause).forwarding (s.call n) n).call n).state ≠ .idle := by rw [hcall]; exact hactive
  have hfate := deskPlace_fated ((s.outcoming k n cause).forwarding (s.call n) n) n n
  rw [State.Fated, hcall] at hfate
  rw [outcomeWith_of_active hactive, if_pos hforwards, if_neg hcount]
  exact ⟨deskPlace_call_state hactive', hfate.forwarded, hfate.resolved⟩

end

/-! ### The end of a ringing (R16, R20, R96, R99) -/

/-- A call that has given up some parties and channels before it ends has given up all it held when it has ended. -/
theorem GivenUp.of_freed {s y t : State} {n : CallNo} {cause : Cause} {xs : List Party} (h : GivenUp y t n cause)
    (hz : PartiesFreed s { y with calls := s.calls, channels := s.channels } n xs)
    (hreleases : (y.call n).releases = (s.call n).releases) (hothers : ∀ m, m ≠ n → y.call m = s.call m)
    (hchannels : ∀ r c, (if (r, c) ∈ (y.call n).reservations then none else y.channel r c) =
      if (r, c) ∈ (s.call n).reservations then none else s.channel r c)
    (hparties : ∀ x, x ∈ (s.call n).parties ↔ x ∈ xs ∨ x ∈ (y.call n).parties) : GivenUp s t n cause := by
  have hy : y = { s with
      calls := y.calls, channels := y.channels, stations := y.stations, handsets := y.handsets, positions := y.positions,
      idleOrder := y.idleOrder } :=
    congrArg (fun z => ({ z with calls := y.calls, channels := y.channels } : State)) hz.frame
  have hstation : ∀ p st, y.station p st = if .station p st ∈ xs ∧ s.station p st = some n then none else s.station p st :=
    hz.stations
  have hhandset : ∀ r a, y.handset r a = { s.handset r a with
      engaged := if .handset r a ∈ xs ∧ (s.handset r a).engaged = some n then none else (s.handset r a).engaged } := hz.handsets
  have hposition : ∀ q, y.position q = { s.position q with
      engaged := if .position q ∈ xs ∧ (s.position q).engaged = some n then none else (s.position q).engaged } := hz.positions
  have hidle : ∀ q, q ∈ y.idleOrder ↔ q ∈ s.idleOrder ∨
      (.position q ∈ xs ∧ (s.position q).engaged = some n ∧ (s.position q).loggedOn = true) := hz.idle
  refine ⟨by rw [h.frame, hy], by rw [h.record, hreleases], fun m hm => (h.others m hm).trans (hothers m hm), fun r c => ?_,
    fun p st => ?_, fun r a => ?_, fun q => ?_, hz.order.trans h.idleOrder, fun q => ?_⟩
  · rw [h.channels]; exact hchannels r c
  · rw [h.stations, hstation]
    simp only [hparties]
    exact freed_ite
  · rw [h.handsets, hhandset]
    simp only [hparties]
    exact congrArg (fun e => ({ s.handset r a with watch := [], engaged := e } : Handset)) freed_ite
  · rw [h.positions, hposition]
    simp only [hparties]
    exact congrArg (fun e => ({ s.position q with engaged := e } : Position)) freed_ite
  · rw [h.idle, hidle, hposition]
    simp only [hparties]
    by_cases he : (s.position q).engaged = some n
    · by_cases hx : Party.position q ∈ xs
      · simp [he, hx]
      · simp [he, hx]
    · simp [he]

/-- Work `rel` that lets go what call `n` rings: it leaves the call its fate, and where `Alone` holds it comes to a state from
which nobody but the call waits. -/
structure LetsGo (z : State) (rel : State → State) (n : CallNo) (cause : Cause) (out : List (LinkId × Message)) (Alone : Prop) :
    Prop where
  onCalls : ∀ x, OnCalls x (rel x)
  fate : ∀ x, z.Beside x → x.Fated (rel x) n
  comes : Alone → ∃ y, (∀ L, rel (z.relinked L) = y.relinked L) ∧ y.WaitsAlone n ∧ (y.call n).clearingOut cause = out ∧
    y.attention = z.attention ∧ ∀ t, GivenUp y t n cause → GivenUp z t n cause

theorem LetsGo.ends {z : State} {rel : State → State} {n : CallNo} {cause : Cause} {out : List (LinkId × Message)}
    {Alone : Prop} (h : LetsGo z rel n cause out Alone) (stops : List (LinkId × Message)) (hactive : (z.call n).state ≠ .idle)
    (hforwards : (z.call n).forwards cause = false) (hcause : cause ≠ .congestion) :
    Ends z (fun x => (rel (x.putAll stops)).outcome n cause) n cause 0x00#8 (stops ++ out) Alone := by
  have hkept : ∀ x, z.Beside x → ((rel x).call n).state ≠ .idle ∧ ((rel x).call n).forwards cause = false ∧
      ((rel x).call n).releases = (z.call n).releases := by
    intro x hx
    have hfate : (x.call n).SameFate ((rel x).call n) := h.fate x hx
    rw [hx.call] at hfate
    exact ⟨fun e => hactive (hfate.idle.mp e), (hfate.forwards cause).trans hforwards, hfate.releases⟩
  refine ⟨fun x _ => ?_, fun x hx => ?_, fun halone b => ?_⟩
  · exact (onCalls_putAll x stops).trans ((h.onCalls _).trans (onCalls_outcome ..))
  · obtain ⟨hactive', hforwards', hreleases⟩ := hkept _ (hx.putAll stops)
    obtain ⟨hrecord, hnowhere⟩ := clearedWith_outcome plain_full hactive' hforwards'
    exact ⟨by rw [← hreleases]; exact hrecord, hnowhere⟩
  · obtain ⟨y, hy, hwaits, hout, hattention, hgiven⟩ := h.comes halone
    obtain ⟨hactive', hforwards', -⟩ := hkept z rfl
    have hsame : rel z = y.relinked z.links := hy z.links
    rw [hsame] at hactive' hforwards'
    obtain ⟨u, hdoes, hu, hgives⟩ := does_outcome plain_full (b := b) (s := y) (n := n) (cause := cause) hwaits hactive' hforwards'
    rw [hout] at hdoes
    rw [hattention, raised_of_ne hcause] at hu
    refine ⟨u, ?_, hu, fun t ht => hgiven t (hgives t ht)⟩
    rw [reached_append]
    have hrel : Does b rel z y [] := .pure hy
    exact ((does_putAll b z stops).comp_pure hrel).comp hdoes

theorem waitsAlone_of_noneWaits {s : State} (h : s.NoneWaits) (n : CallNo) (hmode : s.mode ≠ .draining) : s.WaitsAlone n :=
  ⟨fun r _ hm => absurd (h.seek r ▸ hm) List.not_mem_nil, fun _ hm => absurd (h.desk ▸ hm) List.not_mem_nil,
    fun r a _ hm => absurd (h.watch r a ▸ hm) List.not_mem_nil, hmode⟩

/-- The record of a call that rings nobody. -/
def CallRecord.silent (c : CallRecord) : CallRecord := { c with alerted := [] }

/-- Call `n` hands back the channels `rs` and lets go the members `as` it rings. -/
def State.stopsAll (n : CallNo) (rs : List (Fin 8 × Fin 4)) (as : List Party) (s : State) : State :=
  let t := as.foldl (fun t x => t.disengage n x) (rs.foldl (fun t x => t.handBack n x) s)
  t.setCall n (t.call n).silent

theorem stopsAll_spared {s : State} {n : CallNo} (hs : s.StandsNowhere n) (as : List Party) :
    (s.stopsAll n (s.call n).reservations as).call n = { s.call n with reservations := [], alerted := [] } := by
  obtain ⟨hback, hnowhere⟩ := foldl_handBack_spared (fullSpares n) rfl hs
  have hlets : Spares n ((s.call n).reservations.foldl (State.handBackWith .full n) s)
      (as.foldl (State.disengageWith .full n) ((s.call n).reservations.foldl (State.handBackWith .full n) s)) :=
    works_foldl _ fun x _ t => works_disengage (fullSpares n) t n x
  obtain ⟨hcall, -⟩ := hlets.spared hnowhere
  exact (setCall_call_self ..).trans (congrArg CallRecord.silent (hcall.trans hback))

theorem onCalls_stopsAll (s : State) (n : CallNo) (rs : List (Fin 8 × Fin 4)) (as : List Party) :
    OnCalls s (s.stopsAll n rs as) :=
  (onCalls_foldl rs s fun t x => (eventWorks_handBack t x trivial).onCalls).trans
    ((onCalls_foldl as _ fun t x => (eventWorks_disengage t n x).onCalls).trans (onCalls_setCall ..))

/-- A ringing ended while nobody waits. -/
def State.unrings (s : State) (n : CallNo) : State :=
  let t := (s.call n).alerted.foldl (State.lets n) (s.freedChannels n)
  t.setCall n (t.call n).silent

theorem stopsAll_of_noneWaits {s : State} (hs : s.NoneWaits) (n : CallNo) :
    s.stopsAll n (s.call n).reservations (s.call n).alerted = s.unrings n := by
  have hback := handBackAll_of_noneWaits plain_full hs n
  have hfreed := (freedChannels_freed s n).noneWaits hs
  unfold State.stopsAll State.unrings
  show State.setCall ((s.call n).alerted.foldl (State.disengageWith .full n) (s.handBackAllWith .full n)) n _ = _
  have hlets := foldl_disengage_of_noneWaits plain_full (n := n) (s.call n).alerted hfreed
  rw [hback, hlets]
  show State.setCall _ n (State.call ((s.call n).alerted.foldl (State.disengageWith .full n) (s.handBackAllWith .full n)) n).silent = _
  rw [hback, hlets]

theorem unrings_relinked (s : State) (L : Vector LinkUnit 13) (n : CallNo) :
    (s.relinked L).unrings n = (s.unrings n).relinked L := by
  have h : (s.call n).alerted.foldl (State.lets n) ((s.relinked L).freedChannels n) =
      State.relinked ((s.call n).alerted.foldl (State.lets n) (s.freedChannels n)) L := by
    rw [freedChannels_relinked, foldl_relinked fun s L x => lets_relinked s L n x]
  show State.setCall ((s.call n).alerted.foldl (State.lets n) ((s.relinked L).freedChannels n)) n _ = _
  rw [h]
  show State.setCall _ n (State.call ((s.call n).alerted.foldl (State.lets n) ((s.relinked L).freedChannels n)) n).silent = _
  rw [h]
  rfl

theorem unrings_call (s : State) (n : CallNo) : (s.unrings n).call n = { s.call n with reservations := [], alerted := [] } := by
  refine (setCall_call_self ..).trans ?_
  have hframe := (foldl_lets (s.freedChannels n) n (s.call n).alerted).frame
  have hcall := (freedChannels_freed s n).call
  rw [hframe]
  show CallRecord.silent ((s.freedChannels n).call n) = _
  rw [hcall]
  rfl

theorem mem_parties_alerted {c : CallRecord} {x : Party} :
    x ∈ c.parties ↔ x ∈ c.alerted ∨ x ∈ CallRecord.parties { c with alerted := [] } := by
  simp [CallRecord.parties]

theorem givenUp_of_unrings {s t : State} {n : CallNo} {cause : Cause} (h : GivenUp (s.unrings n) t n cause) :
    GivenUp s t n cause := by
  have hcall := unrings_call s n
  have hlets := foldl_lets (s.freedChannels n) n (s.call n).alerted
  have hfreed := freedChannels_freed s n
  have hchannel : ∀ r c, (s.unrings n).channel r c = if (r, c) ∈ (s.call n).reservations then none else s.channel r c := by
    intro r c
    show State.channel ((s.call n).alerted.foldl (State.lets n) (s.freedChannels n)) r c = _
    rw [hlets.frame]
    exact hfreed.channels r c
  have hother : ∀ m, m ≠ n → (s.unrings n).call m = s.call m := by
    intro m hm
    refine (setCall_call_ne _ _ hm).trans ?_
    rw [hlets.frame]
    show (s.freedChannels n).call m = _
    rw [hfreed.frame]
    exact setCall_call_ne _ _ hm
  refine h.of_freed (xs := (s.call n).alerted) ?_ (by rw [hcall]) hother (fun r c => ?_) fun x => ?_
  · have hunrings : ({ s.unrings n with calls := s.calls, channels := s.channels } : State) =
        { (s.call n).alerted.foldl (State.lets n) (s.freedChannels n) with calls := s.calls, channels := s.channels } := rfl
    rw [hunrings]
    generalize (s.call n).alerted.foldl (State.lets n) (s.freedChannels n) = y at hlets
    generalize s.freedChannels n = w at hlets hfreed
    obtain ⟨hframe, hstations, hhandsets, hpositions, horder, hidle⟩ := hlets
    have hw := hfreed.frame
    generalize w.channels = cs at hw
    subst hw
    exact ⟨congrArg (fun z => ({ z with calls := s.calls, channels := s.channels } : State)) hframe, hstations, hhandsets,
      hpositions, horder, hidle⟩
  · rw [hcall, if_neg List.not_mem_nil]; exact hchannel r c
  · rw [hcall]; exact mem_parties_alerted

/-- The ringing of a call that stands nowhere. -/
theorem letsGo_stopsAll {z : State} {n : CallNo} (cause : Cause) (hnowhere : z.StandsNowhere n) :
    LetsGo z (State.stopsAll n (z.call n).reservations (z.call n).alerted) n cause
      (CallRecord.clearingOut { z.call n with alerted := [] } cause) (z.WaitsAlone n ∧ z.StandsNowhere n) where
  onCalls x := onCalls_stopsAll ..
  fate x hx := by
    have hcall := hx.call n
    have hspared : (x.stopsAll n (x.call n).reservations (z.call n).alerted).call n = _ :=
      stopsAll_spared (by rw [hx]; exact hnowhere) _
    rw [hcall] at hspared
    rw [State.Fated, hspared, hcall]
    exact ⟨rfl, rfl, rfl, rfl, .rfl⟩
  comes := by
    rintro ⟨halone, -⟩
    have hquiet := noneWaits_of halone hnowhere
    have hframe : z.unrings n = { z with
        calls := (z.unrings n).calls, channels := (z.unrings n).channels, stations := (z.unrings n).stations
        handsets := (z.unrings n).handsets, positions := (z.unrings n).positions, idleOrder := (z.unrings n).idleOrder } := by
      show State.setCall ((z.call n).alerted.foldl (State.lets n) (z.freedChannels n)) n _ = _
      rw [State.unrings, (foldl_lets ..).frame, (freedChannels_freed z n).frame]
      rfl
    have hquiet' : (z.unrings n).NoneWaits := by
      have h := (foldl_lets (z.freedChannels n) n (z.call n).alerted).noneWaits ((freedChannels_freed z n).noneWaits hquiet)
      exact ⟨h.seek, h.desk, h.watch⟩
    refine ⟨z.unrings n, fun L => ?_, waitsAlone_of_noneWaits hquiet' n ?_, ?_, ?_, fun t => givenUp_of_unrings⟩
    · rw [← unrings_relinked]
      exact stopsAll_of_noneWaits (s := z.relinked L) ⟨hquiet.seek, hquiet.desk, hquiet.watch⟩ n
    · rw [hframe]; exact halone.2.2.2
    · rw [unrings_call]; rfl
    · rw [hframe]

theorem givenUp_of_lets {z t : State} {n : CallNo} {q : Fin 6} {cause : Cause} (ha : (z.call n).alerted = [.position q])
    (h : GivenUp ((z.setCall n (z.call n).unrung).lets n (.position q)) t n cause) : GivenUp z t n cause := by
  have hlets := partiesFreed_one (z.setCall n (z.call n).unrung) n (.position q)
  have hcalls : ((z.setCall n (z.call n).unrung).lets n (.position q)).calls = (z.setCall n (z.call n).unrung).calls := by
    rw [hlets.frame]
  have hchannels : ((z.setCall n (z.call n).unrung).lets n (.position q)).channels = z.channels := by rw [hlets.frame]; rfl
  have hcall : ((z.setCall n (z.call n).unrung).lets n (.position q)).call n = (z.call n).unrung := by
    rw [hlets.frame]; exact setCall_call_self ..
  have hother : ∀ m, m ≠ n → ((z.setCall n (z.call n).unrung).lets n (.position q)).call m = z.call m := fun m hm => by
    rw [hlets.frame]; exact setCall_call_ne _ _ hm
  refine h.of_freed (xs := [.position q]) ?_ (by rw [hcall]; rfl) hother (fun r c => ?_) fun x => ?_
  · generalize (z.setCall n (z.call n).unrung).lets n (.position q) = y at hlets
    obtain ⟨hframe, hstations, hhandsets, hpositions, horder, hidle⟩ := hlets
    exact ⟨congrArg (fun w => ({ w with calls := z.calls, channels := z.channels } : State)) hframe, hstations, hhandsets,
      hpositions, horder, hidle⟩
  · rw [hcall, State.channel, hchannels]
    rfl
  · rw [hcall, ← ha]
    exact mem_parties_alerted

/-- The ringing of a position. -/
theorem letsGo_position {z : State} {n : CallNo} {q : Fin 6} (cause : Cause) (ha : (z.call n).alerted = [.position q]) :
    LetsGo z (fun x => (x.setCall n (x.call n).unrung).disengage n (.position q)) n cause
      (CallRecord.clearingOut { z.call n with alerted := [] } cause) (z.WaitsAlone n ∧ z.StandsNowhere n) where
  onCalls x := (onCalls_setCall ..).trans (eventWorks_disengage _ n (.position q)).onCalls
  fate x _ := (setCall_fated (s := x) (c := (x.call n).unrung) ⟨rfl, rfl, rfl, rfl, .rfl⟩).trans (disengage_position_fated _ n q n)
  comes := by
    rintro ⟨halone, hnowhere⟩
    have hquiet := noneWaits_of halone hnowhere
    have hfreed := partiesFreed_one (z.setCall n (z.call n).unrung) n (.position q)
    refine ⟨(z.setCall n (z.call n).unrung).lets n (.position q), fun L => ?_,
      waitsAlone_of_noneWaits (hfreed.noneWaits (s := z.setCall n (z.call n).unrung) ⟨hquiet.seek, hquiet.desk, hquiet.watch⟩) n ?_,
      ?_, ?_, fun t => givenUp_of_lets ha⟩
    · rw [← lets_relinked]
      exact disengage_of_noneWaits plain_full (s := (z.relinked L).setCall n (z.call n).unrung)
        ⟨hquiet.seek, hquiet.desk, hquiet.watch⟩ n (.position q)
    · rw [hfreed.frame]; exact halone.2.2.2
    · rw [hfreed.frame]
      show (State.call (z.setCall n (z.call n).unrung) n).clearingOut cause = _
      rw [setCall_call_self]
      rfl
    · rw [hfreed.frame]; rfl

/-! ### The expiries (R94, R95, R96, R99) -/

/-- The RING_STOP of a ringing that ran out, to every member it rang. -/
def CallRecord.timeouts (c : CallRecord) : List (LinkId × Message) := c.alerted.map fun x => (x.link, ringStopMsg x.addr .timeout)

theorem stopRinging_eq (s : State) (n : CallNo) :
    s.stopRinging n =
      ((s.putAll (s.call n).timeouts).stopsAll n (s.call n).reservations (s.call n).alerted).outcome n .noAnswer := by
  have hstops : (s.call n).alerted.foldl (fun t x => t.sendRingStop x .timeout) s = s.putAll (s.call n).timeouts :=
    foldl_put_map s _ fun x : Party => (x.link, ringStopMsg x.addr .timeout)
  rw [State.stopRinging]
  dsimp only
  rw [hstops]
  rfl

/-- What the expiry of a ringing answers (R20, R96, R99). -/
def EndsRinging (i : Instr) (s : State) (n : CallNo) (Alone : Prop) : Prop :=
  let out := s.reached ((s.call n).timeouts ++ CallRecord.clearingOut { s.call n with alerted := [] } .noAnswer)
  ∃ t, exec i s = .next t ∧ ClearedWith s t n .noAnswer ∧ KeepsToCalls s t none ∧
    (Alone → s.Room out → GivenUp s t n .noAnswer ∧ t.attention = s.attention ∧ Sends s t out)

/-- The two counts of call `n` stopped or not. -/
def State.counted (s : State) (n : CallNo) (e : Option StateCount) (w : Option WaitCount) : State :=
  s.setCall n { s.call n with stateCount := e, waitCount := w }

theorem counted_call (s : State) (n : CallNo) (e : Option StateCount) (w : Option WaitCount) :
    (s.counted n e w).call n = { s.call n with stateCount := e, waitCount := w } := setCall_call_self ..

theorem Runs.endsRinging {i : Instr} {s : State} {n : CallNo} {f g : State → State} {e : Option StateCount}
    {w : Option WaitCount} {Alone : Prop} (h : Runs i s f s.link []) (hf : ∀ L, s.Alike L → f (s.relinked L) = g ((s.counted n e w).relinked L))
    (he : Ends (s.counted n e w) g n .noAnswer 0x00#8
      ((s.call n).timeouts ++ CallRecord.clearingOut { s.call n with alerted := [] } .noAnswer) Alone) :
    EndsRinging i s n Alone := by
  obtain ⟨t, L, hexec, hcleared, hleaves, hgives⟩ := h.ends (z := s.counted n e w) (notice := []) rfl he hf
    (by rw [BitVec.or_zero]; exact noticeOf_of_kept rfl)
  rw [List.append_nil, List.append_nil, BitVec.or_zero] at hgives
  refine ⟨t, hexec, ⟨?_, hcleared.2⟩, hleaves.keeps, fun ha hroom => ?_⟩
  · rw [hcleared.1, counted_call]
  · obtain ⟨hgiven, hattention, hlink⟩ := hgives ha hroom
    exact ⟨hgiven.of_setCall rfl rfl fun _ => .rfl, hattention, hlink⟩

section
variable {s : State} {n : CallNo}

theorem alertTimerExpiry_ends (hstate : (s.call n).state = .alerting) (hnowhere : s.StandsNowhere n)
    (hdue : (s.call n).stateCount = some ⟨.alert, 0⟩) (hmay : ¬ (s.call n).MayForward) :
    EndsRinging (.alertTimerExpiry n) s n (s.WaitsAlone n ∧ s.StandsNowhere n) := by
  have hcall := counted_call s n none (s.call n).waitCount
  have hgo := letsGo_stopsAll (z := s.counted n none (s.call n).waitCount) (n := n) .noAnswer hnowhere
  rw [hcall] at hgo
  refine (runs_event (f := State.alertExpires n) rfl).endsRinging (e := none) (w := (s.call n).waitCount) (fun L _ => ?_)
    (hgo.ends (s.call n).timeouts (by rw [hcall]; show (s.call n).state ≠ _; rw [hstate]; exact nofun)
      (by rw [hcall]; exact Bool.eq_false_iff.mpr fun e => hmay ((forwards_iff _ _).mp e).1) nofun)
  have hexpires : State.alertExpires n (s.relinked L) = ((s.counted n none (s.call n).waitCount).relinked L).stopRinging n :=
    if_pos ⟨hstate, decide_eq_true hdue⟩
  rw [hexpires, stopRinging_eq, relinked_call, hcall]
  rfl

theorem endHunt_rung {s : State} {n : CallNo} {q : Fin 6} (h : (s.call n).rungPosition = some q) :
    s.endHunt n =
      State.outcome (((s.putAll [(.trunk, ringStopMsg (Party.position q).addr .timeout)]).setCall n
        ((s.putAll [(.trunk, ringStopMsg (Party.position q).addr .timeout)]).call n).unrung).disengage n (.position q)) n
          .noAnswer := by
  rw [State.endHunt, h]
  rfl

theorem deskWaitExpiry_ends_rung {q : Fin 6} (hstate : (s.call n).state = .alerting) (ha : (s.call n).alerted = [.position q])
    (hdue : (s.call n).waitCount = some ⟨.deskWait, 0, false⟩) (hmay : ¬ (s.call n).MayForward) :
    EndsRinging (.deskWaitExpiry n) s n (s.WaitsAlone n ∧ s.StandsNowhere n) := by
  have hcall := counted_call s n (s.call n).stateCount none
  have hgo := letsGo_position (z := s.counted n (s.call n).stateCount none) (n := n) (q := q) .noAnswer (by rw [hcall]; exact ha)
  rw [hcall] at hgo
  refine (runs_event (f := State.deskWaitExpires n) rfl).endsRinging (e := (s.call n).stateCount) (w := none) (fun L _ => ?_)
    (hgo.ends (s.call n).timeouts (by rw [hcall]; show (s.call n).state ≠ _; rw [hstate]; exact nofun)
      (by rw [hcall]; exact Bool.eq_false_iff.mpr fun e => hmay ((forwards_iff _ _).mp e).1) nofun)
  have hrung : (s.call n).rungPosition = some q := rungPosition_of_alerting hstate ha
  have hexpires : State.deskWaitExpires n (s.relinked L) = ((s.counted n (s.call n).stateCount none).relinked L).endHunt n :=
    if_pos ⟨.inr (by rw [relinked_call, hrung]; rfl), decide_eq_true hdue⟩
  have hrung' : (((s.counted n (s.call n).stateCount none).relinked L).call n).rungPosition = some q := by
    rw [relinked_call, hcall]; exact hrung
  have hstops : (s.call n).timeouts = [(.trunk, ringStopMsg (Party.position q).addr .timeout)] := by
    rw [CallRecord.timeouts, ha]; rfl
  rw [hexpires, endHunt_rung hrung', hstops]

theorem deskWaitExpiry_ends_queued (hstate : (s.call n).state = .queued)
    (hdue : (s.call n).waitCount = some ⟨.deskWait, 0, false⟩) (hmay : ¬ (s.call n).MayForward) :
    EndsRinging (.deskWaitExpiry n) s n (s.WaitsAlone n ∧ (s.call n).alerted = []) := by
  have hcall := counted_call s n (s.call n).stateCount none
  have hforwards : ((s.counted n (s.call n).stateCount none).call n).forwards .noAnswer = false := by
    rw [hcall]; exact Bool.eq_false_iff.mpr fun e => hmay ((forwards_iff _ _).mp e).1
  have hends := ends_outcome plain_full (z := s.counted n (s.call n).stateCount none) (n := n) (cause := .noAnswer)
    (by rw [hcall]; show (s.call n).state ≠ _; rw [hstate]; exact nofun) hforwards
  refine (runs_event (f := State.deskWaitExpires n) rfl).endsRinging (e := (s.call n).stateCount) (w := none) (fun L _ => ?_)
    ⟨hends.onCalls, hends.cleared, fun ⟨halone, ha⟩ b => ?_⟩
  · have hexpires : State.deskWaitExpires n (s.relinked L) = ((s.counted n (s.call n).stateCount none).relinked L).endHunt n :=
      if_pos ⟨.inl hstate, decide_eq_true hdue⟩
    have hrung : (((s.counted n (s.call n).stateCount none).relinked L).call n).rungPosition = none := by
      rw [relinked_call, hcall, CallRecord.rungPosition]
      dsimp only
      rw [hstate]
    rw [hexpires, State.endHunt, hrung]
    rfl
  · have hout : (s.call n).timeouts ++ CallRecord.clearingOut { s.call n with alerted := [] } .noAnswer =
        ((s.counted n (s.call n).stateCount none).call n).clearingOut .noAnswer := by
      rw [hcall, CallRecord.timeouts, ha]
      show [] ++ CallRecord.clearingOut { s.call n with alerted := [] } .noAnswer = _
      rw [List.nil_append, ← ha]
      rfl
    rw [hout]
    exact hends.gives halone b

end

/-- What the expiry of a wait for a channel or a handset answers (R94, R95). -/
def EndsWait (i : Instr) (s : State) (n : CallNo) (cause : Cause) : Prop :=
  let out := s.reached ((s.call n).clearingOut cause) ++ s.notice cause.raised
  ∃ t, exec i s = .next t ∧ KeepsToCalls s t none ∧ (cause = .congestion → t.attention.getLsbD 5 = true) ∧
    (¬ (s.call n).MayForward → ClearedWith s t n cause ∧
      (s.WaitsAlone n → s.Room out →
        GivenUp s t n cause ∧ t.attention = s.attention ||| cause.raised ∧ Sends s t out)) ∧
    ((s.call n).MayForward → (∀ q, (s.position q).loggedOn = false) → ClearedWith s t n .noDesk) ∧
    ((s.call n).MayForward → (∃ q, (s.position q).loggedOn = true) →
      ((t.call n).state = .queued ∨ (t.call n).state = .alerting) ∧ (t.call n).forwarded = true ∧
        (t.call n).resolved.map (·.targets) = some .desk)

theorem clearedWith_counted {s t : State} {n : CallNo} {e : Option StateCount} {w : Option WaitCount} {cause : Cause}
    (h : ClearedWith (s.counted n e w) t n cause) : ClearedWith s t n cause :=
  ⟨by rw [h.1, counted_call], h.2⟩

theorem Runs.endsWait {i : Instr} {s : State} {n : CallNo} {f : State → State} {e : Option StateCount} {w : Option WaitCount}
    {cause : Cause} (h : Runs i s f s.link []) (hactive : (s.call n).state ≠ .idle) (hcause : cause.Forwardable)
    (hf : ∀ L, s.Alike L → f (s.relinked L) = ((s.counted n e w).relinked L).outcome n cause) : EndsWait i s n cause := by
  have hcall := counted_call s n e w
  have hactive' : ((s.counted n e w).call n).state ≠ .idle := by rw [hcall]; exact hactive
  obtain ⟨L, t, hL, hexec, hleaves⟩ := h.leaves (z := s.counted n e w) rfl fun L hL => by
    rw [hf L hL]; exact onCalls_outcomeWith plain_full ..
  rw [hf L hL] at hleaves
  have hforwards : (s.call n).MayForward → (((s.counted n e w).relinked L).call n).forwards cause = true := fun hmay => by
    rw [relinked_call, hcall]
    exact (forwards_iff _ _).mpr ⟨hmay, hcause⟩
  refine ⟨t, hexec, hleaves.keeps, ?_, fun hmay => ?_, fun hmay hoff => ?_, fun hmay hon => ?_⟩
  · rintro rfl
    have hraised := (onCalls_outcome_raised plain_full (s := (s.counted n e w).relinked L) (cause := .congestion) hactive').pending
    refine hleaves.pending 5 (hraised 5 ?_)
    show (s.attention ||| AttentionClass.bit .congestion).getLsbD 5 = true
    rw [BitVec.getLsbD_or]
    exact Bool.or_eq_true_iff.mpr (.inr rfl)
  · have hno : ((s.counted n e w).call n).forwards cause = false := by
      rw [hcall]; exact Bool.eq_false_iff.mpr fun e => hmay ((forwards_iff _ _).mp e).1
    obtain ⟨t', L', hexec', hcleared, -, hgives⟩ := h.ends (z := s.counted n e w) (notice := s.notice cause.raised) rfl
      (ends_outcome plain_full hactive' hno) hf (noticeOf_raised rfl rfl)
    obtain rfl := Host.Outcome.next.inj (hexec.symm.trans hexec')
    rw [hcall, List.append_nil] at hgives
    refine ⟨clearedWith_counted hcleared, fun halone hroom => ?_⟩
    obtain ⟨hgiven, hattention, hlink⟩ := hgives halone hroom
    exact ⟨hgiven.of_setCall rfl rfl fun _ => .rfl, hattention, hlink⟩
  · have hcleared := outcome_forwards_off plain_full (s := (s.counted n e w).relinked L) hactive' (hforwards hmay) hoff
    exact clearedWith_counted (hcleared.of_frame hleaves.frame)
  · obtain ⟨hstate, hforwarded, hresolved⟩ :=
      outcome_forwards_on plain_full (s := (s.counted n e w).relinked L) hactive' (hforwards hmay) hon
    have hsame : t.call n = (((s.counted n e w).relinked L).outcome n cause).call n := by rw [hleaves.frame]; rfl
    rw [hsame]
    refine ⟨hstate, hforwarded, (congrArg (Option.map (·.targets)) hresolved).trans ?_⟩
    rw [relinked_call, hcall]
    obtain ⟨x, hx, -⟩ := Option.map_eq_some_iff.mp hmay.2.1
    show Option.map _ (Option.map _ (s.call n).resolved) = _
    rw [hx]
    rfl

theorem seekTimerExpiry_ends {s : State} {n : CallNo} (hstate : (s.call n).state = .seeking)
    (hdue : (s.call n).waitCount = some ⟨.seek, 0, false⟩) : EndsWait (.seekTimerExpiry n) s n .congestion :=
  (runs_event (f := State.seekExpires n) rfl).endsWait (e := (s.call n).stateCount) (w := none) (by rw [hstate]; exact nofun)
    (by simp [Cause.Forwardable]) fun L _ => if_pos (c := _ ∧ _) ⟨hstate, decide_eq_true hdue⟩

theorem campTimerExpiry_ends {s : State} {n : CallNo} (hstate : (s.call n).state = .camped)
    (hdue : (s.call n).stateCount = some ⟨.camp, 0⟩) : EndsWait (.campTimerExpiry n) s n .busy :=
  (runs_event (f := State.campExpires n) rfl).endsWait (e := none) (w := (s.call n).waitCount) (by rw [hstate]; exact nofun)
    (by simp [Cause.Forwardable]) fun L _ => if_pos (c := _ ∧ _) ⟨hstate, decide_eq_true hdue⟩

/-! ### A count that has not run out (log 4) -/

theorem exec_event_unchanged {i : Instr} {s : State} {f : State → State} (hexec : exec i s = .next (s.event f))
    (h : f s = s) : exec i s = .next s := hexec.trans (congrArg Host.Outcome.next (event_of_unchanged h))

theorem deskRingExpires_early {s : State} {n : CallNo} (h : (s.call n).stateCount ≠ some ⟨.deskRing, 0⟩) :
    s.deskRingExpires n = s := by
  unfold State.deskRingExpires
  split
  · exact if_neg fun hdue => h (of_decide_eq_true hdue)
  · rfl

theorem expiries_early (s : State) (n : CallNo) :
    ((s.call n).stateCount ≠ some ⟨.digit, 0⟩ → exec (.digitTimerExpiry n) s = .next s) ∧
    ((s.call n).stateCount ≠ some ⟨.camp, 0⟩ → exec (.campTimerExpiry n) s = .next s) ∧
    ((s.call n).stateCount ≠ some ⟨.alert, 0⟩ → exec (.alertTimerExpiry n) s = .next s) ∧
    ((s.call n).stateCount ≠ some ⟨.deskRing, 0⟩ → exec (.deskRingExpiry n) s = .next s) ∧
    ((s.call n).waitCount ≠ some ⟨.seek, 0, false⟩ → exec (.seekTimerExpiry n) s = .next s) ∧
    ((s.call n).waitCount ≠ some ⟨.deskWait, 0, false⟩ → exec (.deskWaitExpiry n) s = .next s) :=
  ⟨digitExpires_early,
    fun h => exec_event_unchanged (f := State.campExpires n) rfl (if_neg fun hdue => h (of_decide_eq_true hdue.2)),
    fun h => exec_event_unchanged (f := State.alertExpires n) rfl (if_neg fun hdue => h (of_decide_eq_true hdue.2)),
    fun h => exec_event_unchanged (f := State.deskRingExpires n) rfl (deskRingExpires_early h),
    fun h => exec_event_unchanged (f := State.seekExpires n) rfl (if_neg fun hdue => h (of_decide_eq_true hdue.2)),
    fun h => exec_event_unchanged (f := State.deskWaitExpires n) rfl (if_neg fun hdue => h (of_decide_eq_true hdue.2))⟩

/-- Settles O56: each expiry comes to an outcome of its call, the ringing ones after the RING_STOP of what they rang. -/
theorem waitingAndRingingTimersGiveTheirOutcome : Obligations.WaitingAndRingingTimersGiveTheirOutcome := by
  refine ⟨fun s n i cause hi => ?_, fun s n i hi hmay => ?_, expiries_early⟩
  · obtain ⟨rfl, rfl, hstate, hdue⟩ | ⟨rfl, rfl, hstate, hdue⟩ := hi
    · exact seekTimerExpiry_ends hstate hdue
    · exact campTimerExpiry_ends hstate hdue
  · obtain ⟨rfl, hstate, hnowhere, hdue⟩ | ⟨rfl, hdue, hstate | ⟨hstate, q, ha⟩⟩ := hi
    · obtain ⟨t, hexec, hcleared, hkeeps, hgives⟩ := alertTimerExpiry_ends hstate hnowhere hdue hmay
      exact ⟨t, hexec, hcleared, hkeeps, fun halone hn _ hroom => hgives ⟨halone, hn hstate⟩ hroom⟩
    · obtain ⟨t, hexec, hcleared, hkeeps, hgives⟩ := deskWaitExpiry_ends_queued hstate hdue hmay
      exact ⟨t, hexec, hcleared, hkeeps, fun halone _ ha hroom => hgives ⟨halone, ha hstate⟩ hroom⟩
    · obtain ⟨t, hexec, hcleared, hkeeps, hgives⟩ := deskWaitExpiry_ends_rung hstate ha hdue hmay
      exact ⟨t, hexec, hcleared, hkeeps, fun halone hn _ hroom => hgives ⟨halone, hn hstate⟩ hroom⟩

end Sys2Proof.Machine
end

section
/-!
PROOF. A channel granted and a handset that wakes, in closed form (R12, R68, R77, R79): the call that waits rings its flat over
the channel it is given, or the channel passes to the next call.
-/

namespace Sys2Proof.Machine

/-! ### One target member (R10) -/

theorem membersOf_one_eligible {s : State} {r : Fin 8} {a : Fin 63} (h : (s.handset r a).Eligible) :
    s.membersOf .eligible [(r, a)] = [(r, a)] := by
  obtain ⟨hpresent, hfree, hquiet⟩ := h
  rw [membersOf_eligible]
  simp [State.members, hpresent, hfree, hquiet]

theorem membersOf_one_busy {s : State} {r : Fin 8} {a : Fin 63} (hpresent : (s.handset r a).present = true)
    (hbusy : (s.handset r a).engaged ≠ none) :
    s.membersOf .eligible [(r, a)] = [] ∧ s.membersOf .busy [(r, a)] = [(r, a)] := by
  rw [membersOf_eligible, membersOf_busy]
  constructor
  · simp [State.members, hbusy]
  · simp [State.members, hpresent, Option.isSome_iff_ne_none.mpr hbusy]

/-! ### A grant that rings (R77) -/

/-- Call `m`, granted channel `c` of riser `r`, rings its one member `a` there. -/
def State.ringsOver (s : State) (m : CallNo) (r : Fin 8) (c : Fin 4) (a : Fin 63) (alert : Nat) : State :=
  { ((s.setHandset r a { s.handset r a with engaged := some m }).setChannel r c (some m)) with
    seekQueues := s.seekQueues.set r ((s.seekQueue r).erase m)
    calls := s.calls.set m ((s.call m).ringing s.params alert [(r, a)] [(r, c)]) }

theorem does_grant_check (b : State) {s : State} {m : CallNo} {x : Resolved} {r : Fin 8} {a : Fin 63} (c : Fin 4)
    (h : s.Checks m x [(r, a)]) (ha : (s.handset r a).Eligible) :
    Does b (·.targetCheck m) (s.grant m r c) (s.ringsOver m r c a x.alertTime) ((s.call m).ringingOut s.params [(r, a)]) := by
  have hcall : (s.grant m r c).call m = { s.call m with reservations := [(r, c)] } := by
    rw [grant_call_self, h.reservations]
  have hheld : (r, c) ∈ ((s.grant m r c).call m).reservations := by rw [hcall]; exact List.mem_singleton_self _
  have hdoes := does_alerts b (s := s.grant m r c) (n := m) (x := x) (by rw [hcall]; exact h.resolved)
    (by rw [hcall]; exact h.alerted) (r, a) []
  have hrings : (s.grant m r c).ringsFlat m x.alertTime [(r, a)] = s.ringsOver m r c a x.alertTime := by
    rw [State.ringsFlat, hcall]
    refine congrArg (fun v => ({ s.ringsOver m r c a x.alertTime with calls := v } : State)) ?_
    exact (Vector.set_set ..).trans
      (congrArg (s.calls.set m) (ringing_of_reservations s.params (s.call m) x.alertTime [(r, a)] [(r, c)] [(r, c)]))
  have hout : ((s.grant m r c).call m).ringingOut (s.grant m r c).params [(r, a)] = (s.call m).ringingOut s.params [(r, a)] := by
    rw [hcall]; rfl
  rw [hrings, hout] at hdoes
  refine hdoes.via fun L => ?_
  have hcall' : ((s.grant m r c).relinked L).call m = { s.call m with reservations := [(r, c)] } := hcall
  have hreserve : ((s.grant m r c).relinked L).reserveAll m [(r, a)] = (s.grant m r c).relinked L :=
    reserve_of_held (by rw [hcall']; exact List.mem_singleton_self _)
  rw [targetCheck_of_eligible (s := (s.grant m r c).relinked L) (x := x) (ts := [(r, a)]) (m := (r, a)) (ms := []) (by rw [hcall']; exact h.active)
      (by rw [hcall']; exact h.resolved) h.targets (membersOf_one_eligible ha),
    seekAndAlert_rings (m := (r, a)) (ms := []) ?_, hreserve]
  rw [hreserve]
  refine List.filter_eq_self.mpr fun k hk => ?_
  obtain rfl := List.mem_singleton.mp hk
  exact channelOn_isSome.mpr ⟨c, hheld⟩

theorem ringing_ringsOn (p : Params) (c : CallRecord) (alert : Nat) (r : Fin 8) (a : Fin 63) (rs : List (Fin 8 × Fin 4)) :
    (c.ringing p alert [(r, a)] rs).ringsOn r = true := by simp [CallRecord.ringing, CallRecord.ringsOn]

theorem ringsOver_call (s : State) (m : CallNo) (r : Fin 8) (c : Fin 4) (a : Fin 63) (alert : Nat) :
    (s.ringsOver m r c a alert).call m = (s.call m).ringing s.params alert [(r, a)] [(r, c)] := Vector.getElem_set_self ..

/-- A channel passed to a call whose one member it can ring goes no further. -/
theorem does_passDown_rings (b : State) {s : State} {m : CallNo} {x : Resolved} {r : Fin 8} {a : Fin 63} (c : Fin 4)
    (rest : List CallNo) (hkind : (s.call m).kind ≠ some .resident) (h : s.Checks m x [(r, a)])
    (ha : (s.handset r a).Eligible) :
    Does b (passDown r c (m :: rest)) s (s.ringsOver m r c a x.alertTime) ((s.call m).ringingOut s.params [(r, a)]) := by
  intro L pre hL hroom
  have hcheck : (((s.grant m r c).relinked L).sent pre).targetCheck m = _ := does_grant_check b c h ha L pre hL hroom
  have hkind' : ¬ (((s.relinked L).sent pre).call m).kind = some .resident := hkind
  rw [passDown_cons, if_neg hkind']
  show (if (((((s.grant m r c).relinked L).sent pre).targetCheck m).call m).ringsOn r = true then
    (((s.grant m r c).relinked L).sent pre).targetCheck m else _) = _
  rw [hcheck, if_pos]
  show ((s.ringsOver m r c a x.alertTime).call m).ringsOn r = true
  rw [ringsOver_call]
  exact ringing_ringsOn ..

/-! ### A grant that the call cannot use (R79) -/

/-- Work of a granted call that leaves it on another place, with the channel to be taken back. -/
theorem does_passDown_misses {b s y z u : State} {m : CallNo} {r : Fin 8} {c : Fin 4} {rest : List CallNo}
    {out more : List (LinkId × Message)} (hkind : (s.call m).kind ≠ some .resident)
    (hcheck : Does b (·.targetCheck m) (s.grant m r c) y out) (hquiet : (y.call m).ringsOn r = false)
    (hback : y.setAside m r c = z) (hrest : Does b (passDown r c rest) z u more) :
    Does b (passDown r c (m :: rest)) s u (out ++ more) := by
  intro L pre hL hroom
  rw [← List.append_assoc] at hroom ⊢
  have hcheck' : (((s.grant m r c).relinked L).sent pre).targetCheck m = _ := hcheck L pre hL (room_of_append_left hroom)
  have hkind' : ¬ (((s.relinked L).sent pre).call m).kind = some .resident := hkind
  rw [passDown_cons, if_neg hkind']
  show (if (((((s.grant m r c).relinked L).sent pre).targetCheck m).call m).ringsOn r = true then
    (((s.grant m r c).relinked L).sent pre).targetCheck m else
    passDown r c rest (((((s.grant m r c).relinked L).sent pre).targetCheck m).setAside m r c)) = _
  have hquiet' : ¬ (((y.relinked L).sent (pre ++ out)).call m).ringsOn r = true := by
    show ¬ (y.call m).ringsOn r = true
    rw [hquiet]; exact nofun
  have hback' : ((y.relinked L).sent (pre ++ out)).setAside m r c = (z.relinked L).sent (pre ++ out) := by
    rw [← hback]
    unfold State.setAside
    show (if (r, c) ∈ (y.call m).reservations then _ else _) = _
    by_cases hmem : (r, c) ∈ (y.call m).reservations
    · rw [if_pos hmem, if_pos hmem]; rfl
    · rw [if_neg hmem, if_neg hmem]
  rw [hcheck', if_neg hquiet', hback']
  exact hrest L (pre ++ out) hL hroom

theorem setChannel_channels_twice (s : State) (r : Fin 8) (c : Fin 4) (x y : Option CallNo) :
    ((s.setChannel r c x).setChannel r c y).channels = (s.setChannel r c y).channels := by
  show (s.channels.set r _).set r _ = s.channels.set r _
  rw [Vector.set_set]
  refine congrArg (s.channels.set r) ?_
  show ((s.channels.set r _)[r]).set c y = _
  rw [Fin.getElem_fin, Vector.getElem_set_self, Vector.set_set]

/-- A grant taken back from a call that has written its record and a place. -/
theorem setAside_of_granted {s : State} {n : CallNo} {r : Fin 8} {c : Fin 4} (hfree : s.channel r c = none)
    (Q : Vector (List CallNo) 8) (H : Vector (Vector Handset 63) 8) {w : CallRecord} (hw : w.reservations = [(r, c)]) :
    State.setAside { (s.grant n r c) with seekQueues := Q, handsets := H, calls := (s.grant n r c).calls.set n w } n r c =
      { s with seekQueues := Q, handsets := H, calls := s.calls.set n { w with reservations := [] } } := by
  have hcall : State.call { (s.grant n r c) with
      seekQueues := Q, handsets := H, calls := (s.grant n r c).calls.set n w } n = w := Vector.getElem_set_self ..
  have hmem : (r, c) ∈ (State.call { (s.grant n r c) with
      seekQueues := Q, handsets := H, calls := (s.grant n r c).calls.set n w } n).reservations := by
    rw [hcall, hw]; exact List.mem_singleton_self _
  have herase : ([(r, c)] : List (Fin 8 × Fin 4)).erase (r, c) = [] := List.erase_cons_head ..
  rw [setAside_of_mem hmem, hcall, hw, herase]
  have hchannels : ((s.setChannel r c (some n)).setChannel r c none).channels = s.channels := by
    rw [setChannel_channels_twice, setChannel_none_of_none hfree]
  have hcalls : ((s.grant n r c).calls.set n w).set n { w with reservations := [] } =
      s.calls.set n { w with reservations := [] } := by
    rw [Vector.set_set]
    exact Vector.set_set ..
  rw [← hcalls]
  exact congrArg (fun v => ({ s with
    channels := v, seekQueues := Q, handsets := H, calls := ((s.grant n r c).calls.set n w).set n { w with reservations := [] } } :
      State)) hchannels

theorem told_of_reservations (c : CallRecord) (v : Progress) (rs : List (Fin 8 × Fin 4)) :
    CallRecord.told { c with reservations := rs } v = { c.told v with reservations := rs } := by
  obtain hin | ⟨p, st, ho⟩ := fromInside_or_station c
  · rw [told_of_fromInside v hin, told_of_fromInside v (by exact hin)]
  · rw [told_of_station v ho, told_of_station v (by exact ho)]

theorem told_reservations (c : CallRecord) (v : Progress) : (c.told v).reservations = c.reservations := by
  unfold CallRecord.told
  split <;> rfl

/-- A call that seeks on riser `r'` and counts on. -/
def State.seeksAgain (s : State) (n : CallNo) (r r' : Fin 8) (rest : List CallNo) : State :=
  { ((s.setSeekQueue r rest).setSeekQueue r' (s.seekQueue r' ++ [n])) with
    calls := s.calls.set n { (s.call n).told .wait with state := .seeking, stateCount := none } }

/-- A call that camps on a handset with its seek count held. -/
def State.campsHeld (s : State) (n : CallNo) (r r' : Fin 8) (b : Fin 63) (f : Nat) (rest : List CallNo) : State :=
  { ((s.setSeekQueue r rest).setHandset r' b { s.handset r' b with watch := (s.handset r' b).watch ++ [n] }) with
    calls := s.calls.set n
      { (s.call n).told .wait with
        state := .camped, stateCount := some ⟨.camp, s.params.campTime * 8000⟩, waitCount := some ⟨.seek, f, true⟩ } }

/-- Call `n` has the flat `x` of the members `ts` resolved and holds no channel. -/
structure State.Aims (s : State) (n : CallNo) (x : Resolved) (ts : List (Fin 8 × Fin 63)) : Prop where
  active : (s.call n).state ≠ .idle
  resolved : (s.call n).resolved = some x
  targets : x.targets = .flat ts
  reservations : (s.call n).reservations = []

section
variable {b s : State} {n : CallNo} {r r' : Fin 8} {c : Fin 4} {a : Fin 63} {x : Resolved} {f : Nat}
  {rest : List CallNo}

theorem does_grant_seeks (h : s.Aims n x [(r', a)]) (ha : (s.handset r' a).Eligible) (hne : r' ≠ r)
    (hfull : ∀ d, s.channel r' d ≠ none) :
    Does b (·.targetCheck n) (s.grant n r c) ((s.grant n r c).seeksOn n r') ((s.call n).telling .wait) := by
  have hcall : (s.grant n r c).call n = { s.call n with reservations := [(r, c)] } := by
    rw [grant_call_self, h.reservations]
  have hno : ∀ ch, (r', ch) ∉ ((s.grant n r c).call n).reservations := fun ch hm => by
    rw [hcall] at hm
    exact hne (congrArg Prod.fst (List.mem_singleton.mp hm))
  have hlow : (s.grant n r c).lowestFree r' = none := lowestFree_of_full fun ch => by
    show ((s.setSeekQueue r _).setChannel r c (some n)).channel r' ch ≠ none
    rw [setChannel_channel, if_neg fun e => hne e.1]
    exact hfull ch
  have hout : ((s.grant n r c).call n).telling .wait = (s.call n).telling .wait := by rw [hcall]; rfl
  rw [← hout]
  refine (does_enterSeeking b (s.grant n r c) n r').via fun L => ?_
  have hreserve : ((s.grant n r c).relinked L).reserveAll n [(r', a)] = (s.grant n r c).relinked L :=
    reserve_of_none (s := (s.grant n r c).relinked L) hno hlow
  rw [targetCheck_of_eligible (s := (s.grant n r c).relinked L) (x := x) (ts := [(r', a)]) (m := (r', a)) (ms := [])
      (by show ((s.grant n r c).call n).state ≠ _; rw [hcall]; exact h.active)
      (by show ((s.grant n r c).call n).resolved = _; rw [hcall]; exact h.resolved) h.targets (membersOf_one_eligible ha),
    seekAndAlert_seeks (m := (r', a)) (ms := []) ?_, hreserve]
  rw [hreserve]
  refine List.filter_eq_nil_iff.mpr fun k hk he => ?_
  obtain rfl := List.mem_singleton.mp hk
  exact (channelOn_isSome.mp he).elim hno

/-- A granted call whose one member stands on another riser goes on seeking there. -/
theorem does_passDown_seeks {u : State} {more : List (LinkId × Message)} (hfree : s.channel r c = none)
    (hqueue : s.seekQueue r = n :: rest) (hkind : (s.call n).kind ≠ some .resident) (h : s.Aims n x [(r', a)])
    (hwait : (s.call n).waitCount = some ⟨.seek, f, false⟩) (ha : (s.handset r' a).Eligible) (hne : r' ≠ r)
    (hfull : ∀ d, s.channel r' d ≠ none) (hrest : Does b (passDown r c rest) (s.seeksAgain n r r' rest) u more) :
    Does b (passDown r c (n :: rest)) s u ((s.call n).telling .wait ++ more) := by
  have hcall : (s.grant n r c).call n = { s.call n with reservations := [(r, c)] } := by
    rw [grant_call_self, h.reservations]
  have hback := setAside_of_granted (n := n) hfree (((s.grant n r c).setSeekQueue r' ((s.grant n r c).seekQueue r' ++ [n])).seekQueues)
    s.handsets (w := { ((s.grant n r c).call n).told .wait with
      state := .seeking, stateCount := none, waitCount := seekingWait s.params ((s.grant n r c).call n).waitCount })
    (by rw [hcall, told_of_reservations])
  refine does_passDown_misses hkind (does_grant_seeks h ha hne hfull) ?_ (hback.trans ?_) hrest
  · exact congrArg (CallRecord.ringsOn · r) (setCall_call_self ..)
  · have hqueue' : (s.grant n r c).seekQueue r' = s.seekQueue r' := setSeekQueue_seekQueue_ne s _ hne
    have hqueues : (s.grant n r c).seekQueues = s.seekQueues.set r rest := by
      show s.seekQueues.set r _ = _
      rw [hqueue, List.erase_cons_head]
    have hrecord : ({ ((s.grant n r c).call n).told .wait with
        state := .seeking, stateCount := none, waitCount := seekingWait s.params ((s.grant n r c).call n).waitCount,
        reservations := [] } : CallRecord) = { (s.call n).told .wait with state := .seeking, stateCount := none } := by
      have hrs := told_reservations (s.call n) .wait
      have hw := told_waitCount (s.call n) .wait
      rw [hcall, told_of_reservations]
      show ({ (s.call n).told .wait with
        state := .seeking, stateCount := none, waitCount := seekingWait s.params (s.call n).waitCount,
        reservations := [] } : CallRecord) = _
      rw [← h.reservations, ← hrs, hwait]
      show ({ (s.call n).told .wait with
        state := .seeking, stateCount := none, waitCount := some ⟨.seek, f, false⟩ } : CallRecord) = _
      rw [← hwait, ← hw]
    rw [hrecord]
    show { s with seekQueues := (s.grant n r c).seekQueues.set r' _, calls := _ } = _
    rw [hqueue', hqueues]
    rfl

theorem does_grant_camps (h : s.Aims n x [(r', a)]) (hpresent : (s.handset r' a).present = true)
    (hbusy : (s.handset r' a).engaged ≠ none) (hcamp : x.camp = true) (hroom : (s.handset r' a).watch.length < 2) :
    Does b (·.targetCheck n) (s.grant n r c) ((s.grant n r c).campsOn n r' a) ((s.call n).telling .wait) := by
  have hcall : (s.grant n r c).call n = { s.call n with reservations := [(r, c)] } := by
    rw [grant_call_self, h.reservations]
  have hout : ((s.grant n r c).call n).telling .wait = (s.call n).telling .wait := by rw [hcall]; rfl
  rw [← hout]
  obtain ⟨hes, hb⟩ := membersOf_one_busy (s := s.grant n r c) hpresent hbusy
  have hfind : ((s.grant n r c).membersOf .busy [(r', a)]).find?
      (fun t => decide (((s.grant n r c).handset t.1 t.2).watch.length < Config.watchPlaces)) = some (r', a) := by
    rw [hb]
    exact List.find?_cons_of_pos (decide_eq_true hroom)
  have hchecks : ((s.grant n r c).call n).state ≠ .idle ∧ ((s.grant n r c).call n).resolved = some x := by
    rw [hcall]; exact ⟨h.active, h.resolved⟩
  generalize s.grant n r c = z at hes hfind hchecks ⊢
  exact (does_enterCamped b z n r' a).via fun L =>
    targetCheck_of_busy_room (s := z.relinked L) (m := (r', a)) hchecks.1 hchecks.2 h.targets hes hcamp hfind

/-- A granted call whose one member is busy camps on it. -/
theorem does_passDown_camps {u : State} {more : List (LinkId × Message)} (hfree : s.channel r c = none)
    (hqueue : s.seekQueue r = n :: rest) (hkind : (s.call n).kind ≠ some .resident) (h : s.Aims n x [(r', a)])
    (hwait : (s.call n).waitCount = some ⟨.seek, f, false⟩) (hpresent : (s.handset r' a).present = true)
    (hbusy : (s.handset r' a).engaged ≠ none) (hcamp : x.camp = true) (hroom : (s.handset r' a).watch.length < 2)
    (hrest : Does b (passDown r c rest) (s.campsHeld n r r' a f rest) u more) :
    Does b (passDown r c (n :: rest)) s u ((s.call n).telling .wait ++ more) := by
  have hcall : (s.grant n r c).call n = { s.call n with reservations := [(r, c)] } := by
    rw [grant_call_self, h.reservations]
  have hback := setAside_of_granted (n := n) hfree (s.grant n r c).seekQueues
    (s.setHandset r' a { s.handset r' a with watch := (s.handset r' a).watch ++ [n] }).handsets
    (w := { ((s.grant n r c).call n).told .wait with
      state := .camped, stateCount := some ⟨.camp, s.params.campTime * 8000⟩
      waitCount := campedWait ((s.grant n r c).call n).waitCount })
    (by rw [hcall, told_of_reservations])
  refine does_passDown_misses hkind (does_grant_camps h hpresent hbusy hcamp hroom) ?_ (hback.trans ?_) hrest
  · exact congrArg (CallRecord.ringsOn · r) (setCall_call_self ..)
  · have hqueues : (s.grant n r c).seekQueues = s.seekQueues.set r rest := by
      show s.seekQueues.set r _ = _
      rw [hqueue, List.erase_cons_head]
    have hrecord : ({ ((s.grant n r c).call n).told .wait with
        state := .camped, stateCount := some ⟨.camp, s.params.campTime * 8000⟩
        waitCount := campedWait ((s.grant n r c).call n).waitCount, reservations := [] } : CallRecord) =
        { (s.call n).told .wait with
          state := .camped, stateCount := some ⟨.camp, s.params.campTime * 8000⟩, waitCount := some ⟨.seek, f, true⟩ } := by
      have hrs := told_reservations (s.call n) .wait
      rw [hcall, told_of_reservations]
      show ({ (s.call n).told .wait with
        state := .camped, stateCount := some ⟨.camp, s.params.campTime * 8000⟩
        waitCount := campedWait (s.call n).waitCount, reservations := [] } : CallRecord) = _
      rw [← h.reservations, ← hrs, hwait]
      rfl
    rw [hrecord, hqueues]
    rfl

end

end Sys2Proof.Machine
end

section
/-!
PROOF. CHANNEL_GRANT and CAMP_WAKE (R21, R68, R76, R77, R79).
-/

namespace Sys2Proof.Machine

/-! ### A handset that wakes the head of its watch list (R68) -/

/-- Call `m`, woken at the head of the watch list of handset `a`, rings it over channel `ch`. -/
def State.wakesTo (s : State) (m : CallNo) (r : Fin 8) (ch : Fin 4) (a : Fin 63) (alert : Nat) (rest : List CallNo) : State :=
  { ((s.setHandset r a { s.handset r a with engaged := some m, watch := rest }).setChannel r ch (some m)) with
    calls := s.calls.set m ((s.call m).ringing s.params alert [(r, a)] [(r, ch)]) }

theorem ringing_of_stateCount (p : Params) (c : CallRecord) (alert : Nat) (ms : List (Fin 8 × Fin 63))
    (rs : List (Fin 8 × Fin 4)) (e : Option StateCount) :
    CallRecord.ringing p { c with stateCount := e } alert ms rs = c.ringing p alert ms rs := by
  rw [← told_ringing, ← told_ringing]
  rfl

theorem wakeHead_of_cons {s : State} {r : Fin 8} {a : Fin 63} {m : CallNo} {rest : List CallNo}
    (h : (s.handset r a).watch = m :: rest) :
    s.wakeHead r a = (s.setHandset r a { s.handset r a with watch := rest }).wakeCall m := by
  unfold State.wakeHead
  rw [h]

theorem does_wakeHead_rings (b : State) {s : State} {m : CallNo} {x : Resolved} {r : Fin 8} {a : Fin 63} {ch : Fin 4}
    {rest : List CallNo} (hwatch : (s.handset r a).watch = m :: rest) (h : s.Checks m x [(r, a)])
    (ha : (s.handset r a).Eligible) (hch : s.FirstFree r ch) :
    Does b (·.wakeHead r a) s (s.wakesTo m r ch a x.alertTime rest) ((s.call m).ringingOut s.params [(r, a)]) := by
  let z : State := (s.setHandset r a { s.handset r a with watch := rest }).setCall m { s.call m with stateCount := none }
  have hcall : z.call m = { s.call m with stateCount := none } := setCall_call_self ..
  have hhandset : z.handset r a = { s.handset r a with watch := rest } := setHandset_handset_self ..
  have hz : z.Checks m x [(r, a)] := by
    refine ⟨?_, ?_, h.targets, ?_, ?_⟩ <;> rw [hcall]
    · exact h.active
    · exact h.resolved
    · exact h.alerted
    · exact h.reservations
  have hlow : z.lowestFree r = some ch := lowestFree_of_firstFree (s := z) hch
  have hes : z.membersOf .eligible [(r, a)] = [(r, a)] := membersOf_one_eligible (by rw [hhandset]; exact ha)
  have hrung : [(r, a)].filter (fun m => (z.lowestFree m.1).isSome) = [(r, a)] :=
    List.filter_cons_of_pos (by rw [hlow]; rfl)
  have hdoes := does_check_rings b hz hes (by rw [hrung]; exact List.cons_ne_nil _ _)
  rw [hrung] at hdoes
  have hreserve : z.reserveAll m [(r, a)] =
      (z.setChannel r ch (some m)).setCall m { z.call m with reservations := [(r, ch)] } := by
    have hone := reserve_of_lowest (s := z) (n := m) (r := r) (ch := ch)
      (fun d hd => by rw [hz.reservations] at hd; exact nomatch hd) hlow
    rwa [hz.reservations] at hone
  have hstate : (z.reserveAll m [(r, a)]).ringsFlat m x.alertTime [(r, a)] = s.wakesTo m r ch a x.alertTime rest := by
    rw [hreserve, State.ringsFlat, hcall, setCall_call_self]
    have hrecord : CallRecord.ringing s.params { s.call m with stateCount := none, reservations := [(r, ch)] } x.alertTime
        [(r, a)] [(r, ch)] = (s.call m).ringing s.params x.alertTime [(r, a)] [(r, ch)] :=
      (ringing_of_reservations s.params { s.call m with stateCount := none } x.alertTime [(r, a)] [(r, ch)] [(r, ch)]).trans
        (ringing_of_stateCount ..)
    have hset : (s.setHandset r a { s.handset r a with watch := rest }).setHandset r a
        { (s.setHandset r a { s.handset r a with watch := rest }).handset r a with engaged := some m } =
        s.setHandset r a { s.handset r a with engaged := some m, watch := rest } := by
      rw [setHandset_handset_self, setHandset_setHandset]
    have hcalls : ∀ v w y : CallRecord, ((s.calls.set m v).set m w).set m y = s.calls.set m y := fun v w y => by
      rw [Vector.set_set, Vector.set_set]
    rw [State.wakesTo, ← hset, ← hrecord, ← hcalls { s.call m with stateCount := none }
      { s.call m with stateCount := none, reservations := [(r, ch)] }]
    rfl
  have hout : (z.call m).ringingOut z.params [(r, a)] = (s.call m).ringingOut s.params [(r, a)] := by rw [hcall]; rfl
  rw [hstate, hout] at hdoes
  exact hdoes.via fun L => wakeHead_of_cons (s := s.relinked L) hwatch

/-! ### The commands as works -/

theorem runs_channelGrant (s : State) (r : Fin 8) (c : Fin 4) : Runs (.channelGrant r c) s (State.grantWaiting r c) s.link [] :=
  runs_event rfl

theorem runs_campWake (s : State) (r : Fin 8) (a : Fin 63) : Runs (.campWake r a) s (State.wakeWaiting r a) s.link [] :=
  runs_event rfl

theorem grantWaiting_of_cons {s : State} {n : CallNo} {r : Fin 8} {c : Fin 4} {rest : List CallNo}
    (hfree : s.channel r c = none) (hqueue : s.seekQueue r = n :: rest) :
    s.grantWaiting r c = passDown r c (n :: rest) s := by
  rw [State.grantWaiting, if_pos ⟨by rw [hfree]; rfl, by rw [hqueue]; rfl⟩, State.free, hqueue]

theorem channelGrant_answers {s u : State} {n : CallNo} {r : Fin 8} {c : Fin 4} {rest : List CallNo}
    {out : List (LinkId × Message)} (hfree : s.channel r c = none) (hqueue : s.seekQueue r = n :: rest)
    (hdoes : Does s (passDown r c (n :: rest)) s u out) (hpending : u.maskedPending = s.maskedPending) :
    Answers (.channelGrant r c) s u s.link out :=
  (runs_channelGrant s r c).answers_quiet (fun hroom L hL =>
    (grantWaiting_of_cons (s := s.relinked L) hfree hqueue).trans (hdoes.apply hroom L hL)) hpending

theorem campWake_answers {s u : State} {r : Fin 8} {a : Fin 63} {out : List (LinkId × Message)}
    (hfree : (s.handset r a).engaged = none) (hdoes : Does s (·.wakeHead r a) s u out)
    (hpending : u.maskedPending = s.maskedPending) : Answers (.campWake r a) s u s.link out :=
  (runs_campWake s r a).answers_quiet (fun hroom L hL =>
    (show (s.relinked L).wakeWaiting r a = (s.relinked L).wakeHead r a from
      if_pos (by show (s.handset r a).engaged.isNone = true; rw [hfree]; rfl)).trans (hdoes.apply hroom L hL)) hpending

/-! ### A RESIDENT call granted its channel (R21, R76) -/

/-- The hunt reads the wait count by what it comes to alone (R99). -/
theorem deskPlace_of_wait {s : State} {n : CallNo} {c : CallRecord} {w : Option WaitCount} (hactive : c.state ≠ .idle)
    (h : huntingWait s.params c.waitCount = huntingWait s.params w) :
    (s.setCall n c).deskPlace n = (s.setCall n { c with waitCount := w }).deskPlace n := by
  have hcall : ∀ c' : CallRecord, (s.setCall n c').call n = c' := fun c' => setCall_call_self ..
  have hhunting : (s.setCall n c).hunting n = (s.setCall n { c with waitCount := w }).hunting n := by
    rw [State.hunting, State.hunting, hcall, hcall, setCall_setCall, setCall_setCall]
    show s.setCall n { c with waitCount := huntingWait s.params c.waitCount } = _
    rw [h]
    rfl
  have hactive' : ∀ c' : CallRecord, c'.state ≠ .idle → ((s.setCall n c').call n).state ≠ .idle := fun c' hc => by
    rw [hcall]; exact hc
  cases ho : s.idleOrder with
  | nil =>
    rw [deskPlace_of_nil (hactive' c hactive) ho, deskPlace_of_nil (hactive' { c with waitCount := w } hactive) ho, hhunting]
    rfl
  | cons q rest =>
    rw [deskPlace_of_cons (hactive' c hactive) ho, deskPlace_of_cons (hactive' { c with waitCount := w } hactive) ho, hhunting]

/-- The RESIDENT call `n` with its channel and no wait count to run on. -/
def State.residentGranted (s : State) (n : CallNo) (r : Fin 8) (c : Fin 4) (rest : List CallNo) : State :=
  ((s.setSeekQueue r rest).setChannel r c (some n)).setCall n
    { s.call n with reservations := [(r, c)], waitCount := none }

/-- The end of a granted RESIDENT call that finds nobody logged on, with the wait count it had. -/
def State.residentEnds (w : Option WaitCount) (n : CallNo) (r : Fin 8) (c : Fin 4) (rest : List CallNo) (t : State) : State :=
  (passDown r c rest ((t.setCall n { t.call n with waitCount := w }).setAside n r c)).clearWith .waking n .noDesk

section
variable {s : State} {n : CallNo} {r : Fin 8} {c : Fin 4} {rest : List CallNo}

theorem grant_eq_residentGranted (hqueue : s.seekQueue r = n :: rest) (hres : (s.call n).reservations = []) :
    s.grant n r c = (s.residentGranted n r c rest).setCall n
      { (s.residentGranted n r c rest).call n with waitCount := (s.call n).waitCount } := by
  rw [State.residentGranted, setCall_call_self, setCall_setCall, State.grant, hqueue, hres, List.erase_cons_head]

theorem passDown_resident_none (hqueue : s.seekQueue r = n :: rest) (hkind : (s.call n).kind = some .resident)
    (hres : (s.call n).reservations = []) (hoff : ∀ k, (s.position k).loggedOn = false) :
    passDown r c (n :: rest) s = (s.residentGranted n r c rest).residentEnds (s.call n).waitCount n r c rest := by
  have hcount : (s.grant n r c).loggedOnCount = 0 := loggedOnCount_eq_zero (s := s.grant n r c) |>.mpr hoff
  rw [passDown_cons, if_pos hkind, if_pos hcount, grant_eq_residentGranted hqueue hres]
  rfl

theorem passDown_resident_hunts {a : Fin 63} (hqueue : s.seekQueue r = n :: rest) (hkind : (s.call n).kind = some .resident)
    (horigin : (s.call n).origin = some (.handset r a)) (hactive : (s.call n).state ≠ .idle)
    (hres : (s.call n).reservations = []) {f : Nat} {h : Bool} (hwait : (s.call n).waitCount = some ⟨.seek, f, h⟩)
    (hon : ∃ k, (s.position k).loggedOn = true) :
    passDown r c (n :: rest) s =
      ((s.residentGranted n r c rest).putAll [(.riser r, replyMsg (BitVec.ofNat 8 a.val) .accepted)]).deskPlace n := by
  have hcount : (s.grant n r c).loggedOnCount ≠ 0 := loggedOnCount_ne_zero (s := s.grant n r c) |>.mpr hon
  have hgranted : (s.grant n r c).acceptResident n =
      ((s.grant n r c).sendReply (.handset r a) .accepted).deskPlace n := by
    refine acceptResident_of_origin ?_
    rw [grant_call_self]; exact horigin
  have hput : (s.grant n r c).sendReply (.handset r a) .accepted =
      ((s.residentGranted n r c rest).put (.riser r) (replyMsg (BitVec.ofNat 8 a.val) .accepted)).setCall n
        { (s.residentGranted n r c rest).call n with waitCount := (s.call n).waitCount } := by
    rw [put_setCall, ← grant_eq_residentGranted hqueue hres]
    rfl
  have hcall : (s.residentGranted n r c rest).call n = { s.call n with reservations := [(r, c)], waitCount := none } :=
    setCall_call_self ..
  rw [passDown_cons, if_pos hkind, if_neg hcount, hgranted, hput, deskPlace_of_wait (w := none)]
  · refine congrArg (State.deskPlace · n) ?_
    have hsame : ({ (s.residentGranted n r c rest).call n with waitCount := none } : CallRecord) =
        (s.residentGranted n r c rest).call n := by rw [hcall]
    show State.setCall _ n { (s.residentGranted n r c rest).call n with waitCount := none } = _
    rw [hsame, put_setCall, setCall_call_eq]
    rfl
  · show ((s.residentGranted n r c rest).call n).state ≠ .idle
    rw [hcall]; exact hactive
  · rw [hwait]
    rfl

theorem residentGranted_call :
    (s.residentGranted n r c rest).call n = { s.call n with reservations := [(r, c)], waitCount := none } := setCall_call_self ..

/-- The channel of a call that gives it back is free for the next. -/
theorem setAside_channel_free {x : State} (hmem : (r, c) ∈ (x.call n).reservations) : (x.setAside n r c).channel r c = none := by
  rw [setAside_of_mem hmem, setCall_channel, setChannel_channel_self]

theorem onCalls_residentEnds {x : State} {w : Option WaitCount} (hmem : (r, c) ∈ (x.call n).reservations) :
    OnCalls x (x.residentEnds w n r c rest) := by
  have hmem' : (r, c) ∈ ((x.setCall n { x.call n with waitCount := w }).call n).reservations := by
    rw [setCall_call_self]; exact hmem
  have hset : EventWorks (fun _ => True) (x.setCall n { x.call n with waitCount := w })
      ((x.setCall n { x.call n with waitCount := w }).setAside n r c) := works_setAside _ r c trivial trivial
  have hpass := works_passDown (T := fun _ => True) (K := fun _ => True) (fun _ h => h) r c rest _ (fun _ _ => trivial)
    (setAside_channel_free hmem')
  exact (onCalls_setCall ..).trans ((EventWorks.onCalls (hset.trans hpass)).trans (onCalls_clearWith plain_waking ..))

theorem clearedWith_residentEnds {x : State} {w : Option WaitCount} (hmem : (r, c) ∈ (x.call n).reservations)
    (hactive : (x.call n).state ≠ .idle) (hnowhere : x.StandsNowhere n) (hrest : n ∉ rest) :
    ClearedWith x (x.residentEnds w n r c rest) n .noDesk := by
  let y : State := x.setCall n { x.call n with waitCount := w }
  have hcall : y.call n = { x.call n with waitCount := w } := setCall_call_self ..
  have hmem' : (r, c) ∈ (y.call n).reservations := by rw [hcall]; exact hmem
  have hset : (y.setAside n r c).call n = { x.call n with
      waitCount := w, reservations := (x.call n).reservations.erase (r, c) } := by
    rw [setAside_of_mem hmem', setCall_call_self, hcall]
  have hnowhere' : (y.setAside n r c).StandsNowhere n := by
    rw [setAside_of_mem hmem']; exact hnowhere
  have hspares : Spares n (y.setAside n r c) (passDown r c rest (y.setAside n r c)) :=
    works_passDown (fun _ _ => trivial) r c rest _ (fun m hm e => hrest (e ▸ hm)) (setAside_channel_free hmem')
  obtain ⟨hkept, -⟩ := hspares.spared hnowhere'
  rw [hset] at hkept
  obtain ⟨hrecord, hplaces⟩ := clearedWith_clear plain_waking (s := passDown r c rest (y.setAside n r c)) (n := n) .noDesk
    (by rw [hkept]; exact hactive)
  exact ⟨by rw [State.residentEnds, hrecord, hkept], hplaces⟩

/-- The call `n` once its granted channel has gone by. -/
def State.residentReturned (s : State) (w : Option WaitCount) (n : CallNo) (r : Fin 8) (c : Fin 4) : State :=
  ((s.residentGranted n r c []).setChannel r c none).setCall n { s.call n with reservations := [], waitCount := w }

theorem residentEnds_returned (L : Vector LinkUnit 13) (w : Option WaitCount) :
    ((s.residentGranted n r c []).relinked L).residentEnds w n r c [] =
      ((s.residentReturned w n r c).relinked L).clearWith .waking n .noDesk := by
  let z : State := (s.residentGranted n r c []).relinked L
  have hcall : (z.setCall n { z.call n with waitCount := w }).call n =
      { s.call n with reservations := [(r, c)], waitCount := w } := by
    rw [setCall_call_self]
    show ({ (s.residentGranted n r c []).call n with waitCount := w } : CallRecord) = _
    rw [residentGranted_call]
  have hset : (z.setCall n { z.call n with waitCount := w }).setAside n r c = (s.residentReturned w n r c).relinked L := by
    have herase : ([(r, c)] : List (Fin 8 × Fin 4)).erase (r, c) = [] := List.erase_cons_head ..
    rw [setAside_of_mem (by rw [hcall]; exact List.mem_singleton_self _), hcall, herase]
    exact setCall_setCall (z.setChannel r c none) n _ _
  have hfree : ((s.residentReturned w n r c).relinked L).channel r c = none := by
    show ((s.residentGranted n r c []).setChannel r c none).channel r c = none
    simp
  show (passDown r c [] ((z.setCall n { z.call n with waitCount := w }).setAside n r c)).clearWith .waking n .noDesk = _
  rw [hset, passDown, setChannel_none_of_none hfree]

theorem gives_resident (hactive : (s.call n).state ≠ .idle)
    (hquiet : (s.residentGranted n r c []).NoneWaits) (hmode : s.mode ≠ .draining) (w : Option WaitCount) (b : State) :
    ∃ u, Does b (·.residentEnds w n r c []) (s.residentGranted n r c []) u
        (b.reached (((s.residentGranted n r c []).call n).clearingOut .noDesk)) ∧
      u.attention = (s.residentGranted n r c []).attention ||| 0x00#8 ∧
      ∀ t, t = { u with links := t.links, attention := t.attention } → GivenUp (s.residentGranted n r c []) t n .noDesk := by
  have hcall : (s.residentReturned w n r c).call n = { s.call n with reservations := [], waitCount := w } := setCall_call_self ..
  have hquiet' : (s.residentReturned w n r c).NoneWaits := ⟨hquiet.seek, hquiet.desk, hquiet.watch⟩
  refine ⟨(s.residentReturned w n r c).goneCall n .noDesk, ?_, ?_, fun t ht => ?_⟩
  · have hout : ((s.residentReturned w n r c).call n).clearingOut .noDesk =
        ((s.residentGranted n r c []).call n).clearingOut .noDesk := by rw [hcall, residentGranted_call]; rfl
    rw [← hout]
    exact (does_clear plain_waking .noDesk hquiet' (by rw [hcall]; exact hactive) hmode).via fun L => residentEnds_returned L w
  · rw [goneCall_attention, BitVec.or_zero]; rfl
  · have hrest : PartiesFreed (s.residentGranted n r c [])
        { s.residentReturned w n r c with
          calls := (s.residentGranted n r c []).calls, channels := (s.residentGranted n r c []).channels } n [] :=
      .refl (s.residentGranted n r c []) n
    refine (goneCall_givenUp .noDesk hquiet' ht).of_freed hrest (by rw [hcall, residentGranted_call]) (fun m hm => ?_)
      (fun r' c' => ?_) fun x => ?_
    · rw [State.residentReturned, State.residentGranted, setCall_call_ne _ _ hm]
      rfl
    · rw [hcall, residentGranted_call]
      show (if _ then none else ((s.residentGranted n r c []).setChannel r c none).channel r' c') = _
      rw [setChannel_channel]
      by_cases h : r' = r ∧ c' = c
      · obtain ⟨rfl, rfl⟩ := h
        simp
      · have hne : (r', c') ∉ [(r, c)] := by simpa using h
        rw [if_neg h, if_neg hne, if_neg List.not_mem_nil]
    · rw [hcall, residentGranted_call]
      simp [CallRecord.parties]

theorem ends_resident (hactive : (s.call n).state ≠ .idle)
    (hnowhere : (s.setSeekQueue r rest).StandsNowhere n) (w : Option WaitCount) :
    Ends (s.residentGranted n r c rest) (·.residentEnds w n r c rest) n .noDesk 0x00#8
      (((s.residentGranted n r c rest).call n).clearingOut .noDesk) 
      ((s.residentGranted n r c rest).WaitsAlone n ∧ (s.residentGranted n r c rest).StandsNowhere n) := by
  have hmem : ∀ x, (s.residentGranted n r c rest).Beside x → (r, c) ∈ (x.call n).reservations := fun x hx => by
    rw [hx.call, residentGranted_call]; exact List.mem_singleton_self _
  have hrest : n ∉ rest := by simpa using hnowhere.1 r
  refine ⟨fun x hx => onCalls_residentEnds (hmem x hx), fun x hx => ?_, ?_⟩
  · have hcleared := clearedWith_residentEnds (w := w) (hmem x hx)
      (by rw [hx.call, residentGranted_call]; exact hactive) (by rw [hx]; exact hnowhere) hrest
    exact ⟨by rw [hcleared.1, hx.call], hcleared.2⟩
  · rintro ⟨halone, hstands⟩ b
    have hquiet := noneWaits_of halone hstands
    have hnil : rest = [] := by
      have h := hquiet.seek r
      rwa [show (s.residentGranted n r c rest).seekQueue r = rest from setSeekQueue_seekQueue_self ..] at h
    subst hnil
    exact gives_resident hactive hquiet halone.2.2.2 w b

theorem channelGrant_resident {a : Fin 63} {f : Nat} {h : Bool} (hfree : s.channel r c = none)
    (hqueue : s.seekQueue r = n :: rest) (hactive : (s.call n).state ≠ .idle) (hres : (s.call n).reservations = [])
    (hkind : (s.call n).kind = some .resident) (horigin : (s.call n).origin = some (.handset r a))
    (hwait : (s.call n).waitCount = some ⟨.seek, f, h⟩) (hnowhere : (s.setSeekQueue r rest).StandsNowhere n) :
    HuntsDesk (.channelGrant r c) s (s.residentGranted n r c rest) n s.link
      [(.riser r, replyMsg (BitVec.ofNat 8 a.val) .accepted)] [] := by
  have hcall : (s.residentGranted n r c rest).call n = { s.call n with reservations := [(r, c)], waitCount := none } :=
    residentGranted_call
  have hactive' : ((s.residentGranted n r c rest).call n).state ≠ .idle := by rw [hcall]; exact hactive
  have hwait' : ((s.residentGranted n r c rest).call n).waitCount = none := by rw [hcall]
  refine (runs_channelGrant s r c).huntsDesk rfl rfl hactive' (by rw [hwait']; exact huntingWait_of_none _)
    (fun hon L _ => ?_) (ends_resident hactive hnowhere (s.call n).waitCount) (fun ha hn => ⟨ha, hn⟩) fun hoff L _ => ?_
  · exact (grantWaiting_of_cons (s := s.relinked L) hfree hqueue).trans
      (passDown_resident_hunts (s := s.relinked L) hqueue hkind horigin hactive hres hwait hon)
  · exact (grantWaiting_of_cons (s := s.relinked L) hfree hqueue).trans
      (passDown_resident_none (s := s.relinked L) hqueue hkind hres hoff)

end

/-! ### Calls to a flat (R12, R77, R79) -/

section
variable {s : State} {n : CallNo} {r : Fin 8} {c : Fin 4}

theorem does_passDown_nil (b : State) {z : State} (h : z.channel r c = none) : Does b (passDown r c []) z z [] :=
  .pure fun L => setChannel_none_of_none (s := z.relinked L) h

/-- The head of the queue that is left rings its flat over the channel passed to it. -/
theorem does_passDown_next (b : State) {z : State} {m : CallNo} {more : List CallNo} {y : Resolved} {a : Fin 63}
    (hm : z.call m = s.call m) (hparams : z.params = s.params) (hqueue : z.seekQueue r = m :: more)
    (hkind : (s.call m).kind ≠ some .resident) (h : s.Checks m y [(r, a)]) (ha : (z.handset r a).Eligible) :
    Does b (passDown r c (m :: more)) z
      { (((z.setSeekQueue r more).setHandset r a { z.handset r a with engaged := some m }).setChannel r c (some m)) with
        calls := z.calls.set m ((s.call m).ringing s.params y.alertTime [(r, a)] [(r, c)]) }
      ((s.call m).ringingOut s.params [(r, a)]) := by
  have hz : z.Checks m y [(r, a)] := by
    refine ⟨?_, ?_, h.targets, ?_, ?_⟩ <;> rw [hm]
    · exact h.active
    · exact h.resolved
    · exact h.alerted
    · exact h.reservations
  have hdoes := does_passDown_rings b c more (by rw [hm]; exact hkind) hz ha
  rw [State.ringsOver, hqueue, List.erase_cons_head, hm, hparams] at hdoes
  exact hdoes

end

theorem checks_of_seeking {s : State} {n : CallNo} {x : Resolved} {ts : List (Fin 8 × Fin 63)}
    (hseeking : (s.call n).state = .seeking) (hx : (s.call n).resolved = some x) (hts : x.targets = .flat ts)
    (halerted : (s.call n).alerted = []) (hres : (s.call n).reservations = []) : s.Checks n x ts :=
  ⟨by rw [hseeking]; exact nofun, hx, hts, halerted, hres⟩

/-- What is left of the queue when a granted call has gone on to `z`, told `lost`: nobody, or a call that rings its flat. -/
theorem channelGrant_passes {s z : State} {n : CallNo} {r : Fin 8} {c : Fin 4} {rest : List CallNo}
    {lost : List (LinkId × Message)} (hfree : s.channel r c = none) (hqueue : s.seekQueue r = n :: rest)
    (hmisses : ∀ {u more}, Does s (passDown r c rest) z u more → Does s (passDown r c (n :: rest)) s u (lost ++ more))
    (hchannel : z.channel r c = none) (hz : z.maskedPending = s.maskedPending) (hparams : z.params = s.params)
    (hcalls : ∀ m, m ≠ n → z.call m = s.call m) :
    (rest = [] → Answers (.channelGrant r c) s z s.link lost) ∧
      ∀ (m : CallNo) (more : List CallNo) (y : Resolved) (a : Fin 63), rest = m :: more → m ≠ n →
        (s.call m).kind ≠ some .resident → s.Checks m y [(r, a)] → z.seekQueue r = m :: more → (z.handset r a).Eligible →
        Answers (.channelGrant r c) s
          { (((z.setSeekQueue r more).setHandset r a { z.handset r a with engaged := some m }).setChannel r c (some m)) with
            calls := z.calls.set m ((s.call m).ringing s.params y.alertTime [(r, a)] [(r, c)]) }
          s.link (lost ++ (s.call m).ringingOut s.params [(r, a)]) := by
  refine ⟨fun hnil => ?_, fun m more y a hrest hm hkind hy hqueue' ha => ?_⟩
  · subst hnil
    have hdoes := hmisses (does_passDown_nil s hchannel)
    rw [List.append_nil] at hdoes
    exact channelGrant_answers hfree hqueue hdoes hz
  · subst hrest
    exact channelGrant_answers hfree hqueue (hmisses (does_passDown_next s (hcalls m hm) hparams hqueue' hkind hy ha)) hz

theorem channelGrant_misses {s : State} {n : CallNo} {r r' : Fin 8} {c : Fin 4} {rest : List CallNo} {x : Resolved} {f : Nat}
    {b : Fin 63} {z : State} (hfree : s.channel r c = none) (hqueue : s.seekQueue r = n :: rest)
    (hkind : (s.call n).kind ≠ some .resident) (h : s.Aims n x [(r', b)])
    (hwait : (s.call n).waitCount = some ⟨.seek, f, false⟩)
    (hz : (r' ≠ r ∧ (s.handset r' b).Eligible ∧ (∀ d, s.channel r' d ≠ none) ∧ z = s.seeksAgain n r r' rest) ∨
      ((s.handset r' b).present = true ∧ (s.handset r' b).engaged ≠ none ∧ x.camp = true ∧ (s.handset r' b).watch.length < 2 ∧
        z = s.campsHeld n r r' b f rest)) :
    (rest = [] → Answers (.channelGrant r c) s z s.link ((s.call n).telling .wait)) ∧
      ∀ (m : CallNo) (more : List CallNo) (y : Resolved) (a : Fin 63), rest = m :: more → m ≠ n →
        (s.call m).kind ≠ some .resident → s.Checks m y [(r, a)] → (s.handset r a).Eligible →
        Answers (.channelGrant r c) s
          { (((z.setSeekQueue r more).setHandset r a { z.handset r a with engaged := some m }).setChannel r c (some m)) with
            calls := z.calls.set m ((s.call m).ringing s.params y.alertTime [(r, a)] [(r, c)]) }
          s.link ((s.call n).telling .wait ++ (s.call m).ringingOut s.params [(r, a)]) := by
  obtain ⟨hne, ha, hfull, rfl⟩ | ⟨hpresent, hbusy, hcamp, hroom, rfl⟩ := hz
  · obtain ⟨hlast, hnext⟩ := channelGrant_passes hfree hqueue
      (fun {u more} => does_passDown_seeks (u := u) (more := more) hfree hqueue hkind h hwait ha hne hfull) hfree rfl rfl
      fun m hm => setCall_call_ne _ _ hm
    refine ⟨hlast, fun m more y a hrest hm hkind' hy ha' => hnext m more y a hrest hm hkind' hy ?_ ha'⟩
    show ((s.setSeekQueue r rest).setSeekQueue r' (s.seekQueue r' ++ [n])).seekQueue r = m :: more
    rw [setSeekQueue_seekQueue_ne _ _ (Ne.symm hne), setSeekQueue_seekQueue_self, hrest]
  · obtain ⟨hlast, hnext⟩ := channelGrant_passes hfree hqueue
      (fun {u more} => does_passDown_camps (u := u) (more := more) hfree hqueue hkind h hwait hpresent hbusy hcamp hroom)
      hfree rfl rfl fun m hm => setCall_call_ne _ _ hm
    refine ⟨hlast, fun m more y a hrest hm hkind' hy ha' => hnext m more y a hrest hm hkind' hy ?_ ?_⟩
    · show (s.setSeekQueue r rest).seekQueue r = m :: more
      rw [setSeekQueue_seekQueue_self, hrest]
    · show ((s.setHandset r' b { s.handset r' b with watch := (s.handset r' b).watch ++ [n] }).handset r a).Eligible
      rw [setHandset_handset]
      split
      next he =>
        obtain ⟨rfl, rfl⟩ := he
        exact absurd ha'.2.1 hbusy
      next => exact ha'

/-! ### The obligation -/

theorem ringing_entrance {s : State} {n : CallNo} {p : Fin 4} {st : Fin 2} {r : Fin 8} {a : Fin 63} {c : Fin 4} {alert : Nat}
    (horigin : (s.call n).origin = some (.station p st)) (hcadence : (s.call n).ringCadence = none)
    (hprogress : (s.call n).lastProgress = some .wait) :
    (s.call n).ringingOut s.params [(r, a)] =
        [(LinkId.riser r, ringHandsetMsg (BitVec.ofNat 8 a.val) (BitVec.ofNat 8 p.val)
            (BitVec.ofNat 8 (s.params.cadence[p]).val)),
          (LinkId.panel p, progressMsg (BitVec.ofNat 8 st.val) .ringback)] ∧
      (s.call n).ringing s.params alert [(r, a)] [(r, c)] =
        { s.call n with
          state := .alerting
          alerted := [.handset r a]
          reservations := [(r, c)]
          ringCadence := some s.params.cadence[p]
          stateCount := some ⟨.alert, (if alert = 0 then s.params.alertTime else alert) * 8000⟩
          waitCount := none
          lastProgress := some .ringback } := by
  have hclass : (s.call n).ringClass s.params = s.params.cadence[p] := by rw [CallRecord.ringClass, hcadence, horigin]
  constructor
  · unfold CallRecord.ringingOut
    rw [hclass, horigin, telling_of_station .ringback horigin, if_neg (by rw [hprogress]; exact nofun)]
    rfl
  · unfold CallRecord.ringing
    rw [hclass, told_of_station .ringback horigin]
    rfl

/-- Settles O60: the granted call and the woken call ring by the target check over their channel; a call that cannot use the
channel goes on to its place, and the channel to the next of the queue. -/
theorem grantAndWakeRingTheFlat : Obligations.GrantAndWakeRingTheFlat := by
  refine ⟨fun s n p st r a c x horigin hkind hx hts hres halerted hcadence hprogress ha => ?_,
    fun s n r c rest hfree hqueue hseeking hres => ⟨fun a f h hkind horigin _ hwait hnowhere => ?_, ?_⟩⟩
  · obtain ⟨hout, hringing⟩ := ringing_entrance (s := s) (n := n) (r := r) (a := a) (c := c) (alert := x.alertTime) horigin
      hcadence hprogress
    intro out ringing hroom
    refine ⟨fun rest hfree hqueue hstate => ?_, fun rest hfirst hwatch hstate => ?_⟩
    · have hc : s.Checks n x [(r, a)] := ⟨by rw [hstate]; exact nofun, hx, hts, halerted, hres⟩
      have hdoes := does_passDown_rings s c rest (by rw [hkind]; exact nofun) hc ha
      rw [State.ringsOver, hout, hringing, hqueue, List.erase_cons_head] at hdoes
      obtain ⟨t, hexec, hframe, hlinks⟩ := channelGrant_answers hfree hqueue hdoes rfl hroom
      exact ⟨t, hexec, hlinks, hframe⟩
    · have hc : s.Checks n x [(r, a)] := ⟨by rw [hstate]; exact nofun, hx, hts, halerted, hres⟩
      have hdoes := does_wakeHead_rings s hwatch hc ha hfirst
      rw [State.wakesTo, hout, hringing] at hdoes
      obtain ⟨t, hexec, hframe, hlinks⟩ := campWake_answers ha.2.1 hdoes rfl hroom
      exact ⟨t, hexec, hlinks, hframe⟩
  · exact channelGrant_resident hfree hqueue (by rw [hseeking]; exact nofun) hres hkind horigin hwait hnowhere
  · intro x f r' b z lost hkind hx hts hwait hlost told h hz
    subst hlost
    have haims : s.Aims n x [(r', b)] := ⟨by rw [hseeking]; exact nofun, hx, hts, hres⟩
    obtain ⟨hlast, hnext⟩ := channelGrant_misses (c := c) hfree hqueue hkind haims hwait hz
    exact ⟨hlast, fun m more y a hrest hm hkind' hseeking' hy hyts hres' halerted' ha =>
      hnext m more y a hrest hm hkind' (checks_of_seeking hseeking' hy hyts halerted' hres') ha⟩

end Sys2Proof.Machine
end

section
/-!
PROOF. An alerted handset that leaves its call, by decline or by absence (R20, R82), in closed form.
-/

namespace Sys2Proof.Machine

/-- The record of a call that a member has left. -/
def CallRecord.without (c : CallRecord) (x : Party) : CallRecord := { c with alerted := c.alerted.filter (· ≠ x) }

/-- The RING_STOP of a member that leaves with one. -/
def stopOf (r : Fin 8) (a : Fin 63) (stop : Option StopReason) : List (LinkId × Message) :=
  stop.toList.map fun y => (.riser r, ringStopMsg (BitVec.ofNat 8 a.val) y)

theorem memberLeaves_putAll (s : State) (n : CallNo) (r : Fin 8) (a : Fin 63) (stop : Option StopReason) (cause : Cause) :
    s.memberLeaves n r a stop cause =
      if (((s.putAll (stopOf r a stop)).memberGone n r a).call n).alerted = [] then
        ((s.putAll (stopOf r a stop)).memberGone n r a).outcome n cause
      else (s.putAll (stopOf r a stop)).memberGone n r a := by
  rw [memberLeaves_eq]
  cases stop <;> rfl

theorem does_memberLeaves {b s u : State} {n : CallNo} {r : Fin 8} {a : Fin 63} {out : List (LinkId × Message)}
    (stop : Option StopReason) (cause : Cause) (h : Does b (·.memberGone n r a) s u out) (hu : (u.call n).alerted ≠ []) :
    Does b (·.memberLeaves n r a stop cause) s u (stopOf r a stop ++ out) := by
  intro L pre hL hroom
  have hstate : (((s.relinked L).sent pre).putAll (stopOf r a stop)).memberGone n r a = _ :=
    (does_putAll_room b s (stopOf r a stop)).comp h L pre hL hroom
  show State.memberLeaves _ n r a stop cause = _
  rw [memberLeaves_putAll, hstate]
  exact if_neg hu

theorem ringsOn_of_mem {c : CallRecord} {r : Fin 8} {b : Fin 63} (hstate : c.state = .alerting)
    (h : .handset r b ∈ c.alerted) : c.ringsOn r = true := by
  unfold CallRecord.ringsOn
  rw [hstate, Bool.and_eq_true_iff]
  exact ⟨rfl, List.any_eq_true.mpr ⟨_, h, decide_eq_true rfl⟩⟩

theorem ringsOn_of_not_mem {c : CallRecord} {r : Fin 8} (h : ∀ b, .handset r b ∉ c.alerted) : c.ringsOn r = false := by
  have hnone : ∀ x ∈ c.alerted, (match x with
      | .handset r' _ => decide (r' = r)
      | _ => false) ≠ true := by
    rintro (_ | ⟨r', b⟩ | _) hx he
    · exact nomatch he
    · obtain rfl := of_decide_eq_true he
      exact h b hx
    · exact nomatch he
  unfold CallRecord.ringsOn
  rw [Bool.and_eq_false_iff]
  exact .inr (List.any_eq_false.mpr hnone)

section
variable {b s : State} {n : CallNo} {r : Fin 8} {a : Fin 63}

theorem does_handBackUnrung_rings (hstate : (s.call n).state = .alerting) {d : Fin 63} (h : .handset r d ∈ (s.call n).alerted) :
    Does b (·.handBackUnrung n r) s s [] := .pure fun _ => if_pos (ringsOn_of_mem hstate h)

theorem does_handBackUnrung_back {u : State} {c : Fin 4} {out : List (LinkId × Message)}
    (h : ∀ d, .handset r d ∉ (s.call n).alerted) (hc : (s.call n).channelOn r = some c)
    (hback : Does b (·.handBack n (r, c)) s u out) : Does b (·.handBackUnrung n r) s u out :=
  hback.via fun L => by
    have hc' : ((s.relinked L).call n).channelOn r = some c := hc
    rw [State.handBackUnrung, if_neg (Bool.eq_false_iff.mp (ringsOn_of_not_mem (c := (s.relinked L).call n) h)), hc']

theorem channelOn_mem {c : CallRecord} {r : Fin 8} {ch : Fin 4} (h : c.channelOn r = some ch) : (r, ch) ∈ c.reservations := by
  obtain ⟨⟨r', c'⟩, hx, rfl⟩ := Option.map_eq_some_iff.mp h
  have hr := of_decide_eq_true (List.find?_some (p := fun x : Fin 8 × Fin 4 => decide (x.1 = r)) hx)
  subst hr
  exact List.mem_of_find?_eq_some hx

/-- A channel handed back that no call seeks. -/
theorem does_handBack_nil {c : Fin 4} (hc : (r, c) ∈ (s.call n).reservations) (hq : s.seekQueue r = []) :
    Does b (·.handBack n (r, c)) s
      ((s.setChannel r c none).setCall n { s.call n with reservations := (s.call n).reservations.erase (r, c) }) [] :=
  .pure fun L => (handBack_of_nil plain_full (s := s.relinked L) (x := (r, c)) hq).trans
    (setAside_of_mem (s := s.relinked L) hc)

/-- A channel handed back that rings the flat of the call at the head of its queue. -/
theorem does_handBack_next {c : Fin 4} {w : CallNo} {rest : List CallNo} {x : Resolved} {d : Fin 63}
    (hc : (r, c) ∈ (s.call n).reservations) (hq : s.seekQueue r = w :: rest) (hw : w ≠ n)
    (hkind : (s.call w).kind ≠ some .resident) (h : s.Checks w x [(r, d)]) (hd : (s.handset r d).Eligible) :
    Does b (·.handBack n (r, c)) s
      { ((s.setHandset r d { s.handset r d with engaged := some w }).setChannel r c (some w)) with
        seekQueues := s.seekQueues.set r rest
        calls := (s.calls.set n { s.call n with reservations := (s.call n).reservations.erase (r, c) }).set w
          ((s.call w).ringing s.params x.alertTime [(r, d)] [(r, c)]) }
      ((s.call w).ringingOut s.params [(r, d)]) := by
  let z := (s.setChannel r c none).setCall n { s.call n with reservations := (s.call n).reservations.erase (r, c) }
  have hcall : z.call w = s.call w := setCall_call_ne _ _ hw
  have hz : z.Checks w x [(r, d)] := by
    refine ⟨?_, ?_, h.targets, ?_, ?_⟩ <;> rw [hcall]
    · exact h.active
    · exact h.resolved
    · exact h.alerted
    · exact h.reservations
  have hdoes := does_passDown_rings b c rest (by rw [hcall]; exact hkind) hz hd
  have hqueue : z.seekQueue r = w :: rest := hq
  rw [State.ringsOver, hqueue, List.erase_cons_head, hcall] at hdoes
  have hstate : ({ ((z.setHandset r d { z.handset r d with engaged := some w }).setChannel r c (some w)) with
        seekQueues := z.seekQueues.set r rest
        calls := z.calls.set w ((s.call w).ringing z.params x.alertTime [(r, d)] [(r, c)]) } : State) =
      { ((s.setHandset r d { s.handset r d with engaged := some w }).setChannel r c (some w)) with
        seekQueues := s.seekQueues.set r rest
        calls := (s.calls.set n { s.call n with reservations := (s.call n).reservations.erase (r, c) }).set w
          ((s.call w).ringing s.params x.alertTime [(r, d)] [(r, c)]) } := by
    exact congrArg (fun v => ({ s.setHandset r d { s.handset r d with engaged := some w } with
      channels := v
      seekQueues := s.seekQueues.set r rest
      calls := (s.calls.set n { s.call n with reservations := (s.call n).reservations.erase (r, c) }).set w
        ((s.call w).ringing s.params x.alertTime [(r, d)] [(r, c)]) } : State)) (setChannel_channels_twice s r c none (some w))
  rw [hstate] at hdoes
  refine hdoes.via fun L => ?_
  have hset : (s.relinked L).setAside n r c = z.relinked L := setAside_of_mem (s := s.relinked L) hc
  show (if (r, c) ∈ (s.call n).reservations then ((s.relinked L).setAside n r c).free r c else _) = _
  rw [if_pos hc, hset, State.free]
  exact congrArg (passDown r c · (z.relinked L)) hq

end

/-! ### The ways a member leaves -/

section
variable {b s : State} {n : CallNo} {r : Fin 8} {a : Fin 63}

theorem does_memberGone {y u : State} {out out' : List (LinkId × Message)}
    (hlets : Does b (·.disengage n (.handset r a)) (s.setCall n ((s.call n).without (.handset r a))) y out)
    (hback : Does b (·.handBackUnrung n r) y u out') : Does b (·.memberGone n r a) s u (out ++ out') :=
  (hlets.comp hback).via fun _ => rfl

/-- Handset `a` of call `n` is free and off its alerted list. -/
def State.leaving (s : State) (n : CallNo) (r : Fin 8) (a : Fin 63) : State :=
  (s.setHandset r a { s.handset r a with engaged := none }).setCall n ((s.call n).without (.handset r a))

theorem leaving_call (s : State) (n : CallNo) (r : Fin 8) (a : Fin 63) :
    (s.leaving n r a).call n = (s.call n).without (.handset r a) := setCall_call_self ..

theorem does_disengage_member (he : (s.handset r a).engaged = some n) (hw : (s.handset r a).watch = []) :
    Does b (·.disengage n (.handset r a)) (s.setCall n ((s.call n).without (.handset r a))) (s.leaving n r a) [] :=
  .pure fun L => disengage_handset_of_nil plain_full (s := (s.setCall n _).relinked L) he hw

/-- Another handset of its riser rings on. -/
theorem does_memberGone_rings (he : (s.handset r a).engaged = some n) (hw : (s.handset r a).watch = [])
    (hstate : (s.call n).state = .alerting) {d : Fin 63} (hd : .handset r d ∈ ((s.call n).without (.handset r a)).alerted) :
    Does b (·.memberGone n r a) s (s.leaving n r a) [] :=
  does_memberGone (does_disengage_member he hw)
    (does_handBackUnrung_rings (by rw [leaving_call]; exact hstate) (by rw [leaving_call]; exact hd))

/-- No other handset of its riser rings, and no call seeks a channel there. -/
theorem does_memberGone_frees {c : Fin 4} (he : (s.handset r a).engaged = some n) (hw : (s.handset r a).watch = [])
    (h : ∀ d, .handset r d ∉ ((s.call n).without (.handset r a)).alerted) (hc : (s.call n).channelOn r = some c)
    (hq : s.seekQueue r = []) :
    Does b (·.memberGone n r a) s
      (((s.setHandset r a { s.handset r a with engaged := none }).setChannel r c none).setCall n
        { (s.call n).without (.handset r a) with reservations := (s.call n).reservations.erase (r, c) }) [] := by
  have hmem : (r, c) ∈ ((s.leaving n r a).call n).reservations := by rw [leaving_call]; exact channelOn_mem hc
  have hback := does_handBack_nil (b := b) (s := s.leaving n r a) hmem hq
  rw [leaving_call] at hback
  have hstate : ((s.leaving n r a).setChannel r c none).setCall n
      { (s.call n).without (.handset r a) with reservations := (s.call n).reservations.erase (r, c) } =
      ((s.setHandset r a { s.handset r a with engaged := none }).setChannel r c none).setCall n
        { (s.call n).without (.handset r a) with reservations := (s.call n).reservations.erase (r, c) } :=
    setCall_setCall ((s.setHandset r a { s.handset r a with engaged := none }).setChannel r c none) n _ _
  rw [← hstate]
  exact does_memberGone (does_disengage_member he hw) (does_handBackUnrung_back (by rw [leaving_call]; exact h)
    (by rw [leaving_call]; exact hc) hback)

theorem leaving_checks {w : CallNo} {x : Resolved} {ts : List (Fin 8 × Fin 63)} (hw : w ≠ n) (h : s.Checks w x ts) :
    (s.leaving n r a).call w = s.call w ∧ (s.leaving n r a).Checks w x ts := by
  have hcall : (s.leaving n r a).call w = s.call w := setCall_call_ne _ _ hw
  refine ⟨hcall, ⟨?_, ?_, h.targets, ?_, ?_⟩⟩ <;> rw [hcall]
  · exact h.active
  · exact h.resolved
  · exact h.alerted
  · exact h.reservations

/-- No other handset of its riser rings, and the call at the head of the seek queue there rings its flat. -/
theorem does_memberGone_grants {c : Fin 4} {w : CallNo} {rest : List CallNo} {x : Resolved} {d : Fin 63}
    (he : (s.handset r a).engaged = some n) (hwatch : (s.handset r a).watch = [])
    (h : ∀ d, .handset r d ∉ ((s.call n).without (.handset r a)).alerted) (hc : (s.call n).channelOn r = some c)
    (hq : s.seekQueue r = w :: rest) (hw : w ≠ n) (hkind : (s.call w).kind ≠ some .resident) (hx : s.Checks w x [(r, d)])
    (hd : (s.handset r d).Eligible) :
    Does b (·.memberGone n r a) s
      { (((s.setHandset r a { s.handset r a with engaged := none }).setHandset r d
            { s.handset r d with engaged := some w }).setChannel r c (some w)) with
        seekQueues := s.seekQueues.set r rest
        calls := (s.calls.set n { (s.call n).without (.handset r a) with
          reservations := (s.call n).reservations.erase (r, c) }).set w
            ((s.call w).ringing s.params x.alertTime [(r, d)] [(r, c)]) }
      ((s.call w).ringingOut s.params [(r, d)]) := by
  have hne : d ≠ a := fun e => by
    subst e
    exact absurd (he.symm.trans hd.2.1) nofun
  obtain ⟨hcall, hx'⟩ := leaving_checks (r := r) (a := a) hw hx
  have hhandset : (s.leaving n r a).handset r d = s.handset r d := (setHandset_handset ..).trans (if_neg fun e => hne e.2)
  have hmem : (r, c) ∈ ((s.leaving n r a).call n).reservations := by rw [leaving_call]; exact channelOn_mem hc
  have hback := does_handBack_next (b := b) (s := s.leaving n r a) (rest := rest) hmem hq hw (by rw [hcall]; exact hkind) hx'
    (by rw [hhandset]; exact hd)
  rw [leaving_call, hcall, hhandset] at hback
  have hcalls : (s.leaving n r a).calls.set n
      { (s.call n).without (.handset r a) with
        reservations := ((s.call n).without (.handset r a)).reservations.erase (r, c) } =
      s.calls.set n { (s.call n).without (.handset r a) with reservations := (s.call n).reservations.erase (r, c) } :=
    Vector.set_set ..
  rw [hcalls] at hback
  have hgone := does_memberGone (does_disengage_member he hwatch) (does_handBackUnrung_back (by rw [leaving_call]; exact h)
    (by rw [leaving_call]; exact hc) hback)
  exact hgone

/-- Another handset of its riser rings on, and the member that leaves wakes the call at the head of its watch list. -/
theorem does_memberGone_wakes {c : Fin 4} {w : CallNo} {rest : List CallNo} {x : Resolved} {d : Fin 63}
    (he : (s.handset r a).engaged = some n) (hwatch : (s.handset r a).watch = w :: rest)
    (hstate : (s.call n).state = .alerting) (hd : .handset r d ∈ ((s.call n).without (.handset r a)).alerted) (hw : w ≠ n)
    (hx : s.Checks w x [(r, a)]) (hpresent : (s.handset r a).present = true) (hquiet : (s.handset r a).quiet = false)
    (hc : s.FirstFree r c) :
    Does b (·.memberGone n r a) s
      { ((s.setHandset r a { s.handset r a with engaged := some w, watch := rest }).setChannel r c (some w)) with
        calls := (s.calls.set n ((s.call n).without (.handset r a))).set w
          ((s.call w).ringing s.params x.alertTime [(r, a)] [(r, c)]) }
      ((s.call w).ringingOut s.params [(r, a)]) := by
  obtain ⟨hcall, hx'⟩ := leaving_checks (r := r) (a := a) hw hx
  have hhandset : (s.leaving n r a).handset r a = { s.handset r a with engaged := none } := setHandset_handset_self ..
  have hwakes := does_wakeHead_rings b (s := s.leaving n r a) (by rw [hhandset]; exact hwatch) hx'
    (by rw [hhandset]; exact ⟨hpresent, rfl, hquiet⟩) hc
  have hstate' : (s.leaving n r a).wakesTo w r c a x.alertTime rest =
      { ((s.setHandset r a { s.handset r a with engaged := some w, watch := rest }).setChannel r c (some w)) with
        calls := (s.calls.set n ((s.call n).without (.handset r a))).set w
          ((s.call w).ringing s.params x.alertTime [(r, a)] [(r, c)]) } := by
    have hset : (s.setHandset r a { s.handset r a with engaged := none }).setHandset r a
        { s.handset r a with engaged := some w, watch := rest } =
        s.setHandset r a { s.handset r a with engaged := some w, watch := rest } := setHandset_setHandset ..
    rw [State.wakesTo, hcall, hhandset, ← hset]
    rfl
  have hengaged : Does b (·.disengage n (.handset r a)) (s.setCall n ((s.call n).without (.handset r a)))
      ((s.leaving n r a).wakesTo w r c a x.alertTime rest) ((s.call w).ringingOut s.params [(r, a)]) := by
    rw [hcall] at hwakes
    exact hwakes.via fun L => if_pos he
  have hrecord : ((s.leaving n r a).wakesTo w r c a x.alertTime rest).call n = (s.call n).without (.handset r a) := by
    show (State.setCall _ w _).call n = _
    rw [setCall_call_ne _ _ (Ne.symm hw)]
    exact leaving_call ..
  have h := does_memberGone hengaged (does_handBackUnrung_rings (by rw [hrecord]; exact hstate) (by rw [hrecord]; exact hd))
  rw [hstate', List.append_nil] at h
  exact h

end

/-! ### The last member (R14, R20, R82) -/

theorem onCalls_handBackUnrung (s : State) (n : CallNo) (r : Fin 8) : OnCalls s (s.handBackUnrung n r) := by
  unfold State.handBackUnrung
  split
  · exact (EventWorks.onCalls (.refl s))
  · split
    · exact (eventWorks_handBack s _ trivial).onCalls
    · exact (EventWorks.onCalls (.refl s))

theorem onCalls_memberGone (s : State) (n : CallNo) (r : Fin 8) (a : Fin 63) : OnCalls s (s.memberGone n r a) :=
  (onCalls_setCall ..).trans ((eventWorks_disengage _ n (.handset r a)).onCalls.trans (onCalls_handBackUnrung ..))

theorem handBack_spared {s : State} {n : CallNo} {x : Fin 8 × Fin 4} (hs : s.StandsNowhere n) :
    (s.handBack n x).call n = { s.call n with reservations := (s.call n).reservations.erase x } := by
  by_cases hmem : x ∈ (s.call n).reservations
  · have hset : (s.setAside n x.1 x.2).call n = { s.call n with reservations := (s.call n).reservations.erase x } := by
      rw [setAside_of_mem hmem, setCall_call_self]
    have hnowhere : (s.setAside n x.1 x.2).StandsNowhere n := by rw [setAside_of_mem hmem]; exact hs
    have hfree : (s.setAside n x.1 x.2).channel x.1 x.2 = none := setAside_channel_free hmem
    have hstep : s.handBack n x = (s.setAside n x.1 x.2).free x.1 x.2 := if_pos hmem
    rw [hstep, ← hset]
    exact (Spares.spared ((fullSpares n).free _ _ _ hfree) hnowhere).1
  · rw [show s.handBack n x = s from if_neg hmem, List.erase_of_not_mem hmem]

/-- A member that leaves a call that stands nowhere leaves its record with fewer channels at most. -/
theorem memberGone_call {s : State} {n : CallNo} {r : Fin 8} {a : Fin 63} (hs : s.StandsNowhere n) :
    ∃ rs, (s.memberGone n r a).call n = { (s.call n).without (.handset r a) with reservations := rs } := by
  have hspares : Spares n (s.setCall n ((s.call n).without (.handset r a)))
      ((s.setCall n ((s.call n).without (.handset r a))).disengage n (.handset r a)) :=
    works_disengage (fullSpares n) _ n (.handset r a)
  obtain ⟨hcall, hnowhere⟩ := hspares.spared (s := s.setCall n _) hs
  rw [setCall_call_self] at hcall
  have heq : s.memberGone n r a =
      ((s.setCall n ((s.call n).without (.handset r a))).disengage n (.handset r a)).handBackUnrung n r := rfl
  rw [heq]
  generalize (s.setCall n ((s.call n).without (.handset r a))).disengage n (.handset r a) = t at hcall hnowhere
  unfold State.handBackUnrung
  split
  · exact ⟨_, hcall⟩
  · split
    next c _ =>
      refine ⟨(t.call n).reservations.erase (r, c), ?_⟩
      rw [handBack_spared hnowhere, hcall]
    next => exact ⟨_, hcall⟩

/-- The member gone while nobody waits. -/
def State.memberLost (s : State) (n : CallNo) (r : Fin 8) (a : Fin 63) : State :=
  let t := (s.setCall n ((s.call n).without (.handset r a))).lets n (.handset r a)
  match (s.call n).channelOn r with
  | some c => t.setAside n r c
  | none => t

section
variable {s : State} {n : CallNo} {r : Fin 8} {a : Fin 63}

theorem lets_without_frame (s : State) (n : CallNo) (r : Fin 8) (a : Fin 63) :
    PartiesFreed (s.setCall n ((s.call n).without (.handset r a)))
      ((s.setCall n ((s.call n).without (.handset r a))).lets n (.handset r a)) n [.handset r a] :=
  partiesFreed_one ..

theorem lets_without_call (s : State) (n : CallNo) (r : Fin 8) (a : Fin 63) :
    ((s.setCall n ((s.call n).without (.handset r a))).lets n (.handset r a)).call n = (s.call n).without (.handset r a) := by
  rw [(lets_without_frame s n r a).frame]
  exact setCall_call_self ..

theorem memberGone_of_noneWaits (hs : s.NoneWaits) (hlast : ((s.call n).without (.handset r a)).alerted = []) :
    s.memberGone n r a = s.memberLost n r a := by
  have hquiet : (s.setCall n ((s.call n).without (.handset r a))).NoneWaits := ⟨hs.seek, hs.desk, hs.watch⟩
  have hcall := lets_without_call s n r a
  have hquiet' := (lets_without_frame s n r a).noneWaits hquiet
  have hgone : s.memberGone n r a =
      ((s.setCall n ((s.call n).without (.handset r a))).lets n (.handset r a)).handBackUnrung n r := by
    rw [← disengage_of_noneWaits plain_full hquiet]; rfl
  rw [hgone, State.memberLost]
  generalize (s.setCall n ((s.call n).without (.handset r a))).lets n (.handset r a) = t at hcall hquiet' ⊢
  have hsilent : ¬ (t.call n).ringsOn r = true :=
    Bool.eq_false_iff.mp (ringsOn_of_not_mem fun d hd => by rw [hcall, hlast] at hd; exact nomatch hd)
  have hchannel : (t.call n).channelOn r = (s.call n).channelOn r := by rw [hcall]; rfl
  rw [State.handBackUnrung, if_neg hsilent, hchannel]
  cases (s.call n).channelOn r with
  | none => rfl
  | some c => exact handBack_of_nil plain_full (x := (r, c)) (hquiet'.seek r)

theorem memberLost_relinked (s : State) (L : Vector LinkUnit 13) (n : CallNo) (r : Fin 8) (a : Fin 63) :
    (s.relinked L).memberLost n r a = (s.memberLost n r a).relinked L := by
  have hlets : ((s.relinked L).setCall n ((s.call n).without (.handset r a))).lets n (.handset r a) =
      ((s.setCall n ((s.call n).without (.handset r a))).lets n (.handset r a)).relinked L :=
    lets_relinked (s.setCall n _) L n _
  unfold State.memberLost
  show (match (s.call n).channelOn r with
    | some c => State.setAside (((s.relinked L).setCall n ((s.call n).without (.handset r a))).lets n (.handset r a)) n r c
    | none => ((s.relinked L).setCall n ((s.call n).without (.handset r a))).lets n (.handset r a)) = _
  rw [hlets]
  generalize (s.setCall n ((s.call n).without (.handset r a))).lets n (.handset r a) = t
  cases (s.call n).channelOn r with
  | none => rfl
  | some c => exact setAside_relinked ..

/-- What a lost member leaves: its record without it, one channel less where its riser had one. -/
theorem memberLost_eq (s : State) (n : CallNo) (r : Fin 8) (a : Fin 63) :
    ∃ rs cs, s.memberLost n r a =
        ({ (s.setCall n ((s.call n).without (.handset r a))).lets n (.handset r a) with channels := cs } : State).setCall n
          { (s.call n).without (.handset r a) with reservations := rs } ∧
      ∀ r' c', (if (r', c') ∈ rs then none else State.channel { s with channels := cs } r' c') =
        if (r', c') ∈ (s.call n).reservations then none else s.channel r' c' := by
  have hcall := lets_without_call s n r a
  have hframe := (lets_without_frame s n r a).frame
  unfold State.memberLost
  generalize (s.setCall n ((s.call n).without (.handset r a))).lets n (.handset r a) = t at hcall hframe ⊢
  have hchannel : ∀ r' c', t.channel r' c' = s.channel r' c' := fun r' c' => by rw [hframe]; rfl
  have hself : t.setCall n ((s.call n).without (.handset r a)) = t := by rw [← hcall, setCall_call_eq]
  cases hc : (s.call n).channelOn r with
  | none => exact ⟨(s.call n).reservations, t.channels, hself.symm, fun r' c' => by rw [← hchannel]; rfl⟩
  | some c =>
    have hmem : (r, c) ∈ (t.call n).reservations := by rw [hcall]; exact channelOn_mem hc
    refine ⟨(s.call n).reservations.erase (r, c), (t.setChannel r c none).channels, ?_, fun r' c' => ?_⟩
    · show t.setAside n r c = _
      rw [setAside_of_mem hmem, hcall]
      rfl
    · show (if _ then none else (t.setChannel r c none).channel r' c') = _
      rw [setChannel_channel, hchannel]
      by_cases he : r' = r ∧ c' = c
      · obtain ⟨rfl, rfl⟩ := he
        rw [if_pos (And.intro rfl rfl : r' = r' ∧ c' = c'), if_pos (channelOn_mem hc)]
        exact ite_self _
      · have hmem' : (r', c') ∈ (s.call n).reservations.erase (r, c) ↔ (r', c') ∈ (s.call n).reservations :=
          List.mem_erase_of_ne fun e => he (Prod.mk.inj e)
        simp only [if_neg he, hmem']

end

theorem without_last {c : CallRecord} {x : Party} (h : (c.without x).alerted = []) : c.without x = { c with alerted := [] } := by
  have h' : c.alerted.filter (· ≠ x) = [] := h
  rw [CallRecord.without, h']

theorem mem_parties_without {c : CallRecord} {x y : Party} (h : (c.without x).alerted = []) (hx : x ∈ c.alerted) :
    y ∈ c.parties ↔ y ∈ [x] ∨ y ∈ (c.without x).parties := by
  have hall : ∀ z ∈ c.alerted, z = x := fun z hz =>
    Decidable.byContradiction fun e => List.filter_eq_nil_iff.mp h z hz (decide_eq_true e)
  rw [without_last h, mem_parties_alerted, List.mem_singleton]
  exact or_congr_left ⟨hall y, fun e => e ▸ hx⟩

theorem givenUp_of_memberLost {s t : State} {n : CallNo} {r : Fin 8} {a : Fin 63} {cause : Cause}
    (hlast : ((s.call n).without (.handset r a)).alerted = []) (hx : .handset r a ∈ (s.call n).alerted)
    (h : GivenUp (s.memberLost n r a) t n cause) : GivenUp s t n cause := by
  obtain ⟨rs, cs, heq, hchannels⟩ := memberLost_eq s n r a
  have hfreed := lets_without_frame s n r a
  rw [heq] at h
  generalize (s.setCall n ((s.call n).without (.handset r a))).lets n (.handset r a) = y at hfreed h
  have hcall : State.call (({ y with channels := cs } : State).setCall n { (s.call n).without (.handset r a) with reservations := rs })
      n = { (s.call n).without (.handset r a) with reservations := rs } := setCall_call_self ..
  obtain ⟨hframe, hstations, hhandsets, hpositions, horder, hidle⟩ := hfreed
  refine h.of_freed (xs := [.handset r a]) ?_ (by rw [hcall]; rfl) (fun m hm => ?_) (fun r' c' => ?_) fun x => ?_
  · exact ⟨congrArg (fun z => ({ z with calls := s.calls, channels := s.channels } : State)) hframe, hstations, hhandsets,
      hpositions, horder, hidle⟩
  · rw [setCall_call_ne _ _ hm]
    have hcalls : y.calls = (s.setCall n ((s.call n).without (.handset r a))).calls := by rw [hframe]
    show y.call m = _
    rw [show y.call m = (s.setCall n ((s.call n).without (.handset r a))).call m from congrArg (·[m]) hcalls]
    exact setCall_call_ne _ _ hm
  · rw [hcall]
    exact hchannels r' c'
  · rw [hcall]
    exact mem_parties_without hlast hx

/-- The last member of a call that stands nowhere. -/
theorem letsGo_member {z : State} {n : CallNo} {r : Fin 8} {a : Fin 63} (cause : Cause) (hnowhere : z.StandsNowhere n)
    (hlast : ((z.call n).without (.handset r a)).alerted = []) (hx : .handset r a ∈ (z.call n).alerted) :
    LetsGo z (·.memberGone n r a) n cause (CallRecord.clearingOut { z.call n with alerted := [] } cause)
      (z.WaitsAlone n ∧ z.StandsNowhere n) where
  onCalls x := onCalls_memberGone ..
  fate x hx := by
    obtain ⟨rs, hcall⟩ := memberGone_call (s := x) (n := n) (r := r) (a := a) (by rw [hx]; exact hnowhere)
    rw [State.Fated, hcall]
    exact ⟨rfl, rfl, rfl, rfl, .rfl⟩
  comes := by
    rintro ⟨halone, -⟩
    have hquiet := noneWaits_of halone hnowhere
    obtain ⟨rs, cs, heq, -⟩ := memberLost_eq z n r a
    have hfreed := lets_without_frame z n r a
    have hquiet' := hfreed.noneWaits (s := z.setCall n _) ⟨hquiet.seek, hquiet.desk, hquiet.watch⟩
    have hgiven : ∀ t, GivenUp (z.memberLost n r a) t n cause → GivenUp z t n cause := fun t => givenUp_of_memberLost hlast hx
    refine ⟨z.memberLost n r a, fun L => ?_, ?_, ?_, ?_, hgiven⟩
    · rw [← memberLost_relinked]
      exact memberGone_of_noneWaits (s := z.relinked L) ⟨hquiet.seek, hquiet.desk, hquiet.watch⟩ hlast
    · rw [heq]
      refine waitsAlone_of_noneWaits ⟨hquiet'.seek, hquiet'.desk, hquiet'.watch⟩ n ?_
      show State.mode (State.lets n _ _) ≠ .draining
      rw [hfreed.frame]; exact halone.2.2.2
    · rw [heq, setCall_call_self, without_last hlast]
      rfl
    · rw [heq]
      show State.attention (State.lets n _ _) = _
      rw [hfreed.frame]; rfl

theorem Ends.congr {z : State} {g g' : State → State} {n : CallNo} {cause : Cause} {raised : Octet}
    {xs : List (LinkId × Message)} {Alone : Prop} (h : Ends z g n cause raised xs Alone) (hg : ∀ x, z.Beside x → g' x = g x) :
    Ends z g' n cause raised xs Alone where
  onCalls x hx := by rw [hg x hx]; exact h.onCalls x hx
  cleared x hx := by rw [hg x hx]; exact h.cleared x hx
  gives halone b := by
    obtain ⟨u, hdoes, hrest⟩ := h.gives halone b
    exact ⟨u, fun L pre hL hroom =>
      (hg ((z.relinked L).sent pre) (beside_relinked z (sentLinks L pre))).trans (hdoes L pre hL hroom), hrest⟩

theorem forwards_of_not_mayForward {c : CallRecord} {cause : Cause} (h : ¬ c.MayForward) : c.forwards cause = false :=
  Bool.eq_false_iff.mpr fun e => h ((forwards_iff _ _).mp e).1

theorem memberLeaves_last {x : State} {n : CallNo} {r : Fin 8} {a : Fin 63} {stop : Option StopReason} {cause : Cause}
    (hnowhere : x.StandsNowhere n) (hlast : ((x.call n).without (.handset r a)).alerted = []) :
    x.memberLeaves n r a stop cause = ((x.putAll (stopOf r a stop)).memberGone n r a).outcome n cause := by
  obtain ⟨rs, hcall⟩ := memberGone_call (s := x.putAll (stopOf r a stop)) (n := n) (r := r) (a := a)
    (by rw [putAll_frame]; exact hnowhere)
  rw [memberLeaves_putAll, hcall, putAll_call]
  exact if_pos hlast

/-- The last member of a call with no fallback left ends it. -/
theorem ends_member {z : State} {n : CallNo} {r : Fin 8} {a : Fin 63} (stop : Option StopReason) {cause : Cause}
    (hnowhere : z.StandsNowhere n) (hlast : ((z.call n).without (.handset r a)).alerted = [])
    (hx : .handset r a ∈ (z.call n).alerted) (hactive : (z.call n).state ≠ .idle) (hmay : ¬ (z.call n).MayForward)
    (hcause : cause ≠ .congestion) :
    Ends z (·.memberLeaves n r a stop cause) n cause 0x00#8
      (stopOf r a stop ++ CallRecord.clearingOut { z.call n with alerted := [] } cause)
      (z.WaitsAlone n ∧ z.StandsNowhere n) :=
  ((letsGo_member cause hnowhere hlast hx).ends (stopOf r a stop) hactive (forwards_of_not_mayForward hmay) hcause).congr
    fun x hb => memberLeaves_last (by rw [hb]; exact hnowhere) (by rw [hb.call]; exact hlast)

end Sys2Proof.Machine
end

section
/-!
PROOF. The requests of talkers: ANSWER of no member, QUIET, EXTEND and a HANGUP that declines (O38).
-/

namespace Sys2Proof.Machine

/-! ### ANSWER, QUIET and EXTEND (R17, R63, R103) -/

theorem answers_no_member {s : State} {x : Party} (h : ∀ n, s.roleOf x = some (n, .alerted) → (s.call n).state ≠ .alerting) :
    s.answers x = s.put x.link (clearMsg x.addr .normal) := by
  unfold State.answers
  split
  next n hrole => exact if_neg (h n hrole)
  next => rfl

theorem extends_granted {s : State} {x : Party} {n : CallNo} (h : s.roleOf x = some (n, .answerer))
    (hstate : (s.call n).state = .talking) (hfirst : (s.call n).extended = false) :
    s.extends x =
      (s.setCall n { s.call n with
        talk := some ⟨(s.params.talkLimit * 60 : Nat), 8000⟩, extended := true, graceBound := none }).put x.link
          (replyMsg x.addr .accepted) := by
  have hcall : s.extendCall x = some n := by
    rw [State.extendCall, h]
    exact if_pos ⟨hstate, hfirst⟩
  rw [State.extends, hcall]
  rfl

theorem extends_refused {s : State} {x : Party}
    (h : ∀ n, s.roleOf x = some (n, .answerer) → (s.call n).state ≠ .talking ∨ (s.call n).extended = true) :
    s.extends x = s.put x.link (replyMsg x.addr .refused) := by
  have hcall : s.extendCall x = none := by
    unfold State.extendCall
    split
    next n hrole =>
      refine if_neg fun e => ?_
      obtain hstate | htwice := h n hrole
      · exact hstate e.1
      · exact absurd (htwice.symm.trans e.2) nofun
    next => rfl
  rw [State.extends, hcall]
  rfl

/-! ### HANGUP of an alerted handset (R20) -/

section
variable {s : State} {r : Fin 8} {a : Fin 63} {n : CallNo}

theorem hangup_declines (hrole : s.roleOf (.handset r a) = some (n, .alerted)) :
    s.hangupHandset r a = s.memberLeaves n r a (some .declined) .declined := by
  rw [State.hangupHandset, hrole]

theorem roleOf_alerted_mem (hrole : s.roleOf (.handset r a) = some (n, .alerted)) :
    (s.handset r a).engaged = some n ∧ .handset r a ∈ (s.call n).alerted := by
  obtain ⟨he, hr⟩ := roleOf_eq_some hrole
  refine ⟨he, Decidable.byContradiction fun hno => ?_⟩
  rw [CallRecord.role, if_neg hno] at hr
  split_ifs at hr <;> simp at hr

/-- A decline by a member that is not the last one. -/
theorem decline_answers {u : State} {out : List (LinkId × Message)} (hheard : s.Heard (.handset r a))
    (hrole : s.roleOf (.handset r a) = some (n, .alerted))
    (hdel : s.deliverable (.riser r) (bareMsg (BitVec.ofNat 8 a.val) 0x13#8) = true)
    (hdoes : Does s (·.memberGone n r a) s u out) (hleft : (u.call n).alerted ≠ []) (hu : u.maskedPending = s.maskedPending) :
    Answers (.hangup (.handset r a)) s u (s.taking (.riser r) (bareMsg (BitVec.ofNat 8 a.val) 0x13#8))
      ((.riser r, ringStopMsg (BitVec.ofNat 8 a.val) .declined) :: out) :=
  (runs_hangup_handset hheard hdel).answers_quiet (fun hr L hL =>
    (hangup_declines (s := s.relinked L) hrole).trans
      ((does_memberLeaves (some .declined) .declined hdoes hleft).apply hr L hL)) hu

theorem decline_last (hheard : s.Heard (.handset r a)) (hrole : s.roleOf (.handset r a) = some (n, .alerted))
    (hstate : (s.call n).state = .alerting)
    (hdel : s.deliverable (.riser r) (bareMsg (BitVec.ofNat 8 a.val) 0x13#8) = true)
    (hlast : ((s.call n).without (.handset r a)).alerted = []) (hnowhere : s.StandsNowhere n) (hmay : ¬ (s.call n).MayForward) :
    let out := s.reached ((.riser r, ringStopMsg (BitVec.ofNat 8 a.val) .declined) ::
      CallRecord.clearingOut { s.call n with alerted := [] } .declined)
    ∃ t, exec (.hangup (.handset r a)) s = .next t ∧ ClearedWith s t n .declined ∧ KeepsToCalls s t none ∧
      (s.WaitsAlone n → s.Room out →
        GivenUp s t n .declined ∧ t.attention = s.attention ∧
          DeliversAndSends s t (.riser r) (bareMsg (BitVec.ofNat 8 a.val) 0x13#8) out) := by
  have he := ends_member (some .declined) (cause := .declined) hnowhere hlast (roleOf_alerted_mem hrole).2
    (by rw [hstate]; exact nofun) hmay nofun
  obtain ⟨t, L, hexec, hcleared, hleaves, hgives⟩ := (runs_hangup_handset hheard hdel).ends (notice := []) rfl he
    (fun L _ => hangup_declines (s := s.relinked L) hrole) (by rw [BitVec.or_zero]; exact noticeOf_self s)
  refine ⟨t, hexec, hcleared, hleaves.keeps, fun halone hroom => ?_⟩
  rw [List.append_nil, List.append_nil, BitVec.or_zero] at hgives
  exact hgives ⟨halone, hnowhere⟩ hroom

end

theorem setCall_twice_call (s : State) {n w : CallNo} (hw : w ≠ n) (c d : CallRecord) :
    ((s.setCall n c).setCall w d).call n = c := by
  rw [setCall_call_ne _ _ (Ne.symm hw), setCall_call_self]

/-- Settles O38: each request by the role of its sender, and a decline by what the member that leaves gives back. -/
theorem talkerRequestsAreAnswered : Obligations.TalkerRequestsAreAnswered := by
  refine ⟨fun s y x hx hheard _ hno hdel hroom => ?_, fun s r a on hheard hdel hroom => ?_,
    fun s y x hx hheard _ hdel => ⟨fun n hrole hstate hfirst hroom => ?_, fun hno hroom => ?_⟩,
    fun s r a n hheard hrole hstate hdel => ?_⟩
  · obtain ⟨t, hexec, hframe, hlinks⟩ := (runs_talker (i := .answer y) (f := State.answers) rfl hx hheard rfl hdel).sends
      (fun L _ => answers_no_member (s := s.relinked L) hno) hroom
    exact ⟨t, hexec, hlinks, hframe⟩
  · obtain ⟨hpresent, hmisses⟩ := hheard
    have hdoes : Does s (fun t => (t.setQuiet r a on).put (.riser r) (replyMsg (BitVec.ofNat 8 a.val) .accepted)) s
        (s.setHandset r a { s.handset r a with quiet := on }) [(.riser r, replyMsg (BitVec.ofNat 8 a.val) .accepted)] :=
      (does_put s (s.setHandset r a { s.handset r a with quiet := on }) (.riser r) _).via fun L => rfl
    obtain ⟨t, hexec, hframe, hlinks⟩ := (runs_handset (i := .quiet r a on) (r := r) (a := a)
      (f := fun x => (x.setQuiet r a on).sendReply (.handset r a) .accepted) rfl rfl hdel).answers_quiet
        (u := s.setHandset r a { s.handset r a with quiet := on })
        (fun hr L hL => (congrArg (fun x => (State.setQuiet x r a on).sendReply (.handset r a) .accepted)
          (notePresence_of_heard (s := s.relinked L) ⟨hpresent, hmisses⟩)).trans (hdoes.apply hr L hL)) rfl hroom
    exact ⟨t, hexec, hlinks, hframe⟩
  · let z := s.setCall n { s.call n with
      talk := some ⟨(s.params.talkLimit * 60 : Nat), 8000⟩, extended := true, graceBound := none }
    obtain ⟨t, hexec, hframe, hlinks⟩ := (runs_talker (i := .extend y) (f := State.extends) rfl hx hheard rfl hdel).answers_quiet
      (u := z) (fun hr L hL => (extends_granted (s := s.relinked L) hrole hstate hfirst).trans
        ((does_put s z x.link (replyMsg x.addr .accepted)).apply hr L hL)) rfl hroom
    exact ⟨t, hexec, hlinks, hframe⟩
  · obtain ⟨t, hexec, hframe, hlinks⟩ := (runs_talker (i := .extend y) (f := State.extends) rfl hx hheard rfl hdel).sends
      (fun L _ => extends_refused (s := s.relinked L) hno) hroom
    exact ⟨t, hexec, hlinks, hframe⟩
  · obtain ⟨he, hx⟩ := roleOf_alerted_mem hrole
    intro stop left freed
    refine ⟨fun hwatch hroom => ⟨fun hsome => ?_, fun c hleft hno hc hq => ?_⟩, ?_, fun hlast hnowhere hmay =>
      decline_last hheard hrole hstate hdel hlast hnowhere hmay⟩
    · obtain ⟨b, hb⟩ := hsome
      obtain ⟨t, hexec, hframe, hlinks⟩ := decline_answers hheard hrole hdel
        (does_memberGone_rings he hwatch hstate (d := b) hb) (by rw [leaving_call]; exact List.ne_nil_of_mem hb) rfl hroom
      exact ⟨t, hexec, hlinks, hframe⟩
    · obtain ⟨t, hexec, hframe, hlinks⟩ := decline_answers hheard hrole hdel
        (does_memberGone_frees he hwatch hno hc hq) (by rw [setCall_call_self]; exact hleft) rfl hroom
      exact ⟨t, hexec, hlinks, hframe⟩
    · intro b c w rest x hw hx hts halerted hres hpresent hquiet base out rung
      have hcheck : (s.call w).state ≠ .idle → s.Checks w x [(r, b)] := fun h => ⟨h, hx, hts, halerted, hres⟩
      refine ⟨fun hsome hba hwatch hcamped hfirst => ?_, fun hleft hno hc hwatch hq hseeking hkind hfree => ?_⟩
      · subst hba
        obtain ⟨d, hd⟩ := hsome
        refine decline_answers hheard hrole hdel (does_memberGone_wakes he hwatch hstate (d := d) hd hw
          (hcheck (by rw [hcamped]; exact nofun)) hpresent hquiet hfirst) (fun e => ?_) rfl
        exact List.ne_nil_of_mem hd ((congrArg CallRecord.alerted (setCall_twice_call s hw _ _)).symm.trans e)
      · refine decline_answers hheard hrole hdel (does_memberGone_grants he hwatch hno hc hq hw hkind
          (hcheck (by rw [hseeking]; exact nofun)) ⟨hpresent, hfree, hquiet⟩) (fun e => ?_) rfl
        exact hleft ((congrArg CallRecord.alerted (setCall_twice_call s hw _ _)).symm.trans e)

end Sys2Proof.Machine
end

section
/-!
PROOF. HELLO and what it reconciles (O36): Table 3-2.
-/

namespace Sys2Proof.Machine

/-! ### Reconciliation by report and role (Table 3-2) -/

theorem connectParty_handset {s : State} {n : CallNo} {r : Fin 8} {a : Fin 63} {c : Fin 4}
    (h : (s.call n).channelOn r = some c) :
    s.connectParty n (.handset r a) = s.put (.riser r) (connectMsg (BitVec.ofNat 8 a.val) c.val) := by
  have hof : (s.call n).channelOf (.handset r a) = some (.riser r, c.val) := congrArg (Option.map _) h
  rw [State.connectParty, hof]
  rfl

section
variable {s : State} {r : Fin 8} {a : Fin 63}

theorem reconcile_of_none (report : HandsetReport) (hrole : s.roleOf (.handset r a) = none) :
    s.reconcile r a report =
      if report = .idle then s else s.put (.riser r) (clearMsg (BitVec.ofNat 8 a.val) .normal) := by
  unfold State.reconcile
  rw [hrole]
  cases report <;> rfl

theorem reconcile_of_alerted {n : CallNo} (report : HandsetReport) (hrole : s.roleOf (.handset r a) = some (n, .alerted)) :
    s.reconcile r a report = if report = .idle then s.sendRing n (r, a) else s := by
  unfold State.reconcile
  rw [hrole]
  cases report <;> rfl

theorem reconcile_of_answerer {n : CallNo} (report : HandsetReport) (hrole : s.roleOf (.handset r a) = some (n, .answerer)) :
    s.reconcile r a report =
      match report with
      | .idle => s.hangupHandset r a
      | .ringing => s.connectParty n (.handset r a)
      | .talking => s := by
  unfold State.reconcile
  rw [hrole]
  cases report <;> rfl

theorem reconcile_of_origin {n : CallNo} (report : HandsetReport) (hrole : s.roleOf (.handset r a) = some (n, .origin)) :
    s.reconcile r a report =
      match report with
      | .idle => s.hangupHandset r a
      | .ringing => if (s.call n).state = .talking then s.connectParty n (.handset r a) else s
      | .talking => s := by
  unfold State.reconcile
  rw [hrole]
  cases report <;> rfl

theorem reconcile_of_joined {n : CallNo} (report : HandsetReport) (hrole : s.roleOf (.handset r a) = some (n, .joined)) :
    s.reconcile r a report = s := by
  unfold State.reconcile
  rw [hrole]
  cases report <;> rfl

end

/-! ### HELLO as a work -/

/-- Handset `a` has been heard and its quiet flag written (R60, R62). -/
def State.noting (s : State) (r : Fin 8) (a : Fin 63) (quiet : Bool) : State :=
  { (s.setHandset r a { s.handset r a with quiet := quiet, misses := 0, present := true }) with
    attention := if (s.handset r a).present then s.attention else s.attention ||| 0x02#8 }

theorem setQuiet_notePresence (s : State) (r : Fin 8) (a : Fin 63) (quiet : Bool) :
    (s.notePresence r a).setQuiet r a quiet = s.noting r a quiet := by
  have hset : ∀ h : Handset, (s.setHandset r a h).setQuiet r a quiet = s.setHandset r a { h with quiet := quiet } := fun h => by
    rw [State.setQuiet, setHandset_handset_self, setHandset_setHandset]
  unfold State.notePresence State.noting
  by_cases hp : (s.handset r a).present = true
  · rw [if_pos hp, if_pos hp, hset]
    rfl
  · rw [if_neg hp, if_neg hp]
    exact congrArg (fun t => State.raise t .party) (hset { s.handset r a with present := true, misses := 0 })

theorem runs_hello {s : State} {r : Fin 8} {a : Fin 63} {report : HandsetReport} {quiet : Bool}
    (hdel : s.deliverable (.riser r) ⟨BitVec.ofNat 8 a.val, 0x11#8, [report.code, flagOctet quiet]⟩ = true) :
    Runs (.hello r a report quiet) s (fun t => (t.noting r a quiet).reconcile r a report)
      (s.taking (.riser r) ⟨BitVec.ofNat 8 a.val, 0x11#8, [report.code, flagOctet quiet]⟩) [] :=
  (runs_handset (i := .hello r a report quiet) (f := fun x => (x.setQuiet r a quiet).reconcile r a report) rfl rfl hdel).congr
    fun L _ => congrArg (State.reconcile · r a report) (setQuiet_notePresence (s.relinked L) r a quiet)

theorem noticeOf_noting (s : State) (r : Fin 8) (a : Fin 63) (quiet : Bool) :
    noticeOf s (s.noting r a quiet) = if (s.handset r a).present then [] else s.notice 0x02#8 := by
  by_cases hp : (s.handset r a).present = true
  · rw [if_pos hp]
    refine noticeOf_of_kept ?_
    rw [State.maskedPending, State.maskedPending, State.noting, if_pos hp]
    rfl
  · rw [if_neg hp]
    exact noticeOf_raised (if_neg hp) rfl

theorem noting_handset (s : State) (r : Fin 8) (a : Fin 63) (quiet : Bool) :
    (s.noting r a quiet).handset r a = { s.handset r a with quiet := quiet, misses := 0, present := true } :=
  setHandset_handset_self ..

theorem noting_engagedBy (s : State) (r : Fin 8) (a : Fin 63) (quiet : Bool) (x : Party) :
    (s.noting r a quiet).engagedBy x = s.engagedBy x := by
  cases x with
  | station p st => rfl
  | position q => rfl
  | handset r' a' =>
    show ((s.setHandset r a _).handset r' a').engaged = (s.handset r' a').engaged
    rw [setHandset_handset]
    split
    next h =>
      obtain ⟨rfl, rfl⟩ := h
      rfl
    next => rfl

theorem noting_roleOf (s : State) (r : Fin 8) (a : Fin 63) (quiet : Bool) (x : Party) :
    (s.noting r a quiet).roleOf x = s.roleOf x := by
  rw [State.roleOf, State.roleOf, noting_engagedBy]
  rfl

section
variable {s : State} {r : Fin 8} {a : Fin 63} {report : HandsetReport} {quiet : Bool}

/-- A HELLO that brings messages alone. -/
theorem hello_answers {out : List (LinkId × Message)}
    (hdel : s.deliverable (.riser r) ⟨BitVec.ofNat 8 a.val, 0x11#8, [report.code, flagOctet quiet]⟩ = true)
    (hf : ∀ L, ((s.noting r a quiet).relinked L).reconcile r a report = ((s.noting r a quiet).relinked L).putAll out) :
    Answers (.hello r a report quiet) s (s.noting r a quiet)
      (s.taking (.riser r) ⟨BitVec.ofNat 8 a.val, 0x11#8, [report.code, flagOctet quiet]⟩)
      (out ++ if (s.handset r a).present then [] else s.notice 0x02#8) := by
  have h := (runs_hello hdel).answers (u := s.noting r a quiet) (out := out)
    (fun hr L hL => (hf L).trans ((does_putAll_room s (s.noting r a quiet) out).apply hr L hL)) (noticeOf_noting s r a quiet)
  rwa [List.append_nil] at h

/-- The messages Table 3-2 asks for where no call clears. -/
theorem reconcile_puts {out : List (LinkId × Message)}
    (hout : match report, s.roleOf (.handset r a) with
      | .idle, none => out = []
      | .idle, some (n, .alerted) =>
        out = [(.riser r, ringHandsetMsg (BitVec.ofNat 8 a.val) (s.call n).ringEntrance
                  (BitVec.ofNat 8 ((s.call n).cadence s.params).val))]
      | .idle, some (_, _) => False
      | _, none => out = [(.riser r, clearMsg (BitVec.ofNat 8 a.val) .normal)]
      | _, some (_, .alerted) => out = []
      | .ringing, some (n, .answerer) =>
        ∃ c, (s.call n).channelOn r = some c ∧ out = [(.riser r, connectMsg (BitVec.ofNat 8 a.val) c.val)]
      | .ringing, some (n, .origin) =>
        ((s.call n).state = .talking ∧
          ∃ c, (s.call n).channelOn r = some c ∧ out = [(.riser r, connectMsg (BitVec.ofNat 8 a.val) c.val)]) ∨
        ((s.call n).state ≠ .talking ∧ out = [])
      | .ringing, some (_, .joined) => False
      | .talking, some (_, _) => out = []) :
    s.reconcile r a report = s.putAll out := by
  have hconnect : ∀ {n c}, (s.call n).channelOn r = some c →
      s.connectParty n (.handset r a) = s.putAll [(.riser r, connectMsg (BitVec.ofNat 8 a.val) c.val)] :=
    fun h => connectParty_handset h
  rcases hrole : s.roleOf (.handset r a) with _ | ⟨n, _ | _ | _ | _⟩
  · rw [reconcile_of_none report hrole]
    rw [hrole] at hout
    cases report <;> subst hout <;> rfl
  · rw [reconcile_of_origin report hrole]
    rw [hrole] at hout
    cases report with
    | idle => exact hout.elim
    | ringing =>
      obtain ⟨hstate, c, hc, rfl⟩ | ⟨hstate, rfl⟩ := hout
      · exact (if_pos hstate).trans (hconnect hc)
      · exact if_neg hstate
    | talking => subst hout; rfl
  · rw [reconcile_of_alerted report hrole]
    rw [hrole] at hout
    cases report <;> subst hout <;> rfl
  · rw [reconcile_of_answerer report hrole]
    rw [hrole] at hout
    cases report with
    | idle => exact hout.elim
    | ringing =>
      obtain ⟨c, hc, rfl⟩ := hout
      exact hconnect hc
    | talking => subst hout; rfl
  · rw [reconcile_of_joined report hrole]
    rw [hrole] at hout
    cases report with
    | idle => exact hout.elim
    | ringing => exact hout.elim
    | talking => subst hout; rfl

/-- An IDLE report from a party whose going clears its call. -/
theorem hello_clears {n : CallNo} {cause : Cause}
    (hdel : s.deliverable (.riser r) ⟨BitVec.ofNat 8 a.val, 0x11#8, [report.code, flagOctet quiet]⟩ = true)
    (hactive : (s.call n).state ≠ .idle)
    (hf : ∀ L, ((s.noting r a quiet).relinked L).reconcile r a report = ((s.noting r a quiet).relinked L).clear n cause) :
    ∃ t, exec (.hello r a report quiet) s = .next t ∧ ClearedWith s t n cause ∧
      KeepsToCalls s t (some (.handset r a)) ∧ (t.handset r a).quiet = quiet ∧ (t.handset r a).misses = 0 ∧
      (t.handset r a).present = true ∧ ((s.handset r a).present = false → t.attention.getLsbD 1 = true) ∧
      ClearsAlone (s.noting r a quiet) t n cause
        (s.taking (.riser r) ⟨BitVec.ofNat 8 a.val, 0x11#8, [report.code, flagOctet quiet]⟩)
        (if (s.handset r a).present then [] else s.notice 0x02#8) := by
  obtain ⟨t, L, hexec, hcleared, hleaves, halone⟩ := (runs_hello (report := report) hdel).clears (z := s.noting r a quiet) (n := n) (cause := cause)
    plain_full rfl hactive (fun L _ => hf L) (noticeOf_noting s r a quiet)
  have honCalls := onCalls_clearWith plain_full ((s.noting r a quiet).relinked L) n cause
  have hframe := hleaves.frame
  have hpending := hleaves.pending
  have hnoted := noting_handset s r a quiet
  obtain ⟨hkeeps, hlogged, hquiet, hlinks⟩ := hleaves.keeps
  generalize ((s.noting r a quiet).relinked L).clearWith .full n cause = x at honCalls hframe hpending
  refine ⟨t, hexec, hcleared, ⟨?_, hlogged, fun r' a' hne => ?_, hlinks⟩, ?_, ?_, ?_, fun habsent => ?_, ?_⟩
  · rw [hkeeps]; rfl
  · rw [hquiet r' a' nofun]
    show ((s.setHandset r a _).handset r' a').quiet = _
    rw [setHandset_handset, if_neg fun e => hne (by obtain ⟨rfl, rfl⟩ := e; rfl)]
  · rw [hquiet r a nofun, hnoted]
  · have hmisses : (t.handset r a).misses = (x.handset r a).misses := by rw [hframe]; rfl
    rw [hmisses, honCalls.misses]
    show ((s.noting r a quiet).handset r a).misses = 0
    rw [hnoted]
  · rw [hleaves.present, hnoted]
  · refine hpending 1 (honCalls.pending 1 ?_)
    show (if (s.handset r a).present then s.attention else s.attention ||| 0x02#8).getLsbD 1 = true
    rw [habsent]
    exact (BitVec.getLsbD_or ..).trans (by simp)
  · rw [List.append_nil] at halone
    exact halone

theorem hangup_of_origin {n : CallNo} (hrole : s.roleOf (.handset r a) = some (n, .origin)) :
    s.hangupHandset r a = s.clear n .callerHungup := by rw [State.hangupHandset, hrole]

theorem hangup_of_answerer {n : CallNo} (hrole : s.roleOf (.handset r a) = some (n, .answerer))
    (hjoined : (s.call n).joined = none) : s.hangupHandset r a = s.clear n .targetHungup := by
  rw [State.hangupHandset, hrole]
  dsimp only
  rw [hjoined]

end

/-- Settles O36: HELLO by its report and the role of its handset. -/
theorem helloReconciles : Obligations.HelloReconciles := by
  intro s r a report quiet m hdel news noted
  refine ⟨fun out hout hroom => ?_, fun n cause hreport hactive hrole => ?_, fun n p st c q hreport hrole hj ho hr hq hw hroom => ?_⟩
  · have hrole := noting_roleOf s r a quiet (.handset r a)
    obtain ⟨t, hexec, hframe, hlinks⟩ := hello_answers (out := out) hdel
      (fun L => reconcile_puts (s := (s.noting r a quiet).relinked L) (by
        rw [show ((s.noting r a quiet).relinked L).roleOf (.handset r a) = s.roleOf (.handset r a) from hrole]
        exact hout)) hroom
    exact ⟨t, hexec, hlinks, hframe⟩
  · subst hreport
    refine hello_clears hdel hactive fun L => ?_
    have hroleL : ((s.noting r a quiet).relinked L).roleOf (.handset r a) = s.roleOf (.handset r a) := noting_roleOf s r a quiet (.handset r a)
    obtain ⟨hrole, rfl⟩ | ⟨hrole, hj, rfl⟩ := hrole
    · rw [hrole] at hroleL
      exact (reconcile_of_origin .idle hroleL).trans (hangup_of_origin hroleL)
    · rw [hrole] at hroleL
      exact (reconcile_of_answerer .idle hroleL).trans (hangup_of_answerer hroleL hj)
  · subst hreport
    have hroleZ : (s.noting r a quiet).roleOf (.handset r a) = some (n, .answerer) := (noting_roleOf ..).trans hrole
    have hdoes := hangup_answerer_joined (s := s.noting r a quiet) ho hj hroleZ hr hq (by rw [noting_handset]; exact hw) s
    have h := (runs_hello (report := .idle) (quiet := quiet) hdel).answers (fun hroom L hL =>
      (reconcile_of_answerer .idle (s := (s.noting r a quiet).relinked L) hroleZ).trans (hdoes.apply hroom L hL))
      (noticeOf_noting s r a quiet)
    rw [List.append_nil] at h
    obtain ⟨t, hexec, hframe, hlinks⟩ := h hroom
    exact ⟨t, hexec, hlinks, handedOver_of hframe⟩

end Sys2Proof.Machine
end

section
/-!
PROOF. The end of a turn, and the handset that has missed three (O29).
-/

namespace Sys2Proof.Machine

/-! ### Turns that end -/

theorem timeoutTurn_of_turn {s : State} {r : Fin 8} {x : Turn} (h : s.turn r = some x) (hunanswered : x.answered = false)
    (hframes : 16 ≤ x.frames) : s.timeoutTurn r = s.turnUnanswered r x.addr := by
  have hout : x.timedOut = true := by
    rw [Turn.timedOut, hunanswered, Bool.and_eq_true_iff]
    exact ⟨rfl, decide_eq_true hframes⟩
  rw [State.timeoutTurn, h]
  exact if_pos hout

theorem timeoutTurn_early {s : State} {r : Fin 8} (h : ∀ x, s.turn r = some x → x.answered = true ∨ x.frames < 16) :
    s.timeoutTurn r = s := by
  unfold State.timeoutTurn
  split
  next x hx =>
    refine if_neg fun hout => ?_
    rw [Turn.timedOut, Bool.and_eq_true_iff, Bool.not_eq_true'] at hout
    obtain hanswered | hframes := h x hx
    · exact absurd (hanswered.symm.trans hout.1) nofun
    · exact absurd (of_decide_eq_true hout.2) (Nat.not_le.mpr hframes)
  next => rfl

theorem limitTurn_early {s : State} {r : Fin 8} (h : ∀ x, s.turn r = some x → x.answered = false ∨ x.frames < 80) :
    s.limitTurn r = s := by
  unfold State.limitTurn
  split
  next x hx =>
    refine if_neg fun hout => ?_
    rw [Turn.overrun, Bool.and_eq_true_iff] at hout
    obtain hanswered | hframes := h x hx
    · exact absurd (hanswered.symm.trans hout.1) nofun
    · exact absurd (of_decide_eq_true hout.2) (Nat.not_le.mpr hframes)
  next => rfl

theorem limitTurn_of_turn {s : State} {r : Fin 8} {x : Turn} (h : s.turn r = some x) (hanswered : x.answered = true)
    (hframes : 80 ≤ x.frames) : s.limitTurn r = s.turnCut r := by
  have hout : x.overrun = true := by
    rw [Turn.overrun, hanswered, Bool.and_eq_true_iff]
    exact ⟨rfl, decide_eq_true hframes⟩
  rw [State.limitTurn, h]
  exact if_pos hout

theorem event_of_quiet {s : State} {f : State → State} (h : (f s).maskedPending = s.maskedPending) : s.event f = f s :=
  settle_of_not_gains (by rw [h]; exact gains_self _)

theorem turnCut_eq (s : State) (r : Fin 8) :
    s.turnCut r =
      { s with
        schedulers := s.schedulers.set r { s.scheduler r with turn := none }
        links := s.links.set (LinkId.riser r).index
          { s.link (.riser r) with
            assembly := { stage := .hunting, body := [], escape := false }
            checkErrors := min ((s.link (.riser r)).checkErrors + 1) 65535 } } := by
  rw [State.turnCut, State.countCheckError, State.setAssembly, setLink_link_self, setLink_setLink]
  rfl

/-! ### A handset made ABSENT (R58, R59) -/

/-- Handset `a` has missed its third turn and is ABSENT. -/
def State.absent (s : State) (r : Fin 8) (a : Fin 63) : State :=
  { (s.setHandset r a { s.handset r a with misses := 3, present := false }) with
    schedulers := s.schedulers.set r { s.scheduler r with turn := none }
    attention := s.attention ||| 0x02#8 }

/-- What a handset made ABSENT does to its call (R59). -/
def State.leavesAbsent (s : State) (r : Fin 8) (a : Fin 63) : State :=
  match s.roleOf (.handset r a) with
  | some (n, .alerted) => s.memberLeaves n r a none .absent
  | _ => s.hangupHandset r a

section
variable {s : State} {r : Fin 8} {a : Fin 63}

theorem leavesAbsent_of_alerted {n : CallNo} (h : s.roleOf (.handset r a) = some (n, .alerted)) :
    s.leavesAbsent r a = s.memberLeaves n r a none .absent := by rw [State.leavesAbsent, h]

theorem leavesAbsent_of_other (h : ∀ n, s.roleOf (.handset r a) ≠ some (n, .alerted)) :
    s.leavesAbsent r a = s.hangupHandset r a := by
  unfold State.leavesAbsent
  split
  next n hn => exact absurd hn (h n)
  next => rfl

theorem turnUnanswered_misses (h : (s.handset r a).misses < 2 ∨ (s.handset r a).present = false) :
    s.turnUnanswered r a =
      { (s.setHandset r a { s.handset r a with misses := min ((s.handset r a).misses + 1) 3 }) with
        schedulers := s.schedulers.set r { s.scheduler r with turn := none } } := by
  refine if_neg ?_
  rintro ⟨hmisses, hpresent⟩
  have hmisses' : min ((s.handset r a).misses + 1) 3 = 3 := hmisses
  obtain hfew | habsent := h
  · omega
  · exact absurd (habsent.symm.trans hpresent) nofun

theorem turnUnanswered_absent (hmisses : (s.handset r a).misses = 2) (hpresent : (s.handset r a).present = true) :
    s.turnUnanswered r a =
      ((s.absent r a).leavesAbsent r a).wakeAll r a := by
  have hthird : min ((s.handset r a).misses + 1) 3 = 3 := by omega
  have habsent : ∀ z : State, (z.setHandset r a { s.handset r a with misses := 3 }).becomeAbsent r a =
      (((z.setHandset r a { s.handset r a with misses := 3, present := false }).raise .party).leavesAbsent r a).wakeAll r a := by
    intro z
    have hset : (z.setHandset r a { s.handset r a with misses := 3 }).setHandset r a
        { (z.setHandset r a { s.handset r a with misses := 3 }).handset r a with present := false } =
        z.setHandset r a { s.handset r a with misses := 3, present := false } := by
      rw [setHandset_handset_self, setHandset_setHandset]
    rw [State.becomeAbsent, hset]
    rfl
  have hmissed : s.turnUnanswered r a = ((s.setTurn r none).setHandset r a { s.handset r a with misses := 3 }).becomeAbsent r a := by
    refine (if_pos ⟨hthird, hpresent⟩).trans ?_
    show State.becomeAbsent ((s.setTurn r none).setHandset r a { s.handset r a with
      misses := min ((s.handset r a).misses + 1) 3 }) r a = _
    rw [hthird]
  rw [hmissed, habsent]
  rfl

theorem absent_handset : (s.absent r a).handset r a = { s.handset r a with misses := 3, present := false } :=
  setHandset_handset_self ..

theorem absent_roleOf (x : Party) : (s.absent r a).roleOf x = s.roleOf x := by
  have he : (s.absent r a).engagedBy x = s.engagedBy x := by
    cases x with
    | station p st => rfl
    | position q => rfl
    | handset r' a' =>
      show ((s.setHandset r a _).handset r' a').engaged = (s.handset r' a').engaged
      rw [setHandset_handset]
      split
      next h =>
        obtain ⟨rfl, rfl⟩ := h
        rfl
      next => rfl
  rw [State.roleOf, State.roleOf, he]
  rfl

theorem wakeAll_of_nil (h : (s.handset r a).watch = []) : s.wakeAll r a = s := by
  rw [State.wakeAll, h]; rfl

end

/-! ### What follows the absence (R59) -/

section
variable {s : State} {r : Fin 8} {a : Fin 63}

theorem runs_turnTimeout (s : State) (r : Fin 8) : Runs (.turnTimeout r) s (State.timeoutTurn r) s.link [] := runs_event rfl

/-- A third miss whose absence comes to the work `g`. -/
def State.AbsenceIs (s : State) (r : Fin 8) (a : Fin 63) (g : State → State) : Prop :=
  (s.handset r a).misses = 2 ∧ (s.handset r a).present = true ∧
    (∃ x, s.turn r = some x ∧ x.addr = a ∧ x.answered = false ∧ 16 ≤ x.frames) ∧
    ∀ L, ((s.absent r a).relinked L).leavesAbsent r a = g ((s.absent r a).relinked L)

theorem State.AbsenceIs.work {g : State → State} (h : s.AbsenceIs r a g) (L : Vector LinkUnit 13) :
    (s.relinked L).timeoutTurn r = (g ((s.absent r a).relinked L)).wakeAll r a := by
  obtain ⟨hmisses, hpresent, ⟨x, hx, rfl, hunanswered, hframes⟩, hg⟩ := h
  rw [timeoutTurn_of_turn (s := s.relinked L) hx hunanswered hframes,
    turnUnanswered_absent (s := s.relinked L) hmisses hpresent]
  exact congrArg (State.wakeAll · r x.addr) (hg L)

theorem noticeOf_absent (s : State) (r : Fin 8) (a : Fin 63) : noticeOf s (s.absent r a) = s.notice 0x02#8 := noticeOf_raised rfl rfl

/-- An absence told in closed form, where nobody watches for the handset. -/
theorem State.AbsenceIs.answers {g : State → State} {u : State} {out : List (LinkId × Message)} (h : s.AbsenceIs r a g)
    (hdoes : Does s g (s.absent r a) u out) (hwatch : (u.handset r a).watch = []) (hu : u.maskedPending = (s.absent r a).maskedPending) :
    Answers (.turnTimeout r) s u s.link (out ++ s.notice 0x02#8) := by
  have hnotice : noticeOf s u = s.notice 0x02#8 := by rw [← noticeOf_absent s r a, noticeOf, noticeOf, hu]
  have hanswers := (runs_turnTimeout s r).answers (u := u) (out := out) (fun hr L hL => by
    rw [h.work L, hdoes.apply hr L hL]
    exact wakeAll_of_nil hwatch) hnotice
  rwa [List.append_nil] at hanswers

/-- An absence that ends the call of the handset. -/
theorem State.AbsenceIs.clears {g : State → State} {n : CallNo} {cause : Cause} (h : s.AbsenceIs r a g)
    (honCalls : ∀ x, (s.absent r a).Beside x → OnCalls x (g x))
    (hcleared : ∀ x, (s.absent r a).Beside x → ClearedWith (s.absent r a) (g x) n cause) :
    ∃ t, exec (.turnTimeout r) s = .next t ∧ ClearedWith s t n cause ∧ KeepsToCalls (s.absent r a) t none ∧
      (t.handset r a).present = false ∧ t.attention.getLsbD 1 = true := by
  obtain ⟨L, t, -, hexec, hleaves⟩ := (runs_turnTimeout s r).leaves (z := s.absent r a) rfl fun L _ => by
    rw [h.work L]
    exact (honCalls _ (beside_relinked _ L)).trans (onCalls_wakeAll ..)
  have hg := hcleared _ (beside_relinked (s.absent r a) L)
  have hcalls := (honCalls _ (beside_relinked (s.absent r a) L)).trans (onCalls_wakeAll _ r a)
  have hframe := hleaves.frame
  have hpending := hleaves.pending
  rw [h.work L] at hframe hpending
  generalize g ((s.absent r a).relinked L) = y at hg hcalls hframe hpending
  have hspares : Spares n y (y.wakeAll r a) := works_wakeAll (fun _ _ => trivial) y r a
  obtain ⟨hcall, hnowhere⟩ := hspares.spared hg.2
  refine ⟨t, hexec, ClearedWith.of_frame (t := y.wakeAll r a) ⟨hcall.trans hg.1, hnowhere⟩ hframe, hleaves.keeps, ?_, ?_⟩
  · rw [hleaves.present, absent_handset]
  · refine hpending 1 (hcalls.pending 1 ?_)
    show (s.attention ||| 0x02#8).getLsbD 1 = true
    exact (BitVec.getLsbD_or ..).trans (by simp)

end

/-! ### The obligation -/

/-- Settles O29: a turn ends with its miss or its abandoned message, and a third miss with what the role of its handset asks. -/
theorem turnsEnd : Obligations.TurnsEnd := by
  refine ⟨fun s r => ⟨fun h => exec_event_unchanged (f := State.timeoutTurn r) rfl (timeoutTurn_early h),
      fun h => exec_event_unchanged (f := State.limitTurn r) rfl (limitTurn_early h)⟩,
    fun s r x hx => ⟨fun hanswered hframes => ?_, fun hun hframes hfew => ?_, fun hun hframes hmisses hpresent => ?_⟩⟩
  · have hcut : s.limitTurn r = _ := (limitTurn_of_turn hx hanswered hframes).trans (turnCut_eq s r)
    exact congrArg Host.Outcome.next ((event_of_quiet (f := State.limitTurn r) (by rw [hcut]; rfl)).trans hcut)
  · have hmiss : s.timeoutTurn r = _ := (timeoutTurn_of_turn hx hun hframes).trans (turnUnanswered_misses hfew)
    exact congrArg Host.Outcome.next ((event_of_quiet (f := State.timeoutTurn r) (by rw [hmiss]; rfl)).trans hmiss)
  · intro missed me
    have habsence : ∀ g : State → State,
        (∀ L, ((s.absent r x.addr).relinked L).leavesAbsent r x.addr = g ((s.absent r x.addr).relinked L)) →
        s.AbsenceIs r x.addr g := fun g hg => ⟨hmisses, hpresent, ⟨x, hx, rfl, hun, hframes⟩, hg⟩
    have hrole : ∀ L, ((s.absent r x.addr).relinked L).roleOf me = s.roleOf me := fun L => absent_roleOf (s := s) me
    refine ⟨fun hfree hwatch hroom => ?_, fun n hn hactive => ?_, fun n hn hj hactive => ?_,
      fun n p st c q hn hj ho hr hq hwatch hroom => ?_, fun n b hn hstate hb hmem hwatch hroom => ?_,
      fun n hn hstate hlast hnowhere hmay => ?_⟩
    · have hnone : s.roleOf me = none := by
        show (s.handset r x.addr).engaged.bind _ = none
        rw [hfree]; rfl
      have hwork := habsence (fun t => t) fun L => by
        rw [leavesAbsent_of_other fun n => by rw [hrole, hnone]; exact nofun, State.hangupHandset, hrole, hnone]
      obtain ⟨t, hexec, hframe, hlinks⟩ := hwork.answers (.pure fun _ => rfl) (by rw [absent_handset]; exact hwatch) rfl hroom
      exact ⟨t, hexec, hlinks, hframe⟩
    · have hwork := habsence (·.clear n .callerHungup) fun L => by
        rw [leavesAbsent_of_other fun n => by rw [hrole, hn]; exact nofun]
        exact hangup_of_origin ((hrole L).trans hn)
      exact hwork.clears (fun _ _ => onCalls_clear ..) fun y hy => by
        have hcleared := clearedWith_clear plain_full (s := y) (n := n) .callerHungup (by rw [hy.call]; exact hactive)
        exact ⟨by rw [← hy.call n]; exact hcleared.1, hcleared.2⟩
    · have hwork := habsence (·.clear n .targetHungup) fun L => by
        rw [leavesAbsent_of_other fun n => by rw [hrole, hn]; exact nofun]
        exact hangup_of_answerer ((hrole L).trans hn) hj
      exact hwork.clears (fun _ _ => onCalls_clear ..) fun y hy => by
        have hcleared := clearedWith_clear plain_full (s := y) (n := n) .targetHungup (by rw [hy.call]; exact hactive)
        exact ⟨by rw [← hy.call n]; exact hcleared.1, hcleared.2⟩
    · have hwork := habsence (·.hangupHandset r x.addr) fun L =>
        leavesAbsent_of_other fun n => by rw [hrole, hn]; exact nofun
      have hdoes := hangup_answerer_joined (s := s.absent r x.addr) ho hj ((absent_roleOf me).trans hn) hr hq
        (by rw [absent_handset]; exact hwatch) s
      obtain ⟨t, hexec, hframe, hlinks⟩ := hwork.answers hdoes (by
        show (((s.absent r x.addr).setHandset r x.addr _).handset r x.addr).watch = []
        rw [setHandset_handset_self, absent_handset]; exact hwatch) rfl hroom
      exact ⟨t, hexec, hlinks, handedOver_of hframe⟩
    · have hengaged : ((s.absent r x.addr).handset r x.addr).engaged = some n := by
        rw [absent_handset]; exact (roleOf_alerted_mem hn).1
      have hwork := habsence (·.memberLeaves n r x.addr none .absent) fun L => leavesAbsent_of_alerted ((hrole L).trans hn)
      have hother : .handset r b ∈ ((s.call n).without me).alerted :=
        List.mem_filter.mpr ⟨hmem, decide_eq_true fun e => hb (Party.handset.inj e).2⟩
      have hdoes := does_memberLeaves none .absent (does_memberGone_rings (b := s) (s := s.absent r x.addr) hengaged
        (by rw [absent_handset]; exact hwatch) hstate (d := b) hother) (by rw [leaving_call]; exact List.ne_nil_of_mem hother)
      obtain ⟨t, hexec, hframe, hlinks⟩ := hwork.answers hdoes (by
        show (((s.absent r x.addr).setHandset r x.addr _).handset r x.addr).watch = []
        rw [setHandset_handset_self, absent_handset]; exact hwatch) rfl hroom
      exact ⟨t, hexec, hlinks, hframe⟩
    · have hnowhere' : (s.absent r x.addr).StandsNowhere n := by
        refine ⟨hnowhere.1, hnowhere.2.1, fun r' a' => ?_⟩
        show n ∉ ((s.setHandset r x.addr _).handset r' a').watch
        rw [setHandset_handset]
        split
        next e =>
          obtain ⟨rfl, rfl⟩ := e
          exact hnowhere.2.2 r' x.addr
        next => exact hnowhere.2.2 r' a'
      have hends := ends_member (z := s.absent r x.addr) (r := r) (a := x.addr) none (cause := .absent) hnowhere'
        (by
          show (s.call n).alerted.filter (· ≠ me) = []
          rw [hlast]; simp [me])
        (by show me ∈ (s.call n).alerted; rw [hlast]; exact List.mem_singleton_self _)
        (by show (s.call n).state ≠ _; rw [hstate]; exact nofun) hmay nofun
      exact (habsence _ fun L => leavesAbsent_of_alerted ((hrole L).trans hn)).clears hends.onCalls hends.cleared

end Sys2Proof.Machine
end

section
/-!
PROOF. A call that enters TALKING (R17, R18, R101, R110, R111): what is told, and the channels that are connected.
-/

namespace Sys2Proof.Machine

/-! ### The crosspoint connects (R110, R111) -/

/-- The record of a call that the crosspoint has connected. -/
def CallRecord.speaking (c : CallRecord) : CallRecord := { c with voice := some c.freshVoice, lastPeriod := none }

theorem connectVoice_eq {s : State} {n : CallNo} {c : CallRecord} {x y : LinkId × Nat} (hc : s.call n = c)
    (hx : c.origin.bind c.channelOf = some x) (hy : c.answerer.bind c.channelOf = some y) :
    s.connectVoice n = (s.setCall n c.speaking).connectAll [x, y] := by
  subst hc
  unfold State.connectVoice
  dsimp only
  rw [hx, hy]
  rfl

/-- The upstream channel `x` has its last good octet at 0x00. -/
def silentOn (x : LinkId × Nat) (k : LinkId) (u : LinkUnit) : LinkUnit :=
  if k = x.1 then { u with lastGood := u.lastGood.set x.2 0x00#8 } else u

theorem silenced_two {x y : LinkId × Nat} (h : x.1 ≠ y.1) (k : LinkId) (u : LinkUnit) :
    silenced [x, y] k u = silentOn x k (silentOn y k u) := by
  have hfold : silenced [x, y] k u = silentOn y k (silentOn x k u) := rfl
  rw [hfold, silentOn, silentOn, silentOn, silentOn]
  by_cases hx : k = x.1
  · have hy : k ≠ y.1 := fun e => h (hx.symm.trans e)
    simp only [if_pos hx, if_neg hy]
  · simp only [if_neg hx]

/-! ### The call enters TALKING (R17, R18, R101) -/

/-- The record of a call whose talk count starts. -/
def CallRecord.talks (c : CallRecord) (p : Params) : CallRecord :=
  { c with
    state := .talking, stateCount := none, waitCount := none, talk := some ⟨(p.talkLimit * 60 : Nat), 8000⟩, graceBound := none }

/-- The call enters TALKING and its origin is told, before the crosspoint connects it. -/
def State.opensTalk (n : CallNo) (s : State) : State := (s.enterTalking n).connectOrigin n

theorem connectOrigin_of_station {s : State} {n : CallNo} {p : Fin 4} {st : Fin 2}
    (h : (s.call n).origin = some (.station p st)) : s.connectOrigin n = s := by
  rw [State.connectOrigin, h]

theorem connectOrigin_of_inside {s : State} {n : CallNo} {x : Party} {l : LinkId} {i : Nat}
    (h : (s.call n).origin = some x) (hx : Party.isStation x = false) (hi : (s.call n).channelOf x = some (l, i)) :
    s.connectOrigin n = s.put x.link (connectMsg x.addr i) := by
  unfold State.connectOrigin
  rw [h]
  cases x with
  | station p st => exact nomatch hx
  | handset r a => dsimp only; rw [hi]; rfl
  | position q => dsimp only; rw [hi]; rfl

theorem does_opensTalk_station (b : State) {s : State} {n : CallNo} {c : CallRecord} {p : Fin 4} {st : Fin 2}
    (hc : s.call n = c) (ho : c.origin = some (.station p st)) (hnew : c.lastProgress ≠ some .talk) :
    Does b (State.opensTalk n) s (s.setCall n { c.talks s.params with lastProgress := some .talk })
      [(.panel p, progressMsg (BitVec.ofNat 8 st.val) .talk)] := by
  have htell := does_setCall_tell b s (n := n) (c := c.talks s.params) (v := .talk) rfl
  rw [told_of_station .talk (by exact ho), telling_of_station .talk (by exact ho), if_neg (by exact hnew)] at htell
  intro L pre hL hroom
  have h := htell L pre hL hroom
  have henter : ((s.relinked L).sent pre).enterTalking n =
      (((s.relinked L).sent pre).setCall n (c.talks s.params)).tellProgress n := by subst hc; rfl
  show (((s.relinked L).sent pre).enterTalking n).connectOrigin n = _
  rw [henter]
  change State.tellProgress _ n = _ at h
  rw [h]
  refine connectOrigin_of_station (p := p) (st := st) ?_
  show ((s.setCall n _).call n).origin = _
  rw [setCall_call_self]
  exact ho

theorem does_opensTalk_inside (b : State) {s : State} {n : CallNo} {c : CallRecord} {x : Party} {l : LinkId} {i : Nat}
    (hc : s.call n = c) (ho : c.origin = some x) (hx : Party.isStation x = false) (hi : c.channelOf x = some (l, i)) :
    Does b (State.opensTalk n) s (s.setCall n (c.talks s.params)) [(x.link, connectMsg x.addr i)] := by
  have hin : CallRecord.FromInside (c.talks s.params) := fun p st e => by
    obtain rfl := Option.some.inj (ho.symm.trans e)
    exact nomatch hx
  refine (does_put b (s.setCall n (c.talks s.params)) x.link (connectMsg x.addr i)).via fun L => ?_
  have henter : (s.relinked L).enterTalking n = ((s.relinked L).setCall n (c.talks s.params)).tellProgress n := by subst hc; rfl
  have hcall : ((s.relinked L).setCall n (c.talks s.params)).call n = c.talks s.params := setCall_call_self ..
  have hsame : ((s.relinked L).setCall n (c.talks s.params)).tellProgress n = (s.relinked L).setCall n (c.talks s.params) := by
    unfold State.tellProgress
    rw [hcall]
    split
    next p st v ho' _ => exact absurd ho' (hin p st)
    next => rfl
  show ((s.relinked L).enterTalking n).connectOrigin n = _
  rw [henter, hsame]
  have horigin : (((s.relinked L).setCall n (c.talks s.params)).call n).origin = some x := by rw [hcall]; exact ho
  have hchannel : (((s.relinked L).setCall n (c.talks s.params)).call n).channelOf x = some (l, i) := by
    rw [hcall]
    cases x <;> exact hi
  exact connectOrigin_of_inside horigin hx hchannel

theorem beginTalk_of_active {s : State} {n : CallNo} (h : (s.call n).state ≠ .idle) :
    s.beginTalk n = (s.opensTalk n).connectVoice n := if_neg h

/-- A command that answers a call: work `g` leaves it answered, it enters TALKING with its origin told, and the channels
`x` of its origin and `y` of its answerer are connected. -/
theorem Runs.talks {i : Instr} {s z u : State} {f g : State → State} {base : LinkId → LinkUnit} {n : CallNo} {c : CallRecord}
    {x y : LinkId × Nat} {out out' : List (LinkId × Message)} (h : Runs i s f base [])
    (hf : ∀ L, s.Alike L → f (s.relinked L) = (g (s.relinked L)).beginTalk n) (hg : Does s g s z out)
    (hactive : (z.call n).state ≠ .idle) (hopen : Does s (State.opensTalk n) z (u.setCall n c) out')
    (hx : c.origin.bind c.channelOf = some x) (hy : c.answerer.bind c.channelOf = some y) (hne : x.1 ≠ y.1)
    (hpending : u.maskedPending = s.maskedPending) (hroom : s.Room (out ++ out')) :
    ∃ t, exec i s = .next t ∧ t = { u.setCall n c.speaking with links := t.links } ∧
      ∀ k, t.link k = (silentOn x k (silentOn y k (base k))).withTx (outFor k (out ++ out')) := by
  have hwork : s.Room (out ++ out') → ∀ L, s.Alike L → f (s.relinked L) =
      (((u.setCall n c.speaking).relinked L).sent (out ++ out')).connectAll [x, y] := by
    intro hr L hL
    have hdone := hg L [] hL (room_of_append_left hr)
    have hopened := hopen L out hL hr
    change g (s.relinked L) = _ at hdone
    have hactive' : (((z.relinked L).sent out).call n).state ≠ .idle := hactive
    rw [hf L hL, hdone, List.nil_append, beginTalk_of_active hactive', hopened]
    have hcall : (((u.setCall n c).relinked L).sent (out ++ out')).call n = c := setCall_call_self ..
    rw [connectVoice_eq hcall hx hy]
    refine congrArg (State.connectAll · [x, y]) ?_
    exact congrArg (fun v => State.sent (State.relinked { u with calls := v } L) (out ++ out')) (Vector.set_set ..)
  obtain ⟨t, hexec, hframe, hlinks⟩ := h.connects hwork (noticeOf_of_kept hpending)
    (by rw [List.append_nil, List.append_nil]; exact hroom)
  refine ⟨t, hexec, hframe, fun k => ?_⟩
  rw [hlinks, silenced_two hne, List.append_nil, List.append_nil]

end Sys2Proof.Machine
end

section
/-!
PROOF. The answer of an alerted handset (R17, R81): what it is sent, the spare channels and the other members.
-/

namespace Sys2Proof.Machine

/-- The record of a call that handset `x` has answered, before it enters TALKING. -/
def CallRecord.answeredBy (c : CallRecord) (x : Party) : CallRecord :=
  { c with answerer := some x, alerted := [], stateCount := none }

/-- Call `n` is answered by handset `a`: CONNECT, the spare channels handed back, the other members stopped (R17, R81). -/
def State.answering (n : CallNo) (r : Fin 8) (a : Fin 63) (s : State) : State :=
  let x := Party.handset r a
  ((s.call n).alerted.filter (· ≠ x)).foldl (State.stopMember n)
    (((s.call n).reservations.filter (fun y => y.1 ≠ r)).foldl (fun t y => t.handBack n y)
      ((s.setCall n ((s.call n).answeredBy x)).connectParty n x))

theorem answerHandset_eq (s : State) (n : CallNo) (r : Fin 8) (a : Fin 63) :
    s.answerHandset n r a = (s.answering n r a).beginTalk n := rfl

/-- Call `n` has its answerer written. -/
def State.answered (s : State) (n : CallNo) (x : Party) : State := s.setCall n ((s.call n).answeredBy x)

theorem answered_call (s : State) (n : CallNo) (x : Party) : (s.answered n x).call n = (s.call n).answeredBy x :=
  setCall_call_self ..

/-- Channels handed back by call `n`, in list order. -/
def State.handsBack (n : CallNo) (rs : List (Fin 8 × Fin 4)) (s : State) : State := rs.foldl (fun t y => t.handBack n y) s

/-- Members of call `n` stopped, in list order (log 28). -/
def State.stopMembers (n : CallNo) (xs : List Party) (s : State) : State := xs.foldl (State.stopMember n) s

section
variable {b s z z' : State} {n : CallNo} {r : Fin 8} {a : Fin 63} {c : Fin 4} {out out' : List (LinkId × Message)}

theorem does_answering (hc : (s.call n).channelOn r = some c)
    (hback : Does b (State.handsBack n ((s.call n).reservations.filter (fun y => y.1 ≠ r))) (s.answered n (.handset r a)) z out)
    (hstop : Does b (State.stopMembers n ((s.call n).alerted.filter (· ≠ .handset r a))) z z' out') :
    Does b (State.answering n r a) s z' ((.riser r, connectMsg (BitVec.ofNat 8 a.val) c.val) :: (out ++ out')) := by
  have hconnect := does_put b (s.answered n (.handset r a)) (.riser r) (connectMsg (BitVec.ofNat 8 a.val) c.val)
  refine (hconnect.comp (hback.comp hstop)).via fun L => ?_
  have hchannel : (((s.answered n (.handset r a)).relinked L).call n).channelOn r = some c := by
    show ((s.answered n (.handset r a)).call n).channelOn r = some c
    rw [answered_call]; exact hc
  have hput : ((s.relinked L).answered n (.handset r a)).connectParty n (.handset r a) =
      ((s.answered n (.handset r a)).relinked L).put (.riser r) (connectMsg (BitVec.ofNat 8 a.val) c.val) :=
    connectParty_handset hchannel
  show State.stopMembers n _ (State.handsBack n _ (((s.relinked L).answered n (.handset r a)).connectParty n (.handset r a))) = _
  rw [hput]
  rfl

theorem does_handsBack_nil : Does b (State.handsBack n []) z z [] := .pure fun _ => rfl

theorem does_handsBack_one {y : Fin 8 × Fin 4} (h : Does b (·.handBack n y) z z' out) :
    Does b (State.handsBack n [y]) z z' out := h

theorem does_stopMembers_nil : Does b (State.stopMembers n []) z z [] := .pure fun _ => rfl

theorem does_stopMembers_one {x : Party} (h : Does b (·.disengage n x) z z' out) :
    Does b (State.stopMembers n [x]) z z' ((x.link, ringStopMsg x.addr .answeredElsewhere) :: out) :=
  (does_put b z x.link (ringStopMsg x.addr .answeredElsewhere)).comp h

end

/-! ### Where no call waits -/

/-- Channels set aside one after another: they are FREE, and the record has those left. -/
theorem foldl_setAside_some {n : CallNo} (rs : List (Fin 8 × Fin 4)) :
    ∀ {s : State}, (s.call n).reservations.Nodup → (∀ x ∈ rs, x ∈ (s.call n).reservations) → rs.Nodup →
      let t := rs.foldl (fun t x => t.setAside n x.1 x.2) s
      t = { s with
        channels := t.channels
        calls := s.calls.set n { s.call n with reservations := (s.call n).reservations.diff rs } } ∧
      ∀ r c, t.channel r c = if (r, c) ∈ rs then none else s.channel r c := by
  induction rs with
  | nil =>
    intro s _ _ _
    refine ⟨?_, fun _ _ => rfl⟩
    have hsame : ({ s.call n with reservations := (s.call n).reservations.diff [] } : CallRecord) = s.call n := by
      rw [List.diff_nil]
    rw [hsame]
    exact (setCall_call_eq s n).symm
  | cons x rs ih =>
    intro s hnodup hsub hrs
    have hmem : (x.1, x.2) ∈ (s.call n).reservations := hsub x List.mem_cons_self
    have hstep := setAside_of_mem hmem
    obtain ⟨hx, hrs'⟩ := List.nodup_cons.mp hrs
    have hcall : (s.setAside n x.1 x.2).call n = { s.call n with reservations := (s.call n).reservations.erase x } := by
      rw [hstep, setCall_call_self]
    have hleft : ∀ y ∈ rs, y ∈ ((s.setAside n x.1 x.2).call n).reservations := fun y hy => by
      rw [hcall]
      exact (List.mem_erase_of_ne fun e => hx (by rw [← e]; exact hy)).mpr (hsub y (List.mem_cons_of_mem _ hy))
    obtain ⟨hframe, hchannels⟩ := ih (s := s.setAside n x.1 x.2) (by rw [hcall]; exact hnodup.erase x) hleft hrs'
    dsimp only
    rw [List.foldl_cons]
    refine ⟨?_, fun r c => ?_⟩
    · rw [hframe, hcall, List.diff_cons, hstep]
      exact congrArg (fun v => ({ s with channels := _, calls := v } : State)) (Vector.set_set ..)
    · rw [hchannels, hstep, setCall_channel, setChannel_channel]
      by_cases he : (r, c) = x
      · subst he
        simp
      · have hne : ¬ (r = x.1 ∧ c = x.2) := fun e => he (Prod.ext e.1 e.2)
        simp [he, hne]

theorem diff_spare {rs : List (Fin 8 × Fin 4)} (h : rs.Nodup) (r : Fin 8) :
    rs.diff (rs.filter fun y => y.1 ≠ r) = rs.filter fun y => y.1 = r := by
  rw [h.sdiff_eq_filter]
  refine List.filter_congr fun y hy => ?_
  simp [List.mem_filter, hy]

/-- Handsets let go: their engagements are all that changes. -/
theorem foldl_lets_handsets {n : CallNo} {xs : List Party} (h : ∀ x ∈ xs, ∃ r a, x = .handset r a) (s : State) :
    xs.foldl (State.lets n) s = { s with handsets := (xs.foldl (State.lets n) s).handsets } := by
  induction xs generalizing s with
  | nil => rfl
  | cons x xs ih =>
    obtain ⟨r, a, rfl⟩ := h x List.mem_cons_self
    have hone : s.lets n (.handset r a) = { s with handsets := (s.lets n (.handset r a)).handsets } := by
      unfold State.lets
      split <;> rfl
    rw [List.foldl_cons, ih (fun y hy => h y (List.mem_cons_of_mem _ hy)), hone]

theorem does_stopMembers_quiet (b : State) {n : CallNo} (xs : List Party) :
    ∀ {s : State}, s.NoneWaits →
      Does b (State.stopMembers n xs) s (xs.foldl (State.lets n) s)
        (xs.map fun x => (x.link, ringStopMsg x.addr .answeredElsewhere)) := by
  induction xs with
  | nil => exact fun _ => does_stopMembers_nil
  | cons x xs ih =>
    intro s hs
    have hquiet := (partiesFreed_one s n x).noneWaits hs
    have hlets : Does b (·.disengage n x) s (s.lets n x) [] := .pure fun L => by
      rw [← lets_relinked]
      exact disengage_of_noneWaits plain_full (s := s.relinked L) ⟨hs.seek, hs.desk, hs.watch⟩ n x
    exact ((does_put b s x.link (ringStopMsg x.addr .answeredElsewhere)).comp_pure hlets).comp (ih hquiet)

end Sys2Proof.Machine
end

section
/-!
PROOF. ANSWER connects the call, of every kind (O37).
-/

namespace Sys2Proof.Machine

/-! ### Who answers -/

section
variable {s : State} {n : CallNo}

theorem answers_handset {r : Fin 8} {a : Fin 63} (hrole : s.roleOf (.handset r a) = some (n, .alerted))
    (hstate : (s.call n).state = .alerting) : s.answers (.handset r a) = s.answerHandset n r a := by
  rw [State.answers, hrole]
  exact if_pos hstate

theorem answers_position {q : Fin 6} (hrole : s.roleOf (.position q) = some (n, .alerted))
    (hstate : (s.call n).state = .alerting) : s.answers (.position q) = s.answerPosition n q := by
  rw [State.answers, hrole]
  exact if_pos hstate

theorem runs_answer_handset {r : Fin 8} {a : Fin 63} (hheard : s.Heard (.handset r a))
    (hdel : s.deliverable (.riser r) (bareMsg (BitVec.ofNat 8 a.val) 0x12#8) = true) :
    Runs (.answer (.handset r a)) s (State.answers (.handset r a))
      (s.taking (.riser r) (bareMsg (BitVec.ofNat 8 a.val) 0x12#8)) [] :=
  runs_talker (i := .answer (.handset r a)) (y := .handset r a) (x := .handset r a)
    (m := bareMsg (BitVec.ofNat 8 a.val) 0x12#8) (f := State.answers) rfl rfl hheard rfl hdel

theorem runs_answer_position {q : Fin 6} (hdel : s.deliverable .trunk (bareMsg (BitVec.ofNat 8 q.val) 0x12#8) = true) :
    Runs (.answer (.position (BitVec.ofNat 8 q.val))) s (State.answers (.position q))
      (s.taking .trunk (bareMsg (BitVec.ofNat 8 q.val) 0x12#8)) [] :=
  runs_position (i := .answer (.position (BitVec.ofNat 8 q.val))) (f := fun k => State.answers (.position k)) rfl rfl hdel

/-! ### The record of a call in TALKING -/

/-- The record of a call that party `x` has answered, in TALKING with a fresh voice of mode `mode`. -/
def CallRecord.talkingTo (c : CallRecord) (p : Params) (x : Party) (mode : VoiceMode) : CallRecord :=
  { c with
    state := .talking
    answerer := some x
    alerted := []
    stateCount := none
    waitCount := none
    talk := some ⟨(p.talkLimit * 60 : Nat), 8000⟩
    graceBound := none
    voice := some { mode := mode, originMeter := 0, answererMeter := 0, joinedMeter := none, direction := .neutral, hang := 0 }
    lastPeriod := none }

theorem speaking_eq {c : CallRecord} {mode : VoiceMode} (h : c.voiceMode = mode) :
    c.speaking = { c with
      voice := some { mode := mode, originMeter := 0, answererMeter := 0, joinedMeter := none, direction := .neutral, hang := 0 }
      lastPeriod := none } := by
  rw [CallRecord.speaking, CallRecord.freshVoice, h]

/-- The mode of a call between a station and a handset (R112). -/
def CallRecord.flatMode (c : CallRecord) : VoiceMode :=
  if c.resolved.map (·.duplex) = some true then .duplex else .switched

/-- A call of a station that a handset answers. -/
theorem answer_flat {p : Fin 4} {st : Fin 2} {r : Fin 8} {a : Fin 63} {c : Fin 4} {z : State} {rs : List (Fin 8 × Fin 4)}
    {out : List (LinkId × Message)} (hstate : (s.call n).state = .alerting) (hjoined : (s.call n).joined = none)
    (ho : (s.call n).origin = some (.station p st)) (hnew : (s.call n).lastProgress ≠ some .talk)
    (he : (s.handset r a).engaged = some n) (hmem : .handset r a ∈ (s.call n).alerted) (hheard : s.Heard (.handset r a))
    (hdel : s.deliverable (.riser r) (bareMsg (BitVec.ofNat 8 a.val) 0x12#8) = true)
    (hz : Does s (State.answering n r a) s z out)
    (hcall : z.call n = { (s.call n).answeredBy (.handset r a) with reservations := rs })
    (hc : CallRecord.channelOn { s.call n with reservations := rs } r = some c) (hparams : z.params = s.params)
    (hpending : z.maskedPending = s.maskedPending)
    (hroom : s.Room (out ++ [(.panel p, progressMsg (BitVec.ofNat 8 st.val) .talk)])) :
    ∃ t, exec (.answer (.handset r a)) s = .next t ∧
      t = { z with
            links := t.links
            calls := z.calls.set n
              { (s.call n).talkingTo s.params (.handset r a) (s.call n).flatMode with
                lastProgress := some .talk, reservations := rs } } ∧
      ∀ k, t.link k =
        (silentOn (.panel p, st.val) k (silentOn (.riser r, c.val) k
          (s.taking (.riser r) (bareMsg (BitVec.ofNat 8 a.val) 0x12#8) k))).withTx
            (outFor k (out ++ [(.panel p, progressMsg (BitVec.ofNat 8 st.val) .talk)])) := by
  have hrole : s.roleOf (.handset r a) = some (n, .alerted) := roleOf_alerted he (by rw [ho]; exact nofun) hmem
  have hopen := does_opensTalk_station s (s := z) (p := p) (st := st) hcall ho hnew
  rw [hparams] at hopen
  have hmode : CallRecord.voiceMode
      { CallRecord.talks { (s.call n).answeredBy (.handset r a) with reservations := rs } s.params with
        lastProgress := some .talk } = (s.call n).flatMode :=
    voiceMode_of_flat (p := p) (st := st) (r := r) (a := a) ho rfl hjoined
  obtain ⟨t, hexec, hframe, hlinks⟩ := (runs_answer_handset hheard hdel).talks (x := (.panel p, st.val))
    (y := (.riser r, c.val))
    (fun L _ => (answers_handset (s := s.relinked L) hrole hstate).trans (answerHandset_eq ..)) hz
    (by rw [hcall]; show (s.call n).state ≠ _; rw [hstate]; exact nofun) hopen
    (by show (s.call n).origin.bind _ = _; rw [ho]; rfl) (congrArg (Option.map _) hc) nofun hpending hroom
  refine ⟨t, hexec, ?_, hlinks⟩
  rw [hframe, speaking_eq hmode]
  rfl

theorem voiceMode_of_desk {c : CallRecord} {p : Fin 4} {st : Fin 2} {q : Fin 6} (hj : c.joined = none)
    (ho : c.origin = some (.station p st)) (hw : c.answerer = some (.position q)) : c.voiceMode = .switched := by
  simp [CallRecord.voiceMode, hj, ho, hw, Party.isStation, Party.isPosition]

theorem voiceMode_of_inside {c : CallRecord} {x : Party} (hj : c.joined = none) (ho : c.origin = some x)
    (hx : Party.isStation x = false) : c.voiceMode = .duplex := by
  simp [CallRecord.voiceMode, hj, ho, hx]

theorem does_answering_alone (b : State) {r : Fin 8} {a : Fin 63} {c : Fin 4} (halerted : (s.call n).alerted = [.handset r a])
    (hres : (s.call n).reservations = [(r, c)]) :
    Does b (State.answering n r a) s (s.answered n (.handset r a)) [(.riser r, connectMsg (BitVec.ofNat 8 a.val) c.val)] := by
  have hspare : (s.call n).reservations.filter (fun y => y.1 ≠ r) = [] := by rw [hres]; simp
  have hothers : (s.call n).alerted.filter (· ≠ .handset r a) = [] := by rw [halerted]; simp
  refine does_answering (z := s.answered n (.handset r a)) (out := []) (out' := []) (channelOn_only hres) ?_ ?_
  · rw [hspare]; exact does_handsBack_nil
  · rw [hothers]; exact does_stopMembers_nil

/-- A DESK-kind call that a handset answers (R18, R22). -/
theorem answer_of_position {r : Fin 8} {a : Fin 63} {c : Fin 4} {q : Fin 6} (hstate : (s.call n).state = .alerting)
    (hjoined : (s.call n).joined = none) (ho : (s.call n).origin = some (.position q))
    (he : (s.handset r a).engaged = some n) (hheard : s.Heard (.handset r a))
    (halerted : (s.call n).alerted = [.handset r a]) (hres : (s.call n).reservations = [(r, c)])
    (hdel : s.deliverable (.riser r) (bareMsg (BitVec.ofNat 8 a.val) 0x12#8) = true)
    (hroom : s.Room [(.riser r, connectMsg (BitVec.ofNat 8 a.val) c.val), (.trunk, connectMsg (BitVec.ofNat 8 q.val) q.val)]) :
    ∃ t, exec (.answer (.handset r a)) s = .next t ∧
      t = { s with links := t.links, calls := s.calls.set n ((s.call n).talkingTo s.params (.handset r a) .duplex) } ∧
      ∀ k, t.link k =
        (silentOn (.trunk, q.val) k (silentOn (.riser r, c.val) k
          (s.taking (.riser r) (bareMsg (BitVec.ofNat 8 a.val) 0x12#8) k))).withTx
            (outFor k [(.riser r, connectMsg (BitVec.ofNat 8 a.val) c.val), (.trunk, connectMsg (BitVec.ofNat 8 q.val) q.val)]) := by
  have hrole : s.roleOf (.handset r a) = some (n, .alerted) :=
    roleOf_alerted he (by rw [ho]; exact nofun) (by rw [halerted]; exact List.mem_singleton_self _)
  have hcall := answered_call s n (.handset r a)
  have hopen := does_opensTalk_inside s (s := s.answered n (.handset r a)) (x := .position q) (l := .trunk) (i := q.val) hcall ho
    rfl rfl
  have hmode : CallRecord.voiceMode
      (CallRecord.talks ((s.call n).answeredBy (.handset r a)) (s.answered n (.handset r a)).params) = .duplex :=
    voiceMode_of_inside hjoined ho rfl
  obtain ⟨t, hexec, hframe, hlinks⟩ := (runs_answer_handset hheard hdel).talks (x := (.trunk, q.val)) (y := (.riser r, c.val))
    (fun L _ => (answers_handset (s := s.relinked L) hrole hstate).trans (answerHandset_eq ..))
    (does_answering_alone s halerted hres) (by rw [hcall]; show (s.call n).state ≠ _; rw [hstate]; exact nofun) hopen
    (by show (s.call n).origin.bind _ = _; rw [ho]; rfl) (congrArg (Option.map _) (channelOn_only (c := s.call n) hres)) nofun rfl
    hroom
  refine ⟨t, hexec, ?_, hlinks⟩
  rw [hframe, speaking_eq hmode]
  exact congrArg (fun v => ({ s with links := t.links, calls := v } : State)) (Vector.set_set ..)

/-- The record of a call that its position has answered, before it enters TALKING. -/
def CallRecord.answeredAt (c : CallRecord) (q : Fin 6) : CallRecord := { c with answerer := some (.position q), alerted := [] }

theorem answerPosition_eq (s : State) (n : CallNo) (q : Fin 6) :
    s.answerPosition n q = ((s.setCall n ((s.call n).answeredAt q)).connectParty n (.position q)).beginTalk n := rfl

theorem does_answerPosition (b : State) (q : Fin 6) :
    Does b (fun t => (t.setCall n ((t.call n).answeredAt q)).connectParty n (.position q)) s
      (s.setCall n ((s.call n).answeredAt q)) [(.trunk, connectMsg (BitVec.ofNat 8 q.val) q.val)] :=
  (does_put b (s.setCall n ((s.call n).answeredAt q)) .trunk (connectMsg (BitVec.ofNat 8 q.val) q.val)).via fun _ => rfl

section
variable {q : Fin 6}

/-- A call that the position it rings answers. -/
theorem answer_desk (hstate : (s.call n).state = .alerting) (he : (s.position q).engaged = some n)
    (halerted : (s.call n).alerted = [.position q])
    (ho : (s.call n).origin ≠ some (.position q))
    (hdel : s.deliverable .trunk (bareMsg (BitVec.ofNat 8 q.val) 0x12#8) = true) {c : CallRecord} {x : LinkId × Nat}
    {mode : VoiceMode} {out : List (LinkId × Message)}
    (hopen : Does s (State.opensTalk n) (s.setCall n ((s.call n).answeredAt q))
      ((s.setCall n ((s.call n).answeredAt q)).setCall n c) out)
    (hx : c.origin.bind c.channelOf = some x) (hw : c.answerer = some (.position q)) (hne : x.1 ≠ .trunk)
    (hmode : c.voiceMode = mode)
    (hroom : s.Room ((.trunk, connectMsg (BitVec.ofNat 8 q.val) q.val) :: out)) :
    ∃ t, exec (.answer (.position (BitVec.ofNat 8 q.val))) s = .next t ∧
      t = { s with
            links := t.links
            calls := s.calls.set n { c with
              voice := some { mode := mode, originMeter := 0, answererMeter := 0, joinedMeter := none, direction := .neutral, hang := 0 }
              lastPeriod := none } } ∧
      ∀ k, t.link k =
        (silentOn x k (silentOn (.trunk, q.val) k (s.taking .trunk (bareMsg (BitVec.ofNat 8 q.val) 0x12#8) k))).withTx
          (outFor k ((.trunk, connectMsg (BitVec.ofNat 8 q.val) q.val) :: out)) := by
  have hrole : s.roleOf (.position q) = some (n, .alerted) :=
    roleOf_alerted he ho (by rw [halerted]; exact List.mem_singleton_self _)
  obtain ⟨t, hexec, hframe, hlinks⟩ := (runs_answer_position hdel).talks (x := x) (y := (.trunk, q.val))
    (fun L _ => (answers_position (s := s.relinked L) hrole hstate).trans (answerPosition_eq ..)) (does_answerPosition s q)
    (by rw [setCall_call_self]; show (s.call n).state ≠ _; rw [hstate]; exact nofun) hopen hx
    (by rw [hw]; rfl) hne rfl hroom
  refine ⟨t, hexec, ?_, hlinks⟩
  rw [hframe, speaking_eq hmode]
  exact congrArg (fun v => ({ s with links := t.links, calls := v } : State)) (Vector.set_set ..)

theorem answer_desk_station {p : Fin 4} {st : Fin 2} (hstate : (s.call n).state = .alerting)
    (hjoined : (s.call n).joined = none) (he : (s.position q).engaged = some n) (halerted : (s.call n).alerted = [.position q])
    (ho : (s.call n).origin = some (.station p st)) (hnew : (s.call n).lastProgress ≠ some .talk)
    (hdel : s.deliverable .trunk (bareMsg (BitVec.ofNat 8 q.val) 0x12#8) = true)
    (hroom : s.Room [(.trunk, connectMsg (BitVec.ofNat 8 q.val) q.val),
      (.panel p, progressMsg (BitVec.ofNat 8 st.val) .talk)]) :
    ∃ t, exec (.answer (.position (BitVec.ofNat 8 q.val))) s = .next t ∧
      t = { s with
            links := t.links
            calls := s.calls.set n
              { (s.call n).talkingTo s.params (.position q) .switched with lastProgress := some .talk } } ∧
      ∀ k, t.link k =
        (silentOn (.panel p, st.val) k (silentOn (.trunk, q.val) k
          (s.taking .trunk (bareMsg (BitVec.ofNat 8 q.val) 0x12#8) k))).withTx
            (outFor k [(.trunk, connectMsg (BitVec.ofNat 8 q.val) q.val),
              (.panel p, progressMsg (BitVec.ofNat 8 st.val) .talk)]) := by
  have hopen := does_opensTalk_station s (s := s.setCall n ((s.call n).answeredAt q)) (setCall_call_self ..) (p := p) (st := st) ho hnew
  refine answer_desk hstate he halerted (by rw [ho]; exact nofun) hdel hopen
    (by show (s.call n).origin.bind _ = _; rw [ho]; rfl) rfl nofun ?_ hroom
  exact voiceMode_of_desk (p := p) (st := st) (q := q) hjoined ho rfl

theorem answer_desk_handset {r : Fin 8} {a : Fin 63} {c : Fin 4} (hstate : (s.call n).state = .alerting)
    (hjoined : (s.call n).joined = none) (he : (s.position q).engaged = some n) (halerted : (s.call n).alerted = [.position q])
    (ho : (s.call n).origin = some (.handset r a)) (hc : (s.call n).channelOn r = some c)
    (hdel : s.deliverable .trunk (bareMsg (BitVec.ofNat 8 q.val) 0x12#8) = true)
    (hroom : s.Room [(.trunk, connectMsg (BitVec.ofNat 8 q.val) q.val), (.riser r, connectMsg (BitVec.ofNat 8 a.val) c.val)]) :
    ∃ t, exec (.answer (.position (BitVec.ofNat 8 q.val))) s = .next t ∧
      t = { s with links := t.links, calls := s.calls.set n ((s.call n).talkingTo s.params (.position q) .duplex) } ∧
      ∀ k, t.link k =
        (silentOn (.riser r, c.val) k (silentOn (.trunk, q.val) k
          (s.taking .trunk (bareMsg (BitVec.ofNat 8 q.val) 0x12#8) k))).withTx
            (outFor k [(.trunk, connectMsg (BitVec.ofNat 8 q.val) q.val), (.riser r, connectMsg (BitVec.ofNat 8 a.val) c.val)]) := by
  have hopen := does_opensTalk_inside s (s := s.setCall n ((s.call n).answeredAt q)) (setCall_call_self ..) (x := .handset r a)
    (l := .riser r) (i := c.val) ho rfl (congrArg (Option.map _) hc)
  refine answer_desk hstate he halerted (by rw [ho]; exact nofun) hdel hopen
    (by show (s.call n).origin.bind _ = _; rw [ho]; exact congrArg (Option.map _) hc) rfl nofun ?_ hroom
  exact voiceMode_of_inside hjoined ho rfl

end

end

end Sys2Proof.Machine
end

section
/-!
PROOF. ANSWER of one of several members (R17, R81), and the obligation O37.
-/

namespace Sys2Proof.Machine

section
variable {s : State} {n : CallNo} {r : Fin 8} {a : Fin 63} {c : Fin 4}

theorem channelOn_filter (w : CallRecord) (r : Fin 8) :
    CallRecord.channelOn { w with reservations := w.reservations.filter (fun y => y.1 = r) } r = w.channelOn r := by
  rw [CallRecord.channelOn, CallRecord.channelOn, List.find?_filter]
  simp

/-- The spare channels of an answered call handed back where no call waits. -/
def State.sparesFreed (s : State) (n : CallNo) (x : Party) (rs : List (Fin 8 × Fin 4)) : State :=
  rs.foldl (fun t y => t.setAside n y.1 y.2) (s.answered n x)

theorem does_handsBack_quiet (b : State) (hs : s.NoneWaits) (x : Party) (rs : List (Fin 8 × Fin 4)) :
    Does b (State.handsBack n rs) (s.answered n x) (s.sparesFreed n x rs) [] := .pure fun L => by
  have hrelinked : (s.sparesFreed n x rs).relinked L =
      rs.foldl (fun t y => t.setAside n y.1 y.2) ((s.answered n x).relinked L) :=
    (foldl_relinked (f := fun t (y : Fin 8 × Fin 4) => State.setAside t n y.1 y.2) (fun s L y => setAside_relinked s L n y.1 y.2)
      rs (s.answered n x) L).symm
  rw [hrelinked]
  exact foldl_handBack_of_noneWaits plain_full rs (s := (s.answered n x).relinked L) ⟨hs.seek, hs.desk, hs.watch⟩

theorem sparesFreed_frame {x : Party} (hnodup : (s.call n).reservations.Nodup) :
    let t := s.sparesFreed n x ((s.call n).reservations.filter fun y => y.1 ≠ r)
    t = { s with
      channels := t.channels
      calls := s.calls.set n { (s.call n).answeredBy x with reservations := (s.call n).reservations.filter fun y => y.1 = r } } ∧
    ∀ r' c', t.channel r' c' =
      if (r', c') ∈ (s.call n).reservations.filter (fun y => y.1 ≠ r) then none else s.channel r' c' := by
  have hcall := answered_call s n x
  have hres : ((s.answered n x).call n).reservations = (s.call n).reservations := by rw [hcall]; rfl
  have hfreed := foldl_setAside_some (n := n) ((s.call n).reservations.filter fun y => y.1 ≠ r) (s := s.answered n x)
    (by rw [hres]; exact hnodup) (fun y hy => by rw [hres]; exact List.mem_of_mem_filter hy) (hnodup.filter _)
  obtain ⟨hframe, hchannels⟩ := hfreed
  rw [hres, diff_spare hnodup, hcall] at hframe
  refine ⟨?_, hchannels⟩
  refine hframe.trans ?_
  exact congrArg (fun v => ({ s with channels := _, calls := v } : State)) (Vector.set_set ..)

/-- One of several members answers while no call waits. -/
theorem answer_several {p : Fin 4} {st : Fin 2} (hstate : (s.call n).state = .alerting) (hjoined : (s.call n).joined = none)
    (ho : (s.call n).origin = some (.station p st)) (hnew : (s.call n).lastProgress ≠ some .talk)
    (he : (s.handset r a).engaged = some n) (hmem : .handset r a ∈ (s.call n).alerted) (hheard : s.Heard (.handset r a))
    (hdel : s.deliverable (.riser r) (bareMsg (BitVec.ofNat 8 a.val) 0x12#8) = true)
    (hothers : ∀ x ∈ (s.call n).alerted.filter (· ≠ .handset r a), ∃ r' a', x = .handset r' a')
    (hnodup : (s.call n).reservations.Nodup) (hc : (s.call n).channelOn r = some c) (hs : s.NoneWaits) :
    let others := (s.call n).alerted.filter (· ≠ .handset r a)
    let out := [(LinkId.riser r, connectMsg (BitVec.ofNat 8 a.val) c.val)] ++
      others.map (fun x => (x.link, ringStopMsg x.addr .answeredElsewhere)) ++
      [(.panel p, progressMsg (BitVec.ofNat 8 st.val) .talk)]
    s.Room out →
    ∃ t, exec (.answer (.handset r a)) s = .next t ∧
      t = { s with
            links := t.links
            handsets := t.handsets
            channels := t.channels
            calls := s.calls.set n
              { (s.call n).talkingTo s.params (.handset r a) (s.call n).flatMode with
                lastProgress := some .talk, reservations := (s.call n).reservations.filter fun y => y.1 = r } } ∧
      (∀ r' c', t.channel r' c' =
        if (r', c') ∈ (s.call n).reservations.filter (fun y => y.1 ≠ r) then none else s.channel r' c') ∧
      (∀ r' a', t.handset r' a' =
        { s.handset r' a' with
          engaged := if .handset r' a' ∈ others ∧ (s.handset r' a').engaged = some n then none
                     else (s.handset r' a').engaged }) ∧
      ∀ k, t.link k =
        (silentOn (.panel p, st.val) k (silentOn (.riser r, c.val) k
          (s.taking (.riser r) (bareMsg (BitVec.ofNat 8 a.val) 0x12#8) k))).withTx (outFor k out) := by
  intro others out hroom
  obtain ⟨hframe, hchannels⟩ := sparesFreed_frame (x := .handset r a) (r := r) hnodup
  have hback := does_handsBack_quiet s hs (n := n) (.handset r a) ((s.call n).reservations.filter fun y => y.1 ≠ r)
  generalize s.sparesFreed n (.handset r a) ((s.call n).reservations.filter fun y => y.1 ≠ r) = y at hframe hchannels hback
  have hquiet : y.NoneWaits := by rw [hframe]; exact ⟨hs.seek, hs.desk, hs.watch⟩
  have hstop := does_stopMembers_quiet s (n := n) others hquiet
  have hfreed := foldl_lets y n others
  have hzframe := foldl_lets_handsets (n := n) hothers y
  have hz := does_answering (c := c) hc hback hstop
  generalize others.foldl (State.lets n) y = z at hfreed hzframe hz
  have hycall : y.call n = { (s.call n).answeredBy (.handset r a) with
      reservations := (s.call n).reservations.filter fun y => y.1 = r } := by rw [hframe]; exact setCall_call_self ..
  have hzcall : z.call n = _ := (show z.call n = y.call n by rw [hzframe]; rfl).trans hycall
  obtain ⟨t, hexec, ht, hlinks⟩ := answer_flat hstate hjoined ho hnew he hmem hheard hdel hz hzcall
    ((channelOn_filter (s.call n) r).trans hc) (by rw [hzframe, hframe]) (by rw [hzframe, hframe]; rfl) hroom
  have hhandsets : t.handsets = z.handsets := by rw [ht]
  have htchannels : t.channels = y.channels := by rw [ht, hzframe]
  have hcalls : z.calls = s.calls.set n { (s.call n).answeredBy (.handset r a) with
      reservations := (s.call n).reservations.filter fun y => y.1 = r } := by rw [hzframe, hframe]
  refine ⟨t, hexec, ?_, fun r' c' => ?_, fun r' a' => ?_, hlinks⟩
  · rw [hhandsets, htchannels]
    refine ht.trans ?_
    rw [hcalls, Vector.set_set, hzframe, hframe]
  · rw [show t.channel r' c' = y.channel r' c' from congrArg (fun v => (v[r'])[c']) htchannels]
    exact hchannels r' c'
  · have hyhandset : y.handset r' a' = s.handset r' a' := by rw [hframe]; rfl
    rw [show t.handset r' a' = z.handset r' a' from congrArg (fun v => (v[r'])[a']) hhandsets, hfreed.handsets, hyhandset]

end

end Sys2Proof.Machine
end

section
/-!
PROOF. ANSWER hands a channel or a handset to the call that waits for it (R68, R77), and the obligation O37.
-/

namespace Sys2Proof.Machine

theorem setHandset_comm (s : State) (r : Fin 8) {a b : Fin 63} (hne : a ≠ b) (h h' : Handset) :
    (s.setHandset r a h).setHandset r b h' = (s.setHandset r b h').setHandset r a h := by
  show ({ s with handsets := _ } : State) = { s with handsets := _ }
  have hrow : ∀ x y, (s.setHandset r x y).handsets[r] = s.handsets[r].set x y := fun x y => Vector.getElem_set_self ..
  rw [hrow, hrow, Vector.set_comm (xs := s.handsets[r]) (i := a) (j := b) h h' fun e => hne (Fin.ext e)]
  exact congrArg (fun v => ({ s with handsets := v } : State)) ((Vector.set_set ..).trans (Vector.set_set ..).symm)

theorem set_other_set (v : Vector CallRecord 16) {n w : CallNo} (hw : w ≠ n) (x z k : CallRecord) :
    ((v.set n x).set w k).set n z = (v.set n z).set w k := by
  rw [Vector.set_comm (xs := v.set n x) (i := w) (j := n) k z fun e => hw (Fin.ext e), Vector.set_set]

theorem setCall_order (v : Vector CallRecord 16) {n w : CallNo} (hw : w ≠ n) (x y z k : CallRecord) :
    (((v.set n x).set n y).set w k).set n z = (v.set n z).set w k := by
  rw [set_other_set (v.set n x) hw, Vector.set_set]

section
variable {s : State} {n : CallNo} {r r' : Fin 8} {a b d : Fin 63} {c c' : Fin 4} {w : CallNo} {rest : List CallNo}
  {x : Resolved}

theorem others_of_two (hne : r' ≠ r)
    (h : (s.call n).alerted = [.handset r a, .handset r' b] ∨ (s.call n).alerted = [.handset r' b, .handset r a]) :
    (s.call n).alerted.filter (· ≠ .handset r a) = [.handset r' b] := by
  have hb : Party.handset r' b ≠ .handset r a := fun e => hne (Party.handset.inj e).1
  obtain h | h := h <;> rw [h] <;> simp [hb]

theorem spare_of_two (hne : r' ≠ r) (h : (s.call n).reservations = [(r, c), (r', c')]) :
    (s.call n).reservations.filter (fun y => y.1 ≠ r) = [(r', c')] := by
  rw [h]
  simp [hne]

theorem answered_checks {y : Party} {ts : List (Fin 8 × Fin 63)} (hw : w ≠ n) (h : s.Checks w x ts) :
    (s.answered n y).call w = s.call w ∧ (s.answered n y).Checks w x ts := by
  have hcall : (s.answered n y).call w = s.call w := setCall_call_ne _ _ hw
  refine ⟨hcall, ⟨?_, ?_, h.targets, ?_, ?_⟩⟩ <;> rw [hcall]
  · exact h.active
  · exact h.resolved
  · exact h.alerted
  · exact h.reservations

theorem spare_erased {y : Party} (hne : r' ≠ r) (h : (s.call n).reservations = [(r, c), (r', c')]) :
    (r', c') ∈ ((s.answered n y).call n).reservations ∧ ((s.answered n y).call n).reservations.erase (r', c') = [(r, c)] := by
  have hres : ((s.answered n y).call n).reservations = [(r, c), (r', c')] := by rw [answered_call]; exact h
  rw [hres]
  have hx : (r, c) ≠ (r', c') := fun e => hne (congrArg Prod.fst e).symm
  refine ⟨List.mem_cons_of_mem _ (List.mem_singleton_self _), ?_⟩
  rw [List.erase_cons_tail (by simpa using hx), List.erase_cons_head]

/-- The record of a call answered by one of two members, its second channel gone. -/
def CallRecord.answeredOver (k : CallRecord) (y : Party) (rs : List (Fin 8 × Fin 4)) : CallRecord :=
  { k.answeredBy y with reservations := rs }

/-- Call `n` has handed back channel `c` of riser `r`, left with `k`; call `w` at the head of the queue rings handset `d` over it. -/
def State.passedOn (s : State) (n : CallNo) (k : CallRecord) (r : Fin 8) (c : Fin 4) (w : CallNo) (rest : List CallNo) (d : Fin 63)
    (alert : Nat) : State :=
  { ((s.setHandset r d { s.handset r d with engaged := some w }).setChannel r c (some w)) with
    seekQueues := s.seekQueues.set r rest
    calls := (s.calls.set n k).set w ((s.call w).ringing s.params alert [(r, d)] [(r, c)]) }

theorem passedOn_handset {k : CallRecord} {alert : Nat} (hne : b ≠ d) :
    (s.passedOn n k r c w rest d alert).handset r b = s.handset r b :=
  (setHandset_handset s r r d b _).trans (if_neg fun e => hne e.2)

theorem passedOn_call {k : CallRecord} {alert : Nat} (hw : w ≠ n) : (s.passedOn n k r c w rest d alert).call n = k := by
  show (State.setCall (s.setCall n k) w _).call n = k
  rw [setCall_call_ne _ _ (Ne.symm hw), setCall_call_self]

theorem does_stopMembers_handset (base : State) {z : State} (he : (z.handset r b).engaged = some n)
    (hwatch : (z.handset r b).watch = []) :
    Does base (State.stopMembers n [.handset r b]) z (z.setHandset r b { z.handset r b with engaged := none })
      [(.riser r, ringStopMsg (BitVec.ofNat 8 b.val) .answeredElsewhere)] :=
  does_stopMembers_one (x := .handset r b)
    (.pure fun L => disengage_handset_of_nil plain_full (s := z.relinked L) he hwatch)

/-- The channel of the other member goes to the call at the head of its seek queue. -/
theorem does_answering_grants (hne : r' ≠ r) (hw : w ≠ n)
    (halerted : (s.call n).alerted = [.handset r a, .handset r' b] ∨ (s.call n).alerted = [.handset r' b, .handset r a])
    (hres : (s.call n).reservations = [(r, c), (r', c')]) (he : (s.handset r' b).engaged = some n)
    (hwatch : (s.handset r' b).watch = []) (hq : s.seekQueue r' = w :: rest) (hkind : (s.call w).kind ≠ some .resident)
    (hx : s.Checks w x [(r', d)]) (hd : (s.handset r' d).Eligible) :
    Does s (State.answering n r a) s
      (((s.answered n (.handset r a)).passedOn n ((s.call n).answeredOver (.handset r a) [(r, c)]) r' c' w rest d
        x.alertTime).setHandset r' b { s.handset r' b with engaged := none })
      ((.riser r, connectMsg (BitVec.ofNat 8 a.val) c.val) :: ((s.call w).ringingOut s.params [(r', d)] ++
        [(.riser r', ringStopMsg (BitVec.ofNat 8 b.val) .answeredElsewhere)])) := by
  have hbd : b ≠ d := fun e => by
    subst e
    exact absurd (he.symm.trans hd.2.1) nofun
  obtain ⟨hcall, hx'⟩ := answered_checks (y := .handset r a) hw hx
  obtain ⟨hmem, herase⟩ := spare_erased (y := .handset r a) hne hres
  have hback := does_handBack_next (b := s) (s := s.answered n (.handset r a)) (rest := rest) hmem hq hw
    (by rw [hcall]; exact hkind) hx' hd
  rw [herase, answered_call] at hback
  have hhandset : ∀ k, ((s.answered n (.handset r a)).passedOn n k r' c' w rest d x.alertTime).handset r' b = s.handset r' b :=
    fun k => passedOn_handset (s := s.answered n (.handset r a)) hbd
  have hstop := does_stopMembers_handset s (n := n) (r := r') (b := b)
    (z := (s.answered n (.handset r a)).passedOn n ((s.call n).answeredOver (.handset r a) [(r, c)]) r' c' w rest d x.alertTime)
    (by rw [hhandset]; exact he) (by rw [hhandset]; exact hwatch)
  rw [hhandset] at hstop
  refine does_answering ?_ ?_ ?_ (z := (s.answered n (.handset r a)).passedOn n
    ((s.call n).answeredOver (.handset r a) [(r, c)]) r' c' w rest d x.alertTime)
  · rw [CallRecord.channelOn, hres, List.find?_cons_of_pos (by simp)]
    rfl
  · rw [spare_of_two hne hres, ← hcall]
    exact does_handsBack_one hback
  · rw [others_of_two hne halerted]
    exact hstop

/-- A member disengaged wakes the call at the head of its watch list, which rings it. -/
theorem does_disengage_wakes (base : State) {ch : Fin 4} (he : (s.handset r b).engaged = some n)
    (hwatch : (s.handset r b).watch = w :: rest) (hx : s.Checks w x [(r, b)]) (hpresent : (s.handset r b).present = true)
    (hquiet : (s.handset r b).quiet = false) (hch : s.FirstFree r ch) :
    Does base (·.disengage n (.handset r b)) s
      { ((s.setHandset r b { s.handset r b with engaged := some w, watch := rest }).setChannel r ch (some w)) with
        calls := s.calls.set w ((s.call w).ringing s.params x.alertTime [(r, b)] [(r, ch)]) }
      ((s.call w).ringingOut s.params [(r, b)]) := by
  let y : State := s.setHandset r b { s.handset r b with engaged := none }
  have hhandset : y.handset r b = { s.handset r b with engaged := none } := setHandset_handset_self ..
  have hy : y.Checks w x [(r, b)] := ⟨hx.active, hx.resolved, hx.targets, hx.alerted, hx.reservations⟩
  have hwakes := does_wakeHead_rings base (s := y) (by rw [hhandset]; exact hwatch) hy
    (by rw [hhandset]; exact ⟨hpresent, rfl, hquiet⟩) hch
  have hstate : y.wakesTo w r ch b x.alertTime rest =
      { ((s.setHandset r b { s.handset r b with engaged := some w, watch := rest }).setChannel r ch (some w)) with
        calls := s.calls.set w ((s.call w).ringing s.params x.alertTime [(r, b)] [(r, ch)]) } := by
    have hset : (s.setHandset r b { s.handset r b with engaged := none }).setHandset r b
        { s.handset r b with engaged := some w, watch := rest } =
        s.setHandset r b { s.handset r b with engaged := some w, watch := rest } := setHandset_setHandset ..
    rw [State.wakesTo, hhandset, ← hset]
    rfl
  rw [hstate] at hwakes
  exact hwakes.via fun L => if_pos he

/-- The other member, disengaged, wakes the call at the head of its watch list. -/
theorem does_answering_wakes {ch : Fin 4} (hne : r' ≠ r) (hw : w ≠ n)
    (halerted : (s.call n).alerted = [.handset r a, .handset r' b] ∨ (s.call n).alerted = [.handset r' b, .handset r a])
    (hres : (s.call n).reservations = [(r, c), (r', c')]) (he : (s.handset r' b).engaged = some n)
    (hwatch : (s.handset r' b).watch = w :: rest) (hq : s.seekQueue r' = []) (hx : s.Checks w x [(r', b)])
    (hpresent : (s.handset r' b).present = true) (hquiet : (s.handset r' b).quiet = false)
    (hch : (s.setChannel r' c' none).FirstFree r' ch) :
    Does s (State.answering n r a) s
      { (((s.setHandset r' b { s.handset r' b with engaged := some w, watch := rest }).setChannel r' c'
            none).setChannel r' ch (some w)) with
        calls := ((s.answered n (.handset r a)).calls.set n ((s.call n).answeredOver (.handset r a) [(r, c)])).set w
          ((s.call w).ringing s.params x.alertTime [(r', b)] [(r', ch)]) }
      ((.riser r, connectMsg (BitVec.ofNat 8 a.val) c.val) ::
        ([] ++ ((.riser r', ringStopMsg (BitVec.ofNat 8 b.val) .answeredElsewhere) ::
          (s.call w).ringingOut s.params [(r', b)]))) := by
  obtain ⟨hmem, herase⟩ := spare_erased (y := .handset r a) hne hres
  have hback := does_handBack_nil (b := s) (s := s.answered n (.handset r a)) hmem hq
  rw [herase, answered_call] at hback
  let z : State := ((s.answered n (.handset r a)).setChannel r' c' none).setCall n
    ((s.call n).answeredOver (.handset r a) [(r, c)])
  have hcall : z.call w = s.call w := (setCall_call_ne _ _ hw).trans (setCall_call_ne _ _ hw)
  have hz : z.Checks w x [(r', b)] := by
    refine ⟨?_, ?_, hx.targets, ?_, ?_⟩ <;> rw [hcall]
    · exact hx.active
    · exact hx.resolved
    · exact hx.alerted
    · exact hx.reservations
  have hwakes := does_disengage_wakes s (s := z) (n := n) he hwatch hz hpresent hquiet hch
  rw [hcall] at hwakes
  refine does_answering ?_ ?_ ?_ (z := z)
  · rw [CallRecord.channelOn, hres, List.find?_cons_of_pos (by simp)]
    rfl
  · rw [spare_of_two hne hres]
    exact does_handsBack_one hback
  · rw [others_of_two hne halerted]
    exact does_stopMembers_one (x := .handset r' b) hwakes

end

end Sys2Proof.Machine
end

section
/-!
PROOF. The obligation O37: ANSWER connects the call.
-/

namespace Sys2Proof.Machine

/-- Before the step: an ENTRANCE call in ALERTING that handset `a` answers. -/
structure State.FlatAnswered (s : State) (n : CallNo) (p : Fin 4) (st : Fin 2) (r : Fin 8) (a : Fin 63) : Prop where
  state : (s.call n).state = .alerting
  joined : (s.call n).joined = none
  origin : (s.call n).origin = some (.station p st)
  untold : (s.call n).lastProgress ≠ some .talk
  engaged : (s.handset r a).engaged = some n
  member : .handset r a ∈ (s.call n).alerted
  heard : s.Heard (.handset r a)
  delivers : s.deliverable (.riser r) (bareMsg (BitVec.ofNat 8 a.val) 0x12#8) = true

/-- ANSWER of handset `a` brings its call into TALKING, leaves `u` but for the links, and sends `out`. -/
def State.ConnectsTo (s u : State) (p : Fin 4) (st : Fin 2) (r : Fin 8) (a : Fin 63) (c : Fin 4)
    (out : List (LinkId × Message)) : Prop :=
  s.Room out →
  ∃ t, exec (.answer (.handset r a)) s = .next t ∧ t = { u with links := t.links } ∧
    ∀ k, t.link k =
      (silentOn (.panel p, st.val) k (silentOn (.riser r, c.val) k
        (s.taking (.riser r) (bareMsg (BitVec.ofNat 8 a.val) 0x12#8) k))).withTx (outFor k out)

section
variable {s : State} {n : CallNo} {p : Fin 4} {st : Fin 2} {r r' : Fin 8} {a b d : Fin 63} {c c' : Fin 4} {w : CallNo}
  {rest : List CallNo} {x : Resolved}

theorem State.FlatAnswered.connects (h : s.FlatAnswered n p st r a) {z : State} {rs : List (Fin 8 × Fin 4)}
    {out : List (LinkId × Message)} (hz : Does s (State.answering n r a) s z out)
    (hcall : z.call n = { (s.call n).answeredBy (.handset r a) with reservations := rs })
    (hc : CallRecord.channelOn { s.call n with reservations := rs } r = some c) (hparams : z.params = s.params)
    (hpending : z.maskedPending = s.maskedPending) :
    s.ConnectsTo
      { z with
        calls := z.calls.set n
          { (s.call n).talkingTo s.params (.handset r a) (s.call n).flatMode with
            lastProgress := some .talk, reservations := rs } } p st r a c
      (out ++ [(.panel p, progressMsg (BitVec.ofNat 8 st.val) .talk)]) := fun hroom =>
  answer_flat h.state h.joined h.origin h.untold h.engaged h.member h.heard h.delivers hz hcall hc hparams hpending hroom

theorem State.ConnectsTo.congr {u v : State} {out out' : List (LinkId × Message)} (h : s.ConnectsTo u p st r a c out)
    (hu : u = v) (hout : out = out') : s.ConnectsTo v p st r a c out' := hu ▸ hout ▸ h

/-- The one member of a call answers. -/
theorem answer_alone (h : s.FlatAnswered n p st r a) (halerted : (s.call n).alerted = [.handset r a])
    (hres : (s.call n).reservations = [(r, c)]) :
    s.ConnectsTo
      { s with
        calls := s.calls.set n
          { (s.call n).talkingTo s.params (.handset r a) (s.call n).flatMode with lastProgress := some .talk } } p st r a c
      [(.riser r, connectMsg (BitVec.ofNat 8 a.val) c.val), (.panel p, progressMsg (BitVec.ofNat 8 st.val) .talk)] := by
  have hsame : ∀ rs, rs = (s.call n).reservations →
      (s.call n).answeredBy (.handset r a) = { (s.call n).answeredBy (.handset r a) with reservations := rs } := by
    rintro _ rfl; rfl
  refine (h.connects (does_answering_alone s halerted hres) ((answered_call ..).trans (hsame _ rfl)) (channelOn_only hres) rfl
    rfl).congr ?_ rfl
  exact congrArg (fun v => ({ s with calls := v } : State)) (Vector.set_set ..)

/-- One of two members answers, and the other's channel goes to the call at the head of its seek queue. -/
theorem answer_grants (h : s.FlatAnswered n p st r a) (hne : r' ≠ r) (hw : w ≠ n)
    (halerted : (s.call n).alerted = [.handset r a, .handset r' b] ∨ (s.call n).alerted = [.handset r' b, .handset r a])
    (hres : (s.call n).reservations = [(r, c), (r', c')]) (he : (s.handset r' b).engaged = some n)
    (hwatch : (s.handset r' b).watch = []) (hq : s.seekQueue r' = w :: rest) (hkind : (s.call w).kind ≠ some .resident)
    (hx : s.Checks w x [(r', d)]) (hd : (s.handset r' d).Eligible) :
    s.ConnectsTo
      { (((s.setHandset r' b { s.handset r' b with engaged := none }).setHandset r' d
          { s.handset r' d with engaged := some w }).setChannel r' c' (some w)) with
        seekQueues := s.seekQueues.set r' rest
        calls := (s.calls.set n { (s.call n).talkingTo s.params (.handset r a) (s.call n).flatMode with
          lastProgress := some .talk, reservations := [(r, c)] }).set w
            ((s.call w).ringing s.params x.alertTime [(r', d)] [(r', c')]) } p st r a c
      ([(.riser r, connectMsg (BitVec.ofNat 8 a.val) c.val)] ++ (s.call w).ringingOut s.params [(r', d)] ++
        [(.riser r', ringStopMsg (BitVec.ofNat 8 b.val) .answeredElsewhere),
          (.panel p, progressMsg (BitVec.ofNat 8 st.val) .talk)]) := by
  have hdb : d ≠ b := fun e => by
    subst e
    exact absurd (he.symm.trans hd.2.1) nofun
  refine (h.connects (does_answering_grants hne hw halerted hres he hwatch hq hkind hx hd) (passedOn_call (rest := rest) hw)
    (channelOn_only rfl) rfl rfl).congr ?_ (by simp)
  have hcall : (s.answered n (.handset r a)).call w = s.call w := setCall_call_ne _ _ hw
  rw [setHandset_comm s r' hdb.symm]
  rw [State.passedOn, hcall]
  exact congrArg (fun v => ({ (((s.setHandset r' d { s.handset r' d with engaged := some w }).setHandset r' b
      { s.handset r' b with engaged := none }).setChannel r' c' (some w)) with
    seekQueues := s.seekQueues.set r' rest, calls := v } : State)) (setCall_order s.calls hw ..)

/-- One of two members answers, and the other wakes the call at the head of its watch list. -/
theorem answer_wakes {ch : Fin 4} (h : s.FlatAnswered n p st r a) (hne : r' ≠ r) (hw : w ≠ n)
    (halerted : (s.call n).alerted = [.handset r a, .handset r' b] ∨ (s.call n).alerted = [.handset r' b, .handset r a])
    (hres : (s.call n).reservations = [(r, c), (r', c')]) (he : (s.handset r' b).engaged = some n)
    (hwatch : (s.handset r' b).watch = w :: rest) (hq : s.seekQueue r' = []) (hx : s.Checks w x [(r', b)])
    (hpresent : (s.handset r' b).present = true) (hquiet : (s.handset r' b).quiet = false)
    (hch : (s.setChannel r' c' none).FirstFree r' ch) :
    s.ConnectsTo
      { (((s.setHandset r' b { s.handset r' b with engaged := some w, watch := rest }).setChannel r' c'
          none).setChannel r' ch (some w)) with
        calls := (s.calls.set n { (s.call n).talkingTo s.params (.handset r a) (s.call n).flatMode with
          lastProgress := some .talk, reservations := [(r, c)] }).set w
            ((s.call w).ringing s.params x.alertTime [(r', b)] [(r', ch)]) } p st r a c
      ([(.riser r, connectMsg (BitVec.ofNat 8 a.val) c.val),
        (.riser r', ringStopMsg (BitVec.ofNat 8 b.val) .answeredElsewhere)] ++ (s.call w).ringingOut s.params [(r', b)] ++
          [(.panel p, progressMsg (BitVec.ofNat 8 st.val) .talk)]) := by
  have hcall : ∀ k v : CallRecord, State.call
      { s with calls := ((s.answered n (.handset r a)).calls.set n k).set w v } n = k := fun k v => by
    show (State.setCall ({ s with calls := (s.answered n (.handset r a)).calls.set n k } : State) w v).call n = k
    rw [setCall_call_ne _ _ (Ne.symm hw)]
    exact Vector.getElem_set_self ..
  refine (h.connects (does_answering_wakes hne hw halerted hres he hwatch hq hx hpresent hquiet hch) (hcall _ _)
    (channelOn_only rfl) rfl rfl).congr ?_ (by simp)
  exact congrArg (fun v => ({ (((s.setHandset r' b { s.handset r' b with engaged := some w, watch := rest }).setChannel r' c'
      none).setChannel r' ch (some w)) with calls := v } : State)) (setCall_order s.calls hw ..)

end

/-- Settles O37: each kind of answered call is brought to the one rule for a call that enters TALKING (`Runs.talks`). -/
theorem answerConnectsTheCall : Obligations.AnswerConnectsTheCall := by
  intro s n hstate hjoined talking flatMode silent linked
  refine ⟨fun p st r a c ho hnew he hheard hdel => ?_, fun q he halerted hdel => ?_,
    fun r a c q ho he hheard halerted hres hdel => ?_⟩
  · intro m connect talk told
    have hflat : .handset r a ∈ (s.call n).alerted → s.FlatAnswered n p st r a := fun hmem =>
      ⟨hstate, hjoined, ho, hnew, he, hmem, hheard, hdel⟩
    refine ⟨fun halerted hres hroom => ?_, ?_, ?_⟩
    · exact answer_alone (hflat (by rw [halerted]; exact List.mem_singleton_self _)) halerted hres hroom
    · intro others spare out hmem hothers hnodup hc halone hnowhere hroom
      exact answer_several hstate hjoined ho hnew he hmem hheard hdel hothers hnodup hc (noneWaits_of halone hnowhere) hroom
    · intro r' b d c' w rest x hne hw halerted hres he' hnowhere hx hts hal hrs hpresent hquiet stop rings rung calls is
      have hmem : .handset r a ∈ (s.call n).alerted := by obtain h | h := halerted <;> rw [h] <;> simp
      refine ⟨fun hseeking hkind hq hfree hwatch => ?_, fun ch hcamped hd hwatch hq hch => ?_⟩
      · exact answer_grants (hflat hmem) hne hw halerted hres he' hwatch hq hkind (checks_of_seeking hseeking hx hts hal hrs)
          ⟨hpresent, hfree, hquiet⟩
      · subst hd
        exact answer_wakes (hflat hmem) hne hw halerted hres he' hwatch hq ⟨by rw [hcamped]; exact nofun, hx, hts, hal, hrs⟩
          hpresent hquiet hch
  · intro m connect
    refine ⟨fun p st ho hnew => ?_, fun r a c ho hc => ?_⟩
    · intro out hroom
      exact answer_desk_station hstate hjoined he halerted ho hnew hdel hroom
    · intro out hroom
      exact answer_desk_handset hstate hjoined he halerted ho hc hdel hroom
  · intro out hroom
    exact answer_of_position hstate hjoined ho he hheard halerted hres hdel hroom

end Sys2Proof.Machine
end

section
/-!
PROOF. The second part of O14 fails: a call may ring the very position that is its origin, and ring another one after it.
-/

namespace Sys2Proof.Machine

/-- A call for the desk, made by position 0, that rings position 0. -/
def ownRinger : CallRecord :=
  { CallRecord.blank with
    state := .alerting, kind := some .desk, origin := some (.position 0), resolved := some (deskCopy true [])
    alerted := [.position 0], stateCount := some ⟨.deskRing, 0⟩ }

/-- Call 0 rings its own origin, its desk ring timer has run out, and position 1 is free. -/
def ownRinging : State :=
  { (((State.reset.setPosition 0 ⟨true, some 0⟩).setPosition 1 ⟨true, none⟩).setCall 0 ownRinger) with
    idleOrder := [1], pending := [.deskRingExpiry 0] }

theorem ownRinging_call (n : CallNo) : ownRinging.call n = if n = 0 then ownRinger else CallRecord.blank :=
  (setCall_call ((State.reset.setPosition 0 ⟨true, some 0⟩).setPosition 1 ⟨true, none⟩) 0 n ownRinger).trans
    (if_congr Iff.rfl rfl (reset_call n))

theorem ownRinging_position (q : Fin 6) :
    ownRinging.position q =
      if q = 1 then ⟨true, none⟩ else if q = 0 then ⟨true, some 0⟩ else ⟨false, none⟩ := by
  revert q; decide +kernel

theorem ownRinging_engagedBy (x : Party) : ownRinging.engagedBy x = if x = .position 0 then some 0 else none := by
  cases x with
  | station p st => exact reset_engagedBy (.station p st)
  | handset r a => exact reset_engagedBy (.handset r a)
  | position q =>
    show (ownRinging.position q).engaged = _
    rw [ownRinging_position]
    revert q; decide

theorem ownRinging_idleRecordsBlank : IdleRecordsBlank ownRinging := fun n h => by
  rw [ownRinging_call] at h ⊢
  split at h
  next => exact nomatch h
  next hn => rw [if_neg hn]

theorem ownRinging_seekQueue (r : Fin 8) : ownRinging.seekQueue r = [] := reset_seekQueue r

theorem ownRinging_watch (r : Fin 8) (a : Fin 63) : (ownRinging.handset r a).watch = [] :=
  congrArg Handset.watch (reset_handset r a)

/-- Each record is IDLE or in ALERTING. -/
theorem ownRinging_state (n : CallNo) : (ownRinging.call n).state = .idle ∨ (ownRinging.call n).state = .alerting := by
  rw [ownRinging_call]
  split
  · exact .inr rfl
  · exact .inl rfl

theorem ownRinging_placesMatch : PlacesMatch ownRinging where
  seeking n := iff_of_false (by obtain h | h := ownRinging_state n <;> rw [h] <;> exact nofun)
    fun ⟨r, hr⟩ => by rw [ownRinging_seekQueue] at hr; exact nomatch hr
  queued n := iff_of_false (by obtain h | h := ownRinging_state n <;> rw [h] <;> exact nofun) nofun
  camped n := iff_of_false (by obtain h | h := ownRinging_state n <;> rw [h] <;> exact nofun)
    fun ⟨r, a, ha⟩ => by rw [ownRinging_watch] at ha; exact nomatch ha
  oneQueue n r r' h := by rw [ownRinging_seekQueue] at h; exact nomatch h
  oneList n r a r' a' h := by rw [ownRinging_watch] at h; exact nomatch h
  once := ⟨fun r => by rw [ownRinging_seekQueue]; exact .nil, .nil, fun r a => by rw [ownRinging_watch]; exact .nil⟩
  targets n := by obtain h | h := ownRinging_state n <;> simp only [h]

theorem ownRinging_engagementsMatch : EngagementsMatch ownRinging where
  engaged x n := by
    rw [ownRinging_engagedBy, ownRinging_call]
    by_cases hn : n = 0
    · subst hn
      simp [ownRinger, CallRecord.parties, CallRecord.blank]
    · rw [if_neg hn]
      refine iff_of_false (fun h => ?_) fun h => h.1 rfl
      split at h
      next => exact hn (Option.some.inj h).symm
      next => exact nomatch h
  roles n := by
    rw [ownRinging_call]
    split
    · exact ⟨fun _ => nofun, fun h => absurd rfl h, iff_of_false nofun (fun h => h rfl), fun _ => rfl,
        fun _ => .inl ⟨⟨deskCopy true [], rfl, rfl⟩, 0, rfl⟩⟩
    · exact ⟨fun h => absurd rfl h, fun _ => rfl, iff_of_false nofun (fun h => h rfl), fun _ => rfl, nofun⟩
  idleOrder q := by
    rw [ownRinging_position]
    show q ∈ [(1 : Fin 6)] ↔ _
    revert q; decide
  exclusive := .inr rfl

theorem ownRinging_markersFirst : MarkersFirst ownRinging where
  first l := by
    show _ ∉ (State.reset.link l).rx.tail
    rw [reset_link]; exact nofun
  riser r h := by
    change (State.reset.link (.riser r)).rx.head? = _ at h
    rw [reset_link] at h; exact nomatch h
  trunk h := by
    change (State.reset.link .trunk).rx.head? = _ at h
    rw [reset_link] at h; exact nomatch h
  held q hoff he := by
    rw [ownRinging_position] at hoff he
    exact absurd hoff (by revert he; revert q; decide)

/-- The state after: call 0 rings position 1, and its origin, position 0, is free. -/
def ownRung : State := State.event { ownRinging with pending := [] } (State.deskRingExpires 0)

theorem ownRung_broken :
    (ownRung.call 0).state = .alerting ∧ .position 0 ∈ (ownRung.call 0).parties ∧
      ownRung.engagedBy (.position 0) = none := by decide +kernel

/-- Refutes O14, in its second part (the first holds: `step_partiesBounded`). Nothing in the hypotheses keeps a call for the desk
from ringing the position that is its own origin. When that desk ring expires the position is disengaged (R16), another one is
rung, and the origin is a party of a call that engages it no longer. No run from power-on makes such a record: the calls that
positions make are for flats. -/
theorem not_partiesStayBounded : ¬ Obligations.PartiesStayBounded := by
  intro h
  obtain ⟨hstate, hparty, hfree⟩ := ownRung_broken
  have hstep : step ownRinging = .next ownRung := rfl
  obtain ⟨-, hengaged, -⟩ := (h ownRinging ownRung hstep).2 ownRinging_idleRecordsBlank ownRinging_placesMatch
    ownRinging_engagementsMatch ownRinging_markersFirst
  have hactive : (ownRung.call 0).state ≠ .idle := by rw [hstate]; exact nofun
  have hheld : ownRung.engagedBy (.position 0) = some 0 := (hengaged.engaged (.position 0) 0).mpr ⟨hactive, hparty⟩
  exact absurd (hfree.symm.trans hheld) nofun

end Sys2Proof.Machine
end

section
/-!
PROOF. A clearing that wakes one call that waits (R27, R52, R68, R77, R88), in closed form.
-/

namespace Sys2Proof.Machine

theorem does_handBackAll_one {b s y : State} {n : CallNo} {x : Fin 8 × Fin 4} {out : List (LinkId × Message)}
    (hres : (s.call n).reservations = [x]) (h : Does b (·.handBack n x) s y out) :
    Does b (·.handBackAllWith .full n) s y out :=
  h.via fun L => by
    have hres' : ((s.relinked L).call n).reservations = [x] := hres
    rw [State.handBackAllWith, hres']
    rfl

theorem does_handBackAll_nil (b : State) {s : State} {n : CallNo} (hres : (s.call n).reservations = []) :
    Does b (·.handBackAllWith .full n) s s [] := .pure fun L => by
  have hres' : ((s.relinked L).call n).reservations = [] := hres
  rw [State.handBackAllWith, hres']
  rfl

/-- A call between its station and one other party, with no member alerted and nobody joined. -/
structure CallRecord.Between (c : CallRecord) (p : Fin 4) (st : Fin 2) (x : Party) : Prop where
  origin : c.origin = some (.station p st)
  answerer : c.answerer = some x
  alerted : c.alerted = []
  joined : c.joined = none

theorem CallRecord.Between.parties {c : CallRecord} {p : Fin 4} {st : Fin 2} {x : Party} (h : c.Between p st x) :
    c.parties = [x, .station p st] := by
  rw [CallRecord.parties, h.origin, h.answerer, h.alerted, h.joined]
  rfl

/-- The record that call `n` leaves when it clears. -/
def CallRecord.gone (c : CallRecord) (cause : Cause) : CallRecord :=
  { CallRecord.blank with lastCause := some cause, releases := c.releases }

/-- A call that has given up all it held, and stands nowhere, has nothing more to give up. -/
theorem giveUp_of_given {s : State} {n : CallNo} (hres : (s.call n).reservations = [])
    (hparties : ∀ x ∈ (s.call n).parties, s.engagedBy x ≠ some n) : s.giveUpWith .full n = s := by
  have hback : s.handBackAllWith .full n = s := by rw [State.handBackAllWith, hres]; rfl
  have hfold : ∀ xs : List Party, (∀ x ∈ xs, s.engagedBy x ≠ some n) → xs.foldl (State.disengageWith .full n) s = s := by
    intro xs
    induction xs with
    | nil => exact fun _ => rfl
    | cons x xs ih =>
      intro h
      rw [List.foldl_cons, show s.disengageWith .full n x = s from if_neg (h x List.mem_cons_self)]
      exact ih fun y hy => h y (List.mem_cons_of_mem _ hy)
  rw [State.giveUpWith, hback]
  exact hfold _ hparties

/-- Call `n` clears, its channels handed back to `y`, the party at its other end let go to `z`. -/
theorem does_clear_between {b s y z : State} {n : CallNo} {p : Fin 4} {st : Fin 2} {x : Party} {out out' : List (LinkId × Message)}
    (cause : Cause) (hactive : (s.call n).state ≠ .idle) (hc : (s.call n).Between p st x) (hx : Party.isStation x = false)
    (hback : Does b (·.handBackAllWith .full n) s y out) (hy : y.call n = { s.call n with reservations := [] })
    (hlets : Does b (·.disengage n x) y z out') (hz : z.call n = { s.call n with reservations := [] })
    (hstation : z.station p st = some n) (hfreed : z.engagedBy x ≠ some n) (hnowhere : z.StandsNowhere n)
    (hmode : z.mode ≠ .draining) :
    Does b (·.clear n cause) s ((z.setStation p st none).setCall n ((s.call n).gone cause))
      (b.reached ((s.call n).clearingOut cause) ++ (out ++ out')) := by
  intro L pre hL hroom
  rw [← List.append_assoc, ← List.append_assoc] at hroom ⊢
  have hput := does_putAll b s ((s.call n).clearingOut cause) L pre hL (room_of_append_left (room_of_append_left hroom))
  have hgiven := hback L _ hL (room_of_append_left hroom)
  have hlet := hlets L _ hL hroom
  change State.putAll _ _ = _ at hput
  change State.handBackAllWith _ _ _ = _ at hgiven
  change State.disengageWith _ _ _ _ = _ at hlet
  have hparties : ((((y.relinked L).sent (pre ++ b.reached ((s.call n).clearingOut cause) ++ out)).call n)).parties =
      [x, .station p st] := by
    show (y.call n).parties = _
    rw [hy]
    exact hc.parties
  have hend : ∀ Z : State, Z = (z.relinked L).sent (pre ++ b.reached ((s.call n).clearingOut cause) ++ out ++ out') →
      (((Z.disengage n (.station p st)).leavePlaces n).giveUpWith .full n).retire n cause (s.call n).releases =
        (Z.setStation p st none).setCall n ((s.call n).gone cause) := by
    rintro Z rfl
    generalize hS : (z.relinked L).sent (pre ++ b.reached ((s.call n).clearingOut cause) ++ out ++ out') = Z
    have hlet' : Z.disengage n (.station p st) = Z.setStation p st none := by subst hS; exact if_pos hstation
    have hcallZ : (Z.setStation p st none).call n = { s.call n with reservations := [] } := by subst hS; exact hz
    have hnow : (Z.setStation p st none).StandsNowhere n := by subst hS; exact hnowhere
    have hfree : ∀ k ∈ ((Z.setStation p st none).call n).parties, (Z.setStation p st none).engagedBy k ≠ some n := by
      intro k hk
      rw [hcallZ] at hk
      have hk' : k ∈ [x, .station p st] := hc.parties ▸ hk
      obtain rfl | hk' := List.mem_cons.mp hk'
      · have hkept : (Z.setStation p st none).engagedBy k = z.engagedBy k := by
          subst hS
          cases k with
          | station p' st' => exact nomatch hx
          | handset r a => rfl
          | position q => rfl
        rw [hkept]; exact hfreed
      · obtain rfl := List.mem_singleton.mp hk'
        show (Z.setStation p st none).station p st ≠ some n
        rw [setStation_station, if_pos ⟨rfl, rfl⟩]
        exact nofun
    have hmode' : ((Z.setStation p st none).setCall n ((s.call n).gone cause)).mode ≠ .draining := by subst hS; exact hmode
    rw [hlet', leavePlaces_of_standsNowhere hnow, giveUp_of_given (by rw [hcallZ]) hfree]
    exact endDrain_of_mode hmode'
  have hgive : State.giveUpWith .full (((s.relinked L).sent pre).putAll ((s.call n).clearingOut cause)) n =
      State.disengage ((z.relinked L).sent (pre ++ b.reached ((s.call n).clearingOut cause) ++ out ++ out')) n
        (.station p st) := by
    rw [hput, State.giveUpWith, hgiven, hparties]
    exact congrArg (State.disengage · n (.station p st)) hlet
  show State.clearWith .full _ n cause = _
  rw [clearWith_of_active (show (((s.relinked L).sent pre).call n).state ≠ .idle from hactive), State.clearing, clearMessages_eq]
  show State.retire (State.giveUpWith _ (State.leavePlaces (State.giveUpWith .full
    (((s.relinked L).sent pre).putAll ((s.call n).clearingOut cause)) n) n) n) n cause (s.call n).releases = _
  rw [hgive, hend _ rfl]
  rfl

end Sys2Proof.Machine
end

section
/-!
PROOF. What the clearing of a call between a station and one other party brings to the call that waits for what it gives up, in
closed form (O39).
-/

namespace Sys2Proof.Machine

/-- Before the clearing: call `n` is between station `st` and one other party, stands nowhere, and no drain waits for it. -/
structure State.Clearable (s : State) (n : CallNo) (p : Fin 4) (st : Fin 2) (x : Party) : Prop where
  active : (s.call n).state ≠ .idle
  between : (s.call n).Between p st x
  station : s.station p st = some n
  nowhere : s.StandsNowhere n
  mode : s.mode ≠ .draining

theorem checks_of_call_eq {s z : State} {m : CallNo} {x : Resolved} {ts : List (Fin 8 × Fin 63)} (hcall : z.call m = s.call m)
    (h : s.Checks m x ts) : z.Checks m x ts := by
  refine ⟨?_, ?_, h.targets, ?_, ?_⟩ <;> rw [hcall]
  · exact h.active
  · exact h.resolved
  · exact h.alerted
  · exact h.reservations

section
variable {s : State} {n m : CallNo} {p : Fin 4} {st : Fin 2} {r : Fin 8} {a b : Fin 63} {c ch : Fin 4} {x : Resolved}
  {rest : List CallNo}

theorem Does.to_state {b s u v : State} {f : State → State} {out : List (LinkId × Message)} (h : Does b f s u out)
    (hu : u = v) : Does b f s v out := hu ▸ h

theorem does_disengage_quiet (base : State) {z : State} (he : (z.handset r a).engaged = some n)
    (hwatch : (z.handset r a).watch = []) :
    Does base (·.disengage n (.handset r a)) z (z.setHandset r a { z.handset r a with engaged := none }) [] :=
  .pure fun L => disengage_handset_of_nil plain_full (s := z.relinked L) he hwatch

/-- A call stays off every place under what writes the engagements of a riser's handsets alone. -/
theorem standsNowhere_of_eq {z : State} (h : s.StandsNowhere n) (hseek : ∀ r', n ∈ z.seekQueue r' → n ∈ s.seekQueue r')
    (hdesk : n ∈ z.deskQueue → n ∈ s.deskQueue) (hwatch : ∀ r' a', n ∈ (z.handset r' a').watch → n ∈ (s.handset r' a').watch) :
    z.StandsNowhere n :=
  ⟨fun r' hn => h.1 r' (hseek r' hn), fun hn => h.2.1 (hdesk hn), fun r' a' hn => h.2.2 r' a' (hwatch r' a' hn)⟩

theorem setHandset_watch {h : Handset} {r' : Fin 8} {a' : Fin 63} (hw : n ∈ h.watch → n ∈ (s.handset r a).watch)
    (hn : n ∈ ((s.setHandset r a h).handset r' a').watch) : n ∈ (s.handset r' a').watch := by
  rw [setHandset_handset] at hn
  split at hn
  next e =>
    obtain ⟨rfl, rfl⟩ := e
    exact hw hn
  next => exact hn

theorem passedOn_standsNowhere {k : CallRecord} {alert : Nat} (h : s.StandsNowhere n) (hq : s.seekQueue r = m :: rest) :
    (s.passedOn n k r c m rest b alert).StandsNowhere n := by
  refine standsNowhere_of_eq h (fun r' hn => ?_) id fun r' a' hn => setHandset_watch (s := s)
    (h := { s.handset r b with engaged := some m }) id hn
  change n ∈ (s.setSeekQueue r rest).seekQueue r' at hn
  rw [setSeekQueue_seekQueue] at hn
  split at hn
  next e => subst e; rw [hq]; exact List.mem_cons_of_mem _ hn
  next => exact hn

/-- The channel goes to the call at the head of its seek queue (R77). -/
theorem does_clear_grants (base : State) (cause : Cause) (h : s.Clearable n p st (.handset r a)) (hm : m ≠ n)
    (hres : (s.call n).reservations = [(r, c)]) (he : (s.handset r a).engaged = some n) (hwatch : (s.handset r a).watch = [])
    (hq : s.seekQueue r = m :: rest) (hkind : (s.call m).kind ≠ some .resident) (hx : s.Checks m x [(r, b)])
    (hb : (s.handset r b).Eligible) :
    Does base (·.clear n cause) s
      { ((((s.setStation p st none).setHandset r a { s.handset r a with engaged := none }).setHandset r b
          { s.handset r b with engaged := some m }).setChannel r c (some m)) with
        seekQueues := s.seekQueues.set r rest
        calls := (s.calls.set n ((s.call n).gone cause)).set m ((s.call m).ringing s.params x.alertTime [(r, b)] [(r, c)]) }
      (base.reached ((s.call n).clearingOut cause) ++ (s.call m).ringingOut s.params [(r, b)]) := by
  have hab : a ≠ b := fun e => by
    subst e
    exact absurd (he.symm.trans hb.2.1) nofun
  have hback := does_handBack_next (b := base) (s := s) (c := c) (rest := rest) (by rw [hres]; exact List.mem_singleton_self _)
    hq hm hkind hx hb
  rw [hres, List.erase_cons_head] at hback
  let k : CallRecord := { s.call n with reservations := [] }
  let y : State := s.passedOn n k r c m rest b x.alertTime
  have hhandset : y.handset r a = s.handset r a := passedOn_handset hab
  have hcall : y.call n = k := passedOn_call (rest := rest) hm
  have hlets := does_disengage_quiet base (z := y) (by rw [hhandset]; exact he) (by rw [hhandset]; exact hwatch)
  rw [hhandset] at hlets
  have hfreed : (y.setHandset r a { s.handset r a with engaged := none }).engagedBy (.handset r a) ≠ some n := by
    show ((y.setHandset r a { s.handset r a with engaged := none }).handset r a).engaged ≠ _
    rw [setHandset_handset_self]
    exact nofun
  have hnowhere : (y.setHandset r a { s.handset r a with engaged := none }).StandsNowhere n :=
    standsNowhere_of_eq (passedOn_standsNowhere h.nowhere hq) (fun _ => id) id
      fun r' a' => setHandset_watch (s := y) (by rw [hhandset]; exact id)
  have hdone := does_clear_between (y := y) cause h.active h.between rfl (does_handBackAll_one hres hback) hcall hlets hcall
    h.station hfreed hnowhere h.mode
  rw [List.append_nil] at hdone
  refine Does.to_state hdone ?_
  rw [setHandset_comm _ r hab]
  exact congrArg (fun v => ({ ((((s.setStation p st none).setHandset r b { s.handset r b with engaged := some m }).setHandset r a
      { s.handset r a with engaged := none }).setChannel r c (some m)) with
    seekQueues := s.seekQueues.set r rest, calls := v } : State)) (set_other_set s.calls hm ..)

/-- The handset wakes the call at the head of its watch list (R68). -/
theorem does_clear_wakes (base : State) (cause : Cause) (h : s.Clearable n p st (.handset r a)) (hm : m ≠ n)
    (hres : (s.call n).reservations = [(r, c)]) (he : (s.handset r a).engaged = some n)
    (hwatch : (s.handset r a).watch = m :: rest) (hq : s.seekQueue r = []) (hx : s.Checks m x [(r, a)])
    (hpresent : (s.handset r a).present = true) (hquiet : (s.handset r a).quiet = false)
    (hch : (s.setChannel r c none).FirstFree r ch) :
    Does base (·.clear n cause) s
      { ((((s.setStation p st none).setHandset r a { s.handset r a with engaged := some m, watch := rest }).setChannel r c
          none).setChannel r ch (some m)) with
        calls := (s.calls.set n ((s.call n).gone cause)).set m ((s.call m).ringing s.params x.alertTime [(r, a)] [(r, ch)]) }
      (base.reached ((s.call n).clearingOut cause) ++ (s.call m).ringingOut s.params [(r, a)]) := by
  have hback := does_handBack_nil (b := base) (s := s) (c := c) (by rw [hres]; exact List.mem_singleton_self _) hq
  rw [hres, List.erase_cons_head] at hback
  let k : CallRecord := { s.call n with reservations := [] }
  let y : State := (s.setChannel r c none).setCall n k
  have hcall : y.call m = s.call m := setCall_call_ne _ _ hm
  have hlets := does_disengage_wakes base (s := y) (n := n) he hwatch (checks_of_call_eq hcall hx) hpresent hquiet hch
  rw [hcall] at hlets
  have hgone : State.call (y.setCall m ((s.call m).ringing s.params x.alertTime [(r, a)] [(r, ch)])) n = k := by
    show (State.setCall (s.setCall n k) m _).call n = k
    rw [setCall_call_ne _ _ (Ne.symm hm), setCall_call_self]
  have hdone := does_clear_between (y := y) cause h.active h.between rfl (does_handBackAll_one hres hback) (setCall_call_self ..)
    hlets hgone h.station
    (by
      show ((State.setHandset _ r a _).handset r a).engaged ≠ _
      rw [setHandset_handset_self]
      exact fun e => hm (Option.some.inj e))
    (standsNowhere_of_eq h.nowhere (fun _ => id) id fun r' a' => setHandset_watch (s := s) (r := r) (a := a)
      (fun hn => by rw [hwatch]; exact List.mem_cons_of_mem _ hn))
    h.mode
  rw [List.nil_append] at hdone
  refine Does.to_state hdone ?_
  exact congrArg (fun v => ({ ((((s.setStation p st none).setHandset r a
      { s.handset r a with engaged := some m, watch := rest }).setChannel r c none).setChannel r ch (some m)) with
    calls := v } : State)) (set_other_set s.calls hm ..)

/-- The position wakes the call at the head of the desk queue (R88). -/
theorem does_clear_wakesDesk (base : State) (cause : Cause) {q : Fin 6} {f : Nat} {held : Bool}
    (h : s.Clearable n p st (.position q)) (hm : m ≠ n) (hres : (s.call n).reservations = [])
    (he : (s.position q).engaged = some n) (hon : (s.position q).loggedOn = true) (horder : s.idleOrder = [])
    (hdesk : s.deskQueue = m :: rest) (hactive : (s.call m).state ≠ .idle)
    (hwait : (s.call m).waitCount = some ⟨.deskWait, f, held⟩) :
    Does base (·.clear n cause) s
      { ((s.setStation p st none).setPosition q { s.position q with engaged := some m }) with
        deskQueue := rest
        calls := (s.calls.set n ((s.call n).gone cause)).set m ((s.call m).ringingDesk s.params q) }
      (base.reached ((s.call n).clearingOut cause) ++ (s.call m).deskOut m q) := by
  have hwakes := does_wakeDesk base (s := s.returned q) (q := q) (rest := []) hdesk hactive
    (by show s.idleOrder ++ [q] = _; rw [horder]; rfl) List.not_mem_nil
  have hstate : State.ringsDesk { s.returned q with deskQueue := rest } m q [] =
      { (s.setPosition q { s.position q with engaged := some m }) with
        deskQueue := rest
        calls := s.calls.set m ((s.call m).ringingDesk s.params q) } := by
    have hback : (s.setPosition q { s.position q with engaged := none }).setPosition q
        { (s.setPosition q { s.position q with engaged := none }).position q with engaged := some m } =
        s.setPosition q { s.position q with engaged := some m } := by
      rw [setPosition_position_self, setPosition_setPosition]
    have hring : ({ (s.call m).ringingDesk s.params q with waitCount := huntingWait s.params (s.call m).waitCount } : CallRecord) =
        (s.call m).ringingDesk s.params q := ringingDesk_waiting s.params q hwait
    rw [← hback, ← hring]
    show ({ (State.setPosition _ q _) with deskQueue := rest, idleOrder := [], calls := _ } : State) = _
    rw [← horder]
    rfl
  rw [hstate] at hwakes
  have hlets : Does base (·.disengage n (.position q)) s _ ((s.call m).deskOut m q) :=
    hwakes.via fun L => disengage_position (s := s.relinked L) he hon (by show q ∉ s.idleOrder; rw [horder]; exact nofun)
  have hsame : s.call n = { s.call n with reservations := [] } := by rw [← hres]
  have hdone := does_clear_between cause h.active h.between rfl (does_handBackAll_nil base hres) hsame hlets
    ((setCall_call_ne s _ (Ne.symm hm)).trans hsame) h.station
    (by
      show ((State.setPosition _ q _).position q).engaged ≠ _
      rw [setPosition_position_self]
      exact fun e => hm (Option.some.inj e))
    (standsNowhere_of_eq h.nowhere (fun _ => id) (fun hn => by rw [hdesk]; exact List.mem_cons_of_mem _ hn) fun _ _ => id)
    h.mode
  rw [List.nil_append] at hdone
  refine Does.to_state hdone ?_
  exact congrArg (fun v => ({ ((s.setStation p st none).setPosition q { s.position q with engaged := some m }) with
    deskQueue := rest, calls := v } : State)) (Vector.set_comm _ _ fun e => hm (Fin.ext e))

end

end Sys2Proof.Machine
end

section
/-!
PROOF. The work on calls brings no call a party on a link that is lost: the handsets of the riser are ABSENT, the positions of the
trunk logged off (R28, R61, R66).
-/

namespace Sys2Proof.Machine

/-- No handset of riser link `l` is PRESENT; if `l` is the trunk, no position is logged on or stands in the idle order. -/
structure State.Silent (s : State) (l : LinkId) : Prop where
  handsets : ∀ r a, .riser r = l → (s.handset r a).present = false
  positions : .trunk = l → ∀ q, (s.position q).loggedOn = false ∧ q ∉ s.idleOrder

/-- Work from a state in which link `l` is silent: it stays so, and no call gains a party there. -/
def KeepsOff (l : LinkId) (s t : State) : Prop :=
  s.Silent l → t.Silent l ∧ ∀ n, ∀ x ∈ (t.call n).parties, x.link = l → x ∈ (s.call n).parties

section
variable {l : LinkId}

theorem KeepsOff.refl (s : State) : KeepsOff l s s := fun h => ⟨h, fun _ _ hx _ => hx⟩

theorem KeepsOff.trans {s t u : State} (h : KeepsOff l s t) (h' : KeepsOff l t u) : KeepsOff l s u := fun hs =>
  ⟨(h' (h hs).1).1, fun n x hx hl => (h hs).2 n x ((h' (h hs).1).2 n x hx hl) hl⟩

theorem keepsOff_foldl {α : Type} {f : State → α → State} {as : List α} (s : State) (hf : ∀ a ∈ as, ∀ t, KeepsOff l t (f t a)) :
    KeepsOff l s (as.foldl f s) :=
  foldl_keeps (P := KeepsOff l s) (fun a ha t h => h.trans (hf a ha t)) (.refl s)

theorem silent_of {s t : State} (hpresent : ∀ r a, (t.handset r a).present = (s.handset r a).present)
    (hlogged : ∀ q, (t.position q).loggedOn = (s.position q).loggedOn)
    (horder : ∀ q ∈ t.idleOrder, q ∈ s.idleOrder ∨ (s.position q).loggedOn = true) (hs : s.Silent l) : t.Silent l :=
  ⟨fun r a h => (hpresent r a).trans (hs.handsets r a h), fun h q =>
    ⟨(hlogged q).trans (hs.positions h q).1, fun hq => (horder q hq).elim (hs.positions h q).2 fun hon =>
      absurd (hon.symm.trans (hs.positions h q).1) nofun⟩⟩

theorem keepsOff_of {s t : State} (hcall : ∀ n, ∀ x ∈ (t.call n).parties, x ∈ (s.call n).parties)
    (hpresent : ∀ r a, (t.handset r a).present = (s.handset r a).present)
    (hlogged : ∀ q, (t.position q).loggedOn = (s.position q).loggedOn)
    (horder : ∀ q ∈ t.idleOrder, q ∈ s.idleOrder ∨ (s.position q).loggedOn = true) : KeepsOff l s t := fun hs =>
  ⟨silent_of hpresent hlogged horder hs, fun n x hx _ => hcall n x hx⟩

/-! ### One move each -/

theorem keepsOff_setCall {s : State} {n : CallNo} {c : CallRecord} (h : ∀ x ∈ c.parties, x.link = l → x ∈ (s.call n).parties) :
    KeepsOff l s (s.setCall n c) := fun hs => by
  refine ⟨⟨hs.handsets, hs.positions⟩, fun m x hx hl => ?_⟩
  rw [setCall_call] at hx
  split at hx
  next e => subst e; exact h x hx hl
  next => exact hx

theorem keepsOff_setCall_same {s : State} {n : CallNo} {c : CallRecord} (h : c.parties = (s.call n).parties) :
    KeepsOff l s (s.setCall n c) := keepsOff_setCall fun _ hx _ => h ▸ hx

theorem keepsOff_put (s : State) (k : LinkId) (m : Message) : KeepsOff l s (s.put k m) := by
  rw [put_frame]
  exact keepsOff_of (fun _ _ => id) (fun _ _ => rfl) (fun _ => rfl) fun _ => .inl

theorem keepsOff_raise (s : State) (c : AttentionClass) : KeepsOff l s (s.raise c) :=
  keepsOff_of (fun _ _ => id) (fun _ _ => rfl) (fun _ => rfl) fun _ => .inl

theorem keepsOff_endDrain (s : State) : KeepsOff l s s.endDrain := by
  rw [endDrain_frame]
  exact keepsOff_of (fun _ _ => id) (fun _ _ => rfl) (fun _ => rfl) fun _ => .inl

theorem keepsOff_leavePlaces (s : State) (n : CallNo) : KeepsOff l s (s.leavePlaces n) :=
  keepsOff_of (fun _ _ => id) (fun r a => by rw [leavePlaces_handset]) (fun _ => rfl) fun _ => .inl

theorem keepsOff_setSeekQueue (s : State) (r : Fin 8) (q : List CallNo) : KeepsOff l s (s.setSeekQueue r q) :=
  keepsOff_of (fun _ _ => id) (fun _ _ => rfl) (fun _ => rfl) fun _ => .inl

theorem keepsOff_setChannel (s : State) (r : Fin 8) (c : Fin 4) (x : Option CallNo) : KeepsOff l s (s.setChannel r c x) :=
  keepsOff_of (fun _ _ => id) (fun _ _ => rfl) (fun _ => rfl) fun _ => .inl

theorem keepsOff_deskQueue (s : State) (q : List CallNo) : KeepsOff l s { s with deskQueue := q } :=
  keepsOff_of (fun _ _ => id) (fun _ _ => rfl) (fun _ => rfl) fun _ => .inl

theorem keepsOff_idleOrder {s : State} {o : List (Fin 6)} (h : ∀ q ∈ o, q ∈ s.idleOrder ∨ (s.position q).loggedOn = true) :
    KeepsOff l s { s with idleOrder := o } := keepsOff_of (fun _ _ => id) (fun _ _ => rfl) (fun _ => rfl) h

theorem keepsOff_setHandset {s : State} {r : Fin 8} {a : Fin 63} {x : Handset} (h : x.present = (s.handset r a).present) :
    KeepsOff l s (s.setHandset r a x) := by
  refine keepsOff_of (fun _ _ => id) (fun r' a' => ?_) (fun _ => rfl) fun _ => .inl
  rw [setHandset_handset]
  split
  next e => obtain ⟨rfl, rfl⟩ := e; exact h
  next => rfl

theorem keepsOff_setPosition {s : State} {q : Fin 6} {x : Position} (h : x.loggedOn = (s.position q).loggedOn) :
    KeepsOff l s (s.setPosition q x) := by
  refine keepsOff_of (fun _ _ => id) (fun _ _ => rfl) (fun q' => ?_) fun _ => .inl
  rw [setPosition_position]
  split
  next e => subst e; exact h
  next => rfl

theorem keepsOff_setStation (s : State) (p : Fin 4) (st : Fin 2) (x : Option CallNo) : KeepsOff l s (s.setStation p st x) :=
  keepsOff_of (fun _ _ => id) (fun _ _ => rfl) (fun _ => rfl) fun _ => .inl

theorem keepsOff_engage (s : State) (x : Party) (n : CallNo) : KeepsOff l s (s.engage x n) := by
  cases x with
  | station p st => exact keepsOff_setStation s p st (some n)
  | handset r a => exact keepsOff_setHandset rfl
  | position q =>
    exact (keepsOff_setPosition (s := s) (x := { s.position q with engaged := some n }) rfl).trans
      (keepsOff_idleOrder fun p hp => .inl (List.mem_of_mem_filter hp))

theorem keepsOff_tellProgress (s : State) (n : CallNo) : KeepsOff l s (s.tellProgress n) := by
  obtain e | ⟨p, st, v, -, -, -, -, e⟩ := tellProgress_cases s n
  · rw [e]; exact .refl s
  · rw [e]
    exact (keepsOff_put s _ _).trans (keepsOff_setCall fun x hx _ => by rw [put_call]; exact hx)

/-! ### Waiting places and the desk -/

theorem keepsOff_setCall_tell {s : State} {n : CallNo} {c : CallRecord} (h : ∀ x ∈ c.parties, x.link = l → x ∈ (s.call n).parties) :
    KeepsOff l s ((s.setCall n c).tellProgress n) := (keepsOff_setCall h).trans (keepsOff_tellProgress _ n)

theorem keepsOff_enterSeeking (s : State) (n : CallNo) (r : Fin 8) : KeepsOff l s (s.enterSeeking n r) :=
  (keepsOff_setSeekQueue s r _).trans (keepsOff_setCall_tell fun _ hx _ => hx)

theorem keepsOff_enterCamped (s : State) (n : CallNo) (r : Fin 8) (a : Fin 63) : KeepsOff l s (s.enterCamped n r a) :=
  (keepsOff_setHandset (s := s) (x := { s.handset r a with watch := (s.handset r a).watch ++ [n] }) rfl).trans
    (keepsOff_setCall_tell fun _ hx _ => hx)

theorem keepsOff_enterAlerting (s : State) (n : CallNo) : KeepsOff l s (s.enterAlerting n) :=
  keepsOff_setCall_tell fun _ hx _ => hx

/-- A record with one member more, or with that one alone: its parties are that one and those it had. -/
theorem mem_parties_of_alerted {c d : CallRecord} {x y : Party} (hx : x ∈ d.parties)
    (hd : ∀ z ∈ d.alerted, z = y ∨ z ∈ c.alerted) (ho : d.origin = c.origin) (hw : d.answerer = c.answerer)
    (hj : d.joined = c.joined) :
    x = y ∨ x ∈ c.parties := by
  unfold CallRecord.parties at hx ⊢
  rw [ho, hw, hj, List.append_assoc, List.append_assoc, List.mem_append] at hx
  rw [List.append_assoc, List.append_assoc, List.mem_append]
  obtain hx | hx := hx
  · exact (hd x hx).imp_right .inl
  · exact .inr (.inr hx)

theorem keepsOff_ringPosition {s : State} {n : CallNo} {q : Fin 6} (hq : .trunk ≠ l) : KeepsOff l s (s.ringPosition n q) := by
  refine ((keepsOff_engage s (.position q) n).trans (keepsOff_put _ _ _)).trans (keepsOff_setCall_tell fun x hx hl => ?_)
  let u := (s.engage (.position q) n).put .trunk (ringPositionMsg (Party.position q).addr n (s.call n).origin)
  exact (mem_parties_of_alerted (c := u.call n) (y := .position q) hx (fun z hz => .inl (List.mem_singleton.mp hz)) rfl rfl rfl).resolve_left
    fun e => hq (by rw [← hl, e]; rfl)

theorem keepsOff_hunting (s : State) (n : CallNo) : KeepsOff l s (s.hunting n) := keepsOff_setCall_same rfl

theorem keepsOff_deskPlace (s : State) (n : CallNo) : KeepsOff l s (s.deskPlace n) := by
  by_cases h : (s.call n).state = .idle
  · rw [deskPlace_of_idle h]; exact .refl s
  · cases ho : s.idleOrder with
    | nil =>
      rw [deskPlace_of_nil h ho]
      exact ((keepsOff_hunting s n).trans (keepsOff_deskQueue _ _)).trans (keepsOff_setCall_tell fun _ hx _ => hx)
    | cons q rest =>
      rw [deskPlace_of_cons h ho]
      intro hs
      have hq : .trunk ≠ l := fun e => (hs.positions e q).2 (by rw [ho]; exact List.mem_cons_self)
      refine (((keepsOff_hunting s n).trans (keepsOff_idleOrder fun p hp => .inl ?_)).trans (keepsOff_ringPosition hq)) hs
      show p ∈ s.idleOrder
      rw [ho]
      exact List.mem_cons_of_mem q hp

theorem keepsOff_wakeDesk (s : State) : KeepsOff l s s.wakeDesk := by
  unfold State.wakeDesk
  split
  · exact (keepsOff_deskQueue s _).trans (keepsOff_deskPlace _ _)
  · exact .refl s

theorem keepsOff_appendIdle {s : State} {q : Fin 6} (hon : (s.position q).loggedOn = true) : KeepsOff l s (s.appendIdle q) := by
  refine KeepsOff.trans ?_ (keepsOff_wakeDesk _)
  split
  · exact .refl s
  · exact keepsOff_idleOrder fun p hp => (List.mem_append.mp hp).imp_right fun h => by rw [List.mem_singleton.mp h]; exact hon

/-! ### Channels -/

theorem keepsOff_reserve (s : State) (n : CallNo) (r : Fin 8) : KeepsOff l s (s.reserve n r) := by
  unfold State.reserve
  split
  · exact .refl s
  · split
    · exact (keepsOff_setChannel s r _ _).trans (keepsOff_setCall_same rfl)
    · exact .refl s

theorem keepsOff_setAside (s : State) (n : CallNo) (r : Fin 8) (c : Fin 4) : KeepsOff l s (s.setAside n r c) := by
  unfold State.setAside
  split
  · exact (keepsOff_setChannel s r c none).trans (keepsOff_setCall_same rfl)
  · exact .refl s

theorem keepsOff_grant (s : State) (n : CallNo) (r : Fin 8) (c : Fin 4) : KeepsOff l s (s.grant n r c) :=
  ((keepsOff_setSeekQueue s r _).trans (keepsOff_setChannel _ r c _)).trans (keepsOff_setCall_same rfl)

/-! ### Clearing and outcomes -/

/-- What a cascade does keeps off the link. -/
structure Cascade.KeepsOff (k : Cascade) (l : LinkId) : Prop where
  free : ∀ s r c, Machine.KeepsOff l s (k.free s r c)
  wake : ∀ s r a, Machine.KeepsOff l s (k.wake s r a)

theorem cascadeKeepsOff_bare : Cascade.bare.KeepsOff l := ⟨fun s _ _ => .refl s, fun s _ _ => .refl s⟩

theorem keepsOff_handBack {k : Cascade} (hk : k.KeepsOff l) (s : State) (n : CallNo) (x : Fin 8 × Fin 4) :
    KeepsOff l s (s.handBackWith k n x) := by
  unfold State.handBackWith
  split
  · exact (keepsOff_setAside s n x.1 x.2).trans (hk.free _ _ _)
  · exact .refl s

theorem keepsOff_disengage {k : Cascade} (hk : k.KeepsOff l) (s : State) (n : CallNo) (x : Party) :
    KeepsOff l s (s.disengageWith k n x) := by
  unfold State.disengageWith
  split
  · cases x with
    | station p st => exact keepsOff_setStation s p st none
    | handset r a =>
      exact (keepsOff_setHandset (s := s) (x := { s.handset r a with engaged := none }) rfl).trans (hk.wake _ r a)
    | position q =>
      have hq : KeepsOff l s (s.setPosition q { s.position q with engaged := none }) := keepsOff_setPosition rfl
      dsimp only
      split
      next hon => exact hq.trans (keepsOff_appendIdle (by rw [setPosition_position_self]; exact hon))
      next => exact hq
  · exact .refl s

theorem keepsOff_giveUp {k : Cascade} (hk : k.KeepsOff l) (s : State) (n : CallNo) : KeepsOff l s (s.giveUpWith k n) :=
  KeepsOff.trans (keepsOff_foldl s fun x _ t => keepsOff_handBack hk t n x) (keepsOff_foldl _ fun x _ t => keepsOff_disengage hk t n x)

theorem keepsOff_putAll (s : State) (xs : List (LinkId × Message)) : KeepsOff l s (s.putAll xs) :=
  keepsOff_foldl s fun x _ t => keepsOff_put t x.1 x.2

theorem keepsOff_clear {k : Cascade} (hk : k.KeepsOff l) (s : State) (n : CallNo) (cause : Cause) :
    KeepsOff l s (s.clearWith k n cause) := by
  by_cases h : (s.call n).state = .idle
  · rw [clearWith_of_idle h]; exact .refl s
  · rw [clearWith_of_active h, State.clearing, clearMessages_eq]
    have hgiven := (((keepsOff_putAll s ((s.call n).clearingOut cause)).trans (keepsOff_giveUp hk _ n)).trans
      (keepsOff_leavePlaces _ n)).trans (keepsOff_giveUp hk _ n)
    exact (hgiven.trans (keepsOff_setCall fun _ hx _ => absurd hx List.not_mem_nil)).trans (keepsOff_endDrain _)

theorem keepsOff_outcoming {k : Cascade} (hk : k.KeepsOff l) (s : State) (n : CallNo) (cause : Cause) :
    KeepsOff l s (s.outcoming k n cause) := by
  have hraised : KeepsOff l s (if cause = .congestion then s.raise .congestion else s) := by
    split
    · exact keepsOff_raise s _
    · exact .refl s
  exact ((hraised.trans (keepsOff_leavePlaces _ n)).trans (keepsOff_foldl _ fun x _ t => keepsOff_handBack hk t n x)).trans
    (keepsOff_setCall_same rfl)

theorem keepsOff_forwarding (s : State) (c : CallRecord) (n : CallNo) : KeepsOff l s (s.forwarding c n) := by
  unfold State.forwarding
  dsimp only
  split
  · exact (keepsOff_put s _ _).trans (keepsOff_setCall_same rfl)
  · exact keepsOff_setCall_same rfl

theorem keepsOff_outcome {k : Cascade} (hk : k.KeepsOff l) (s : State) (n : CallNo) (cause : Cause) :
    KeepsOff l s (s.outcomeWith k n cause) := by
  by_cases h : (s.call n).state = .idle
  · rw [outcomeWith_of_idle h]; exact .refl s
  · have hout := keepsOff_outcoming hk s n cause
    rw [outcomeWith_of_active h]
    split
    · have hforward := hout.trans (keepsOff_forwarding _ (s.call n) n)
      split
      · exact hforward.trans (keepsOff_clear hk _ n _)
      · exact hforward.trans (keepsOff_deskPlace _ n)
    · exact hout.trans (keepsOff_clear hk _ n _)

/-! ### The target check -/

theorem keepsOff_alertMember {s : State} {n : CallNo} {m : Fin 8 × Fin 63} (hm : .riser m.1 ≠ l) :
    KeepsOff l s (State.alertMember n s m) := by
  refine ((keepsOff_put s _ _).trans (keepsOff_engage _ (.handset m.1 m.2) n)).trans (keepsOff_setCall fun x hx hl => ?_)
  refine (mem_parties_of_alerted (c := ((s.sendRing n m).engage (.handset m.1 m.2) n).call n) (y := .handset m.1 m.2) hx (fun z hz => ?_) rfl rfl rfl).resolve_left
    fun e => hm (by rw [← hl, e]; rfl)
  exact (List.mem_append.mp hz).elim .inr fun h => .inl (List.mem_singleton.mp h)

theorem keepsOff_seekAndAlert {s : State} {n : CallNo} {ms : List (Fin 8 × Fin 63)} (hms : ∀ m ∈ ms, .riser m.1 ≠ l) :
    KeepsOff l s (s.seekAndAlert n ms) := by
  have hreserved : KeepsOff l s (ms.foldl (fun t m => t.reserve n m.1) s) := keepsOff_foldl s fun m _ t => keepsOff_reserve t n m.1
  unfold State.seekAndAlert
  dsimp only
  split
  · split
    · exact hreserved.trans (keepsOff_enterSeeking _ n _)
    · exact hreserved
  · exact (hreserved.trans (keepsOff_foldl _ fun m hm t => keepsOff_alertMember (hms m (List.mem_of_mem_filter hm)))).trans
      (keepsOff_enterAlerting _ n)

theorem present_of_eligible {s : State} {ts : List (Fin 8 × Fin 63)} {m : Fin 8 × Fin 63} (hm : m ∈ s.membersOf .eligible ts) :
    (s.handset m.1 m.2).present = true := by
  have hclass : s.memberClass m = .eligible := of_decide_eq_true (List.mem_filter.mp hm).2
  refine Decidable.byContradiction fun h => ?_
  rw [State.memberClass, if_pos (Bool.eq_false_iff.mpr h)] at hclass
  exact nomatch hclass

theorem keepsOff_targetCheck (s : State) (n : CallNo) : KeepsOff l s (s.targetCheck n) := by
  have hout : ∀ cause, KeepsOff l s (s.outcomeWith .bare n cause) := keepsOff_outcome cascadeKeepsOff_bare s n
  unfold State.targetCheck
  split
  · exact .refl s
  · split
    · split
      next ts _ =>
        split
        next m ms hms =>
          intro hs
          refine keepsOff_seekAndAlert (fun k hk e => ?_) hs
          have hpresent := present_of_eligible (ts := ts) (by rw [hms]; exact hk)
          exact absurd (hpresent.symm.trans (hs.handsets k.1 k.2 e)) nofun
        next =>
          split
          · exact hout _
          · split
            · split
              · exact keepsOff_enterCamped s n _ _
              · exact hout _
            · exact hout _
      next => exact .refl s
    · exact .refl s

/-! ### Wakes and grants -/

theorem keepsOff_wakeCall (s : State) (n : CallNo) : KeepsOff l s (s.wakeCall n) :=
  (keepsOff_setCall_same (s := s) (c := { s.call n with stateCount := none }) rfl).trans (keepsOff_targetCheck _ n)

theorem keepsOff_wakeHead (s : State) (r : Fin 8) (a : Fin 63) : KeepsOff l s (s.wakeHead r a) := by
  unfold State.wakeHead
  split
  next n rest _ =>
    exact (keepsOff_setHandset (s := s) (x := { s.handset r a with watch := rest }) rfl).trans (keepsOff_wakeCall _ n)
  next => exact .refl s

theorem cascadeKeepsOff_waking : Cascade.waking.KeepsOff l := ⟨fun s _ _ => .refl s, keepsOff_wakeHead⟩

theorem keepsOff_acceptResident (s : State) (n : CallNo) : KeepsOff l s (s.acceptResident n) := by
  unfold State.acceptResident
  split
  · exact (keepsOff_put s _ _).trans (keepsOff_deskPlace _ n)
  · exact keepsOff_deskPlace s n

theorem keepsOff_passDown (r : Fin 8) (c : Fin 4) (ns : List CallNo) (s : State) : KeepsOff l s (passDown r c ns s) := by
  induction ns generalizing s with
  | nil => exact keepsOff_setChannel s r c none
  | cons n rest ih =>
    have hgrant := keepsOff_grant (l := l) s n r c
    rw [passDown_cons]
    split
    · split
      · exact ((hgrant.trans (keepsOff_setAside _ n r c)).trans (ih _)).trans (keepsOff_clear cascadeKeepsOff_waking _ n _)
      · exact hgrant.trans (keepsOff_acceptResident _ n)
    · have hcheck := hgrant.trans (keepsOff_targetCheck _ n)
      split
      · exact hcheck
      · exact (hcheck.trans (keepsOff_setAside _ n r c)).trans (ih _)

theorem cascadeKeepsOff_full : Cascade.full.KeepsOff l :=
  ⟨fun s r c => keepsOff_passDown r c (s.seekQueue r) s, keepsOff_wakeHead⟩

end

end Sys2Proof.Machine
end

section
/-!
PROOF. The LOST marker (R28, R153): every call with a party on the link clears, in number order, and none gains one there.
-/

namespace Sys2Proof.Machine

/-! ### The clearing of a lost link, call by call -/

/-- A party of a record stands on link `l`. -/
def CallRecord.On (c : CallRecord) (l : LinkId) : Prop := ∃ x ∈ c.parties, x.link = l

theorem on_iff {c : CallRecord} {l : LinkId} : c.parties.any (fun x => decide (x.link = l)) = true ↔ c.On l := by
  rw [List.any_eq_true]
  exact ⟨fun ⟨x, hx, h⟩ => ⟨x, hx, of_decide_eq_true h⟩, fun ⟨x, hx, h⟩ => ⟨x, hx, decide_eq_true h⟩⟩

theorem not_on {c : CallRecord} {l : LinkId} : ¬ c.On l ↔ ∀ x ∈ c.parties, x.link ≠ l := by
  simp [CallRecord.On]

/-- The turn of call `n` in the clearing of a lost link. -/
def State.lostTurn (l : LinkId) (s : State) (n : CallNo) : State :=
  if (s.call n).parties.any (fun x => decide (x.link = l)) then s.clear n .linkLost else s

theorem clearLost_eq (s : State) (l : LinkId) : s.clearLost l = allCalls.foldl (State.lostTurn l) s := rfl

theorem lostTurn_of_on {s : State} {l : LinkId} {n : CallNo} (h : (s.call n).On l) : s.lostTurn l n = s.clear n .linkLost :=
  if_pos (on_iff.mpr h)

theorem lostTurn_of_off {s : State} {l : LinkId} {n : CallNo} (h : ¬ (s.call n).On l) : s.lostTurn l n = s :=
  if_neg fun e => h (on_iff.mp e)

theorem lostTurns_of_off {s : State} {l : LinkId} {ns : List CallNo} (h : ∀ n ∈ ns, ¬ (s.call n).On l) :
    ns.foldl (State.lostTurn l) s = s := by
  induction ns with
  | nil => rfl
  | cons n ns ih =>
    rw [List.foldl_cons, lostTurn_of_off (h n List.mem_cons_self)]
    exact ih fun m hm => h m (List.mem_cons_of_mem n hm)

/-- The records before a call and those after it. -/
theorem split_allCalls (n : CallNo) :
    ∃ as bs, allCalls = as ++ n :: bs ∧ (∀ m ∈ as, m < n) ∧ ∀ m ∈ bs, n < m := by
  obtain ⟨as, bs, h⟩ := List.append_of_mem (mem_allCalls n)
  have hsorted : allCalls.Pairwise (· < ·) := by decide
  rw [h] at hsorted
  obtain ⟨-, hbs, has⟩ := List.pairwise_append.mp hsorted
  exact ⟨as, bs, h, fun m hm => has m hm n List.mem_cons_self, fun m hm => (List.pairwise_cons.mp hbs).1 m hm⟩

theorem lostTurn_works {T : CallNo → Prop} (l : LinkId) (s : State) {n : CallNo} (hn : T n) : EventWorks T s (s.lostTurn l n) := by
  unfold State.lostTurn
  split
  · exact eventWorks_clear s _ hn
  · exact .refl s

/-- The turn of another call spares a call that stands nowhere. -/
theorem lostTurn_spares (l : LinkId) (s : State) {m n : CallNo} (hn : m ≠ n) : Spares n s (s.lostTurn l m) := by
  unfold State.lostTurn
  split
  · exact works_clear (fullSpares n) (fullSpares m) s .linkLost hn trivial
  · exact .refl s

theorem lostTurns_spare {l : LinkId} {ns : List CallNo} {n : CallNo} (s : State) (h : ∀ m ∈ ns, m ≠ n) :
    Spares n s (ns.foldl (State.lostTurn l) s) := works_foldl s fun m hm t => lostTurn_spares l t (h m hm)

theorem onCalls_clearLost (s : State) (l : LinkId) : OnCalls s (s.clearLost l) :=
  onCalls_foldl allCalls s fun t _ => EventWorks.onCalls (lostTurn_works l t trivial)

theorem clearedWith_full {s : State} {n : CallNo} (cause : Cause) (h : (s.call n).state ≠ .idle) :
    ClearedWith s (s.clear n cause) n cause := clearedWith_clear plain_full cause h

/-- A call whose record stands unchanged at its turn, with a party on the link, clears with LINK_LOST and stays so. -/
theorem clearedWith_clearLost {s : State} {l : LinkId} {n : CallNo} {as bs : List CallNo} (h : allCalls = as ++ n :: bs)
    (hbs : ∀ m ∈ bs, m ≠ n) (hkept : (as.foldl (State.lostTurn l) s).call n = s.call n) (hactive : (s.call n).state ≠ .idle)
    (hon : (s.call n).On l) : ClearedWith s (s.clearLost l) n .linkLost := by
  rw [clearLost_eq, h, List.foldl_append, List.foldl_cons]
  generalize as.foldl (State.lostTurn l) s = t at hkept
  rw [lostTurn_of_on (by rw [hkept]; exact hon)]
  obtain ⟨hcall, hnowhere⟩ := clearedWith_full (s := t) (n := n) .linkLost (by rw [hkept]; exact hactive)
  obtain ⟨hspared, hstill⟩ := Spares.spared (lostTurns_spare (t.clear n .linkLost) hbs) hnowhere
  exact ⟨by rw [hspared, hcall, hkept], hstill⟩

theorem clearedWith_clearLost_first {s : State} {l : LinkId} {n : CallNo} (hactive : (s.call n).state ≠ .idle)
    (hon : (s.call n).On l) (hbefore : ∀ m, m < n → ¬ (s.call m).On l) : ClearedWith s (s.clearLost l) n .linkLost := by
  obtain ⟨as, bs, h, has, hbs⟩ := split_allCalls n
  exact clearedWith_clearLost h (fun m hm => (hbs m hm).ne')
    (by rw [lostTurns_of_off fun m hm => hbefore m (has m hm)]) hactive hon

theorem clearedWith_clearLost_nowhere {s : State} {l : LinkId} {n : CallNo} (hactive : (s.call n).state ≠ .idle)
    (hon : (s.call n).On l) (hnowhere : s.StandsNowhere n) : ClearedWith s (s.clearLost l) n .linkLost := by
  obtain ⟨as, bs, h, has, hbs⟩ := split_allCalls n
  exact clearedWith_clearLost h (fun m hm => (hbs m hm).ne')
    (Spares.spared (lostTurns_spare s fun m hm => (has m hm).ne) hnowhere).1 hactive hon

/-- The clearing of a lost link that comes to the clearing of one call. -/
theorem does_clearLost {b s u : State} {l : LinkId} {n : CallNo} {out : List (LinkId × Message)}
    (h : Does b (·.clear n .linkLost) s u out) (hon : (s.call n).On l) (hbefore : ∀ m, m < n → ¬ (s.call m).On l)
    (hafter : ∀ m, n < m → ¬ (u.call m).On l) : Does b (·.clearLost l) s u out := by
  intro L pre hL hroom
  obtain ⟨as, bs, hall, has, hbs⟩ := split_allCalls n
  have hdone : State.clear _ n .linkLost = _ := h L pre hL hroom
  show State.clearLost _ l = _
  rw [clearLost_eq, hall, List.foldl_append, List.foldl_cons,
    lostTurns_of_off (s := (s.relinked L).sent pre) fun m hm => hbefore m (has m hm),
    lostTurn_of_on (s := (s.relinked L).sent pre) hon, hdone]
  exact lostTurns_of_off (s := (u.relinked L).sent (pre ++ out)) fun m hm => hafter m (hbs m hm)

/-! ### No party is left on the link -/

theorem keepsOff_lostTurn (l : LinkId) (s : State) (n : CallNo) : KeepsOff l s (s.lostTurn l n) := by
  unfold State.lostTurn
  split
  · exact keepsOff_clear cascadeKeepsOff_full s n _
  · exact .refl s

theorem idleRecordsBlank_works {s t : State} (h : EventWorks (fun _ => True) s t) (hs : IdleRecordsBlank s) :
    IdleRecordsBlank t :=
  (h fun _ _ => trivial).keeps (P := IdleRecordsBlank)
    (fun _ _ hm hu n => (hm.recordStep (mode := .run) (hangTime := 0) n).blank (hu n)) hs

theorem off_of_blank {c : CallRecord} {l : LinkId} (h : c.Blank) : ¬ c.On l := by
  rintro ⟨x, hx, -⟩
  rw [h] at hx
  exact nomatch hx

theorem lostTurn_off {s : State} {l : LinkId} {n : CallNo} (hs : IdleRecordsBlank s) : ¬ ((s.lostTurn l n).call n).On l := by
  by_cases hon : (s.call n).On l
  · have hactive : (s.call n).state ≠ .idle := fun e => off_of_blank (hs n e) hon
    rw [lostTurn_of_on hon, (clearedWith_full .linkLost hactive).1]
    exact off_of_blank (c := CallRecord.gone _ _) rfl
  · rw [lostTurn_of_off hon]; exact hon

/-- Once each record has had its turn, none has a party on the link. -/
theorem lostTurns_off {l : LinkId} (ns : List CallNo) : ∀ {s : State}, IdleRecordsBlank s → s.Silent l →
    ∀ n ∈ ns, ¬ ((ns.foldl (State.lostTurn l) s).call n).On l := by
  induction ns with
  | nil => exact fun _ _ _ hn => absurd hn List.not_mem_nil
  | cons m ns ih =>
    intro s hblank hsilent n hn
    have hblank' := idleRecordsBlank_works (lostTurn_works (T := fun _ => True) l s (n := m) trivial) hblank
    obtain ⟨hsilent', -⟩ := keepsOff_lostTurn l s m hsilent
    obtain rfl | hn := List.mem_cons.mp hn
    · have hrest : KeepsOff l (s.lostTurn l n) (ns.foldl (State.lostTurn l) (s.lostTurn l n)) :=
        keepsOff_foldl _ fun k _ t => keepsOff_lostTurn l t k
      rintro ⟨x, hx, hl⟩
      exact lostTurn_off hblank ⟨x, (hrest hsilent').2 n x hx hl, hl⟩
    · exact ih hblank' hsilent' n hn

theorem clearLost_off {s : State} {l : LinkId} (hblank : IdleRecordsBlank s) (hsilent : s.Silent l) (n : CallNo) :
    ¬ ((s.clearLost l).call n).On l := lostTurns_off allCalls hblank hsilent n (mem_allCalls n)

/-- The origin of a call stands until its record is IDLE. -/
theorem CallMove.origin_or_idle {T K : CallNo → Prop} {s t : State} {n : CallNo} {o : Option Party} (h : CallMove T K s t)
    (hs : (s.call n).origin = o ∨ (s.call n).state = .idle) : (t.call n).origin = o ∨ (t.call n).state = .idle := by
  have hset : ∀ {v : State} {m : CallNo} {c : CallRecord}, v.call = s.call → c.origin = (s.call m).origin →
      (c.state = .idle ↔ (s.call m).state = .idle) →
      ((v.setCall m c).call n).origin = o ∨ ((v.setCall m c).call n).state = .idle := by
    intro v m c hv ho hstate
    rw [setCall_call]
    split
    next e => subst e; exact hs.imp ho.trans hstate.mpr
    next => rw [hv]; exact hs
  cases h with
  | record m c _ hm => exact hset rfl hm.origin hm.idle
  | retire m cause =>
    rw [setCall_call]
    split
    · exact .inr rfl
    · exact hs
  | reserve m r c => exact hset (v := s.setChannel r c (some m)) rfl rfl .rfl
  | setAside m r c => exact hset (v := s.setChannel r c none) rfl rfl .rfl
  | deskQueue | idleOrder | leavePlaces => exact hs
  | _ => simpa using hs

/-- A waiting call with its origin on the link ends, with whatever cause (log 29). -/
theorem clearLost_idle {s : State} {l : LinkId} {n : CallNo} {x : Party} (hblank : IdleRecordsBlank s) (hsilent : s.Silent l)
    (ho : (s.call n).origin = some x) (hx : x.link = l) : ((s.clearLost l).call n).state = .idle := by
  have hworks : EventWorks (fun _ => True) s (s.clearLost l) := works_foldl s fun m _ t => lostTurn_works l t trivial
  have hkept : ((s.clearLost l).call n).origin = some x ∨ ((s.clearLost l).call n).state = .idle :=
    (hworks fun _ _ => trivial).keeps (P := fun u => (u.call n).origin = some x ∨ (u.call n).state = .idle)
      (fun _ _ hm hu => hm.origin_or_idle hu) (.inl ho)
  refine hkept.resolve_left fun horigin => clearLost_off hblank hsilent n ⟨x, ?_, hx⟩
  simp [CallRecord.parties, horigin]

/-- A link whose LOST marker waits is silent (R61, R66). -/
theorem silent_of_marker {s : State} {l : LinkId} (hhead : (s.link l).rx.head? = some .lost) (hengaged : EngagementsMatch s)
    (hmarkers : MarkersFirst s) : s.Silent l where
  handsets r a h := by subst h; exact hmarkers.riser r hhead a
  positions h q := by
    subst h
    have hoff := hmarkers.trunk hhead q
    exact ⟨hoff, fun hq => absurd (hoff.symm.trans ((hengaged.idleOrder q).mp hq).1) nofun⟩

/-- A call that no place names by its state stands nowhere. -/
theorem standsNowhere_of_state {s : State} {n : CallNo} (h : PlacesMatch s)
    (hstate : (s.call n).state = .dialling ∨ (s.call n).state = .alerting ∨ (s.call n).state = .talking) : s.StandsNowhere n := by
  refine ⟨fun r hn => ?_, fun hn => ?_, fun r a hn => ?_⟩
  · have hseeking := (h.seeking n).mpr ⟨r, hn⟩
    rw [hseeking] at hstate; simp at hstate
  · have hqueued := (h.queued n).mpr hn
    rw [hqueued] at hstate; simp at hstate
  · have hcamped := (h.camped n).mpr ⟨r, a, hn⟩
    rw [hcamped] at hstate; simp at hstate

/-- In the states the invariants allow, the marker leaves no call with a party on its link. -/
theorem clearLost_all {s : State} {l : LinkId} (hblank : IdleRecordsBlank s) (hplaces : PlacesMatch s)
    (hengaged : EngagementsMatch s) (hsilent : s.Silent l) (n : CallNo) (hon : (s.call n).On l) :
    ((s.clearLost l).call n).state = .idle ∧
      ((s.call n).state = .dialling ∨ (s.call n).state = .alerting ∨ (s.call n).state = .talking →
        ClearedWith s (s.clearLost l) n .linkLost) := by
  have hactive : (s.call n).state ≠ .idle := fun e => off_of_blank (hblank n e) hon
  have hcleared : (s.call n).state = .dialling ∨ (s.call n).state = .alerting ∨ (s.call n).state = .talking →
      ClearedWith s (s.clearLost l) n .linkLost := fun h =>
    clearedWith_clearLost_nowhere hactive hon (standsNowhere_of_state hplaces h)
  refine ⟨?_, hcleared⟩
  by_cases h : (s.call n).state = .dialling ∨ (s.call n).state = .alerting ∨ (s.call n).state = .talking
  · rw [(hcleared h).1]; rfl
  · obtain ⟨-, halerted, htalking, hjoined, -⟩ := hengaged.roles n
    obtain ⟨hdialling, halerting, htalks⟩ : (s.call n).state ≠ .dialling ∧ (s.call n).state ≠ .alerting ∧
        (s.call n).state ≠ .talking := ⟨fun e => h (.inl e), fun e => h (.inr (.inl e)), fun e => h (.inr (.inr e))⟩
    have hanswerer : (s.call n).answerer = none := Decidable.not_not.mp fun e => htalks (htalking.mpr e)
    obtain ⟨x, hx, hl⟩ := hon
    rw [CallRecord.parties, halerted halerting, hanswerer, hjoined htalks] at hx
    have ho : (s.call n).origin = some x := by simpa using hx
    exact clearLost_idle hblank hsilent ho hl

end Sys2Proof.Machine
end

section
/-!
PROOF. The obligation O39: the commands that clear calls.
-/

namespace Sys2Proof.Machine

/-! ### The call that waits for what is given up -/

theorem told_frame (c : CallRecord) (v : Progress) : ∃ w, c.told v = { c with lastProgress := w } := by
  unfold CallRecord.told
  split
  · exact ⟨_, rfl⟩
  · exact ⟨_, rfl⟩

/-- A call that rings has no station for a party but those it had. -/
theorem station_of_ringing {p : Params} {c : CallRecord} {alert : Nat} {ms : List (Fin 8 × Fin 63)} {rs : List (Fin 8 × Fin 4)}
    {x : Party} (hx : x ∈ (c.ringing p alert ms rs).parties) (hs : Party.isStation x = true) : x ∈ c.parties := by
  obtain ⟨w, hw⟩ := told_frame c .ringback
  rw [CallRecord.ringing, hw, mem_parties_alerted] at hx
  obtain hx | hx := hx
  · obtain ⟨m, -, rfl⟩ := List.mem_map.mp hx
    exact nomatch hs
  · exact mem_parties_alerted.mpr (.inr hx)

theorem station_of_ringingDesk {p : Params} {c : CallRecord} {q : Fin 6} {x : Party} (hx : x ∈ (c.ringingDesk p q).parties)
    (hs : Party.isStation x = true) : x ∈ c.parties := by
  obtain ⟨w, hw⟩ := told_frame c .ringback
  rw [CallRecord.ringingDesk, hw, mem_parties_alerted] at hx
  obtain hx | hx := hx
  · obtain rfl := List.mem_singleton.mp hx
    exact nomatch hs
  · exact mem_parties_alerted.mpr (.inr hx)

/-- After the clearing of call `n` no other call has a station it had not. -/
def NoStationGained (s u : State) (n : CallNo) : Prop :=
  ∀ m, m ≠ n → ∀ x ∈ (u.call m).parties, Party.isStation x = true → x ∈ (s.call m).parties

theorem noStationGained_of_set {s u : State} {n m : CallNo} {k c : CallRecord} (hu : u.calls = (s.calls.set n k).set m c)
    (hc : ∀ x ∈ c.parties, Party.isStation x = true → x ∈ (s.call m).parties) : NoStationGained s u n := by
  intro j hj x hx hs
  have hcall : u.call j = ((s.setCall n k).setCall m c).call j := congrArg (fun v : Vector CallRecord 16 => v[j]) hu
  rw [hcall, setCall_call] at hx
  split at hx
  next e => subst e; exact hc x hx hs
  next => rwa [setCall_call_ne _ _ hj] at hx

/-- What a clearing brings the call that waits, from what the clearing does. -/
theorem wakesTheNext_of {s t : State} {n : CallNo} {cause : Cause} {base : LinkId → LinkUnit} {more : List (LinkId × Message)}
    (hactive : (s.call n).state ≠ .idle)
    (h : ∀ u out, Does s (·.clear n cause) s u (s.reached ((s.call n).clearingOut cause) ++ out) →
      u.maskedPending = s.maskedPending → NoStationGained s u n →
      s.Room (s.reached ((s.call n).clearingOut cause) ++ out ++ more) →
      t = { u with links := t.links } ∧
        ∀ k, t.link k = (base k).withTx (outFor k (s.reached ((s.call n).clearingOut cause) ++ out ++ more))) :
    WakesTheNext s t n cause base more := by
  intro p st m rest hm ho hst halerted hjoined hnowhere hmode w gone left is
  refine ⟨fun r a c b hw hres he x hx hts hal hrs hpresent hquiet => ⟨fun hseeking hkind hq hwatch hfree => ?_,
    fun ch hcamped hb hwatch hq hch => ?_⟩, fun q f held hw hres he hon horder hdesk hqueued hwait => ?_⟩
  · have hclear : s.Clearable n p st (.handset r a) := ⟨hactive, ⟨ho, hw, halerted, hjoined⟩, hst, hnowhere, hmode⟩
    exact h _ _ (does_clear_grants s cause hclear hm hres he hwatch hq hkind (checks_of_seeking hseeking hx hts hal hrs)
      ⟨hpresent, hfree, hquiet⟩) rfl (noStationGained_of_set rfl fun _ => station_of_ringing)
  · subst hb
    have hclear : s.Clearable n p st (.handset r b) := ⟨hactive, ⟨ho, hw, halerted, hjoined⟩, hst, hnowhere, hmode⟩
    have hchecks : s.Checks m x [(r, b)] := ⟨fun e => absurd (e.symm.trans hcamped) nofun, hx, hts, hal, hrs⟩
    exact h _ _ (does_clear_wakes s cause hclear hm hres he hwatch hq hchecks hpresent hquiet hch) rfl
      (noStationGained_of_set rfl fun _ => station_of_ringing)
  · have hclear : s.Clearable n p st (.position q) := ⟨hactive, ⟨ho, hw, halerted, hjoined⟩, hst, hnowhere, hmode⟩
    exact h _ _ (does_clear_wakesDesk s cause hclear hm hres he hon horder hdesk
      (fun e => absurd (e.symm.trans hqueued) nofun) hwait) rfl (noStationGained_of_set rfl fun _ => station_of_ringingDesk)

/-! ### A command that clears one call -/

theorem Runs.clears_wakes {i : Instr} {s : State} {f : State → State} {base : LinkId → LinkUnit}
    {more : List (LinkId × Message)} {n : CallNo} {cause : Cause} (h : Runs i s f base more)
    (hactive : (s.call n).state ≠ .idle) (hf : ∀ L, s.Alike L → f (s.relinked L) = (s.relinked L).clear n cause) :
    ∃ t L, exec i s = .next t ∧ ClearedWith s t n cause ∧ Leaves s ((s.relinked L).clear n cause) t ∧
      ClearsAlone s t n cause base more ∧ WakesTheNext s t n cause base more := by
  obtain ⟨t, L, hexec, hcleared, hleaves, halone⟩ := h.clears plain_full rfl hactive hf (noticeOf_self s)
  refine ⟨t, L, hexec, hcleared, hleaves, halone, wakesTheNext_of hactive fun u out hdoes hpending _ hroom => ?_⟩
  have hanswers := h.answers (fun hr L hL => (hf L hL).trans (hdoes.apply hr L hL)) (noticeOf_of_kept hpending)
  rw [List.append_nil] at hanswers
  obtain ⟨t', hexec', hframe, hlinks⟩ := hanswers hroom
  obtain rfl := Host.Outcome.next.inj (hexec.symm.trans hexec')
  exact ⟨hframe, hlinks⟩

theorem keyCancel_clears {s : State} {n : CallNo} {p : Fin 4} {st : Fin 2} (hactive : (s.call n).state ≠ .idle)
    (hexists : s.stationExists p (BitVec.ofNat 8 st.val) = true) (hst : s.station p st = some n)
    (ho : (s.call n).origin = some (.station p st)) (hdel : s.deliverable (.panel p) (keyMsg (BitVec.ofNat 8 st.val) 0x0B#8) = true) :
    ∃ t, exec (.keyCancel p (BitVec.ofNat 8 st.val)) s = .next t ∧ ClearedWith s t n .callerCancel ∧ t.station p st = none ∧
      KeepsToCalls s t none ∧
      ClearsAlone s t n .callerCancel (s.taking (.panel p) (keyMsg (BitVec.ofNat 8 st.val) 0x0B#8)) [] ∧
      WakesTheNext s t n .callerCancel (s.taking (.panel p) (keyMsg (BitVec.ofNat 8 st.val) 0x0B#8)) [] := by
  have hruns : Runs (.keyCancel p (BitVec.ofNat 8 st.val)) s (State.keysCancel p st)
      (s.taking (.panel p) (keyMsg (BitVec.ofNat 8 st.val) 0x0B#8)) [] :=
    runs_station (f := State.keysCancel p) rfl hexists rfl hdel
  obtain ⟨t, L, hexec, hcleared, hleaves, halone, hwakes⟩ := hruns.clears_wakes (cause := .callerCancel) hactive fun L _ => by
    have hst' : (s.relinked L).station p st = some n := hst
    rw [State.keysCancel, hst']
  refine ⟨t, hexec, hcleared, ?_, hleaves.keeps, halone, hwakes⟩
  have hfreed := clear_station (s := s.relinked L) .callerCancel hactive ho hst
  have hframe := hleaves.frame
  generalize (s.relinked L).clear n .callerCancel = x at hfreed hframe
  rw [hframe]
  exact hfreed

theorem timeLimit_clears {s : State} {n : CallNo} {x : TalkCount} {g : Nat} (hstate : (s.call n).state = .talking)
    (htalk : (s.call n).talk = some x) (hgrace : (s.call n).graceBound = some g) :
    (x.seconds ≤ -(g : Int) →
      ∃ t, exec (.timeLimit n) s = .next t ∧ ClearedWith s t n .timeLimit ∧ KeepsToCalls s t none ∧
        ClearsAlone s t n .timeLimit s.link [] ∧ WakesTheNext s t n .timeLimit s.link []) ∧
    (-(g : Int) < x.seconds → exec (.timeLimit n) s = .next s) := by
  have hends : ∀ L, (s.relinked L).talkEnds n = if x.seconds ≤ -(g : Int) then (s.relinked L).clear n .timeLimit else s.relinked L := by
    intro L
    have hstate' : ((s.relinked L).call n).state = .talking := hstate
    have htalk' : ((s.relinked L).call n).talk = some x := htalk
    have hgrace' : ((s.relinked L).call n).graceBound = some g := hgrace
    rw [State.talkEnds, hstate', htalk', hgrace']
  refine ⟨fun hdue => ?_, fun hearly => ?_⟩
  · have hruns : Runs (.timeLimit n) s (State.talkEnds n) s.link [] := runs_event rfl
    obtain ⟨t, L, hexec, hcleared, hleaves, halone, hwakes⟩ := hruns.clears_wakes (cause := .timeLimit)
      (by rw [hstate]; exact nofun) fun L _ => (hends L).trans (if_pos hdue)
    exact ⟨t, hexec, hcleared, hleaves.keeps, halone, hwakes⟩
  · exact exec_event_unchanged (f := State.talkEnds n) rfl ((hends s.links).trans (if_neg (Int.not_le.mpr hearly)))

theorem judgeCallClear_of_active {s : State} {n : CallNo} (h : (s.call n).state ≠ .idle) :
    s.judgeCallClear (BitVec.ofNat 8 n.val) = .done (s.clear n .forced) [] := by
  have hval := toNat_call_octet n
  have hlt : (BitVec.ofNat 8 n.val).toNat < 16 := by omega
  have hn : (⟨(BitVec.ofNat 8 n.val).toNat, hlt⟩ : CallNo) = n := Fin.ext hval
  rw [State.judgeCallClear, dif_pos hlt, hn, if_neg h]

theorem judgeCallClear_of_idle {s : State} {n : CallNo} (h : (s.call n).state = .idle) :
    s.judgeCallClear (BitVec.ofNat 8 n.val) = .turnedDown .notFound := by
  have hval := toNat_call_octet n
  have hlt : (BitVec.ofNat 8 n.val).toNat < 16 := by omega
  have hn : (⟨(BitVec.ofNat 8 n.val).toNat, hlt⟩ : CallNo) = n := Fin.ext hval
  rw [State.judgeCallClear, dif_pos hlt, hn, if_pos h]

theorem callClear_clears {s : State} {n : CallNo} {l : LinkId} {more : List Octet} (hactive : (s.call n).state ≠ .idle)
    (horigin : s.inOrigin l = true) (hdel : s.deliverable l (managementMsg 0x8D#8 (BitVec.ofNat 8 n.val :: more)) = true) :
    ∃ t, exec (.callClear l (BitVec.ofNat 8 n.val :: more)) s = .next t ∧ ClearedWith s t n .forced ∧ KeepsToCalls s t none ∧
      ClearsAlone s t n .forced (s.taking l (managementMsg 0x8D#8 (BitVec.ofNat 8 n.val :: more)))
        [(l, resultMsg 0x8D#8 .ok [])] ∧
      WakesTheNext s t n .forced (s.taking l (managementMsg 0x8D#8 (BitVec.ofNat 8 n.val :: more)))
        [(l, resultMsg 0x8D#8 .ok [])] := by
  have hruns : Runs (.callClear l (BitVec.ofNat 8 n.val :: more)) s (State.clear · n .forced)
      (s.taking l (managementMsg 0x8D#8 (BitVec.ofNat 8 n.val :: more))) [(l, resultMsg 0x8D#8 .ok [])] :=
    runs_request (k := .callClear) rfl horigin hdel fun L _ => judgeCallClear_of_active (s := s.relinked L) hactive
  obtain ⟨t, L, hexec, hcleared, hleaves, halone, hwakes⟩ := hruns.clears_wakes (cause := .forced) hactive fun _ _ => rfl
  exact ⟨t, hexec, hcleared, hleaves.keeps, halone, hwakes⟩

theorem callClear_refused {s : State} {l : LinkId} {number : Octet} {more : List Octet} (horigin : s.inOrigin l = true)
    (hdel : s.deliverable l (managementMsg 0x8D#8 (number :: more)) = true) :
    (15 < number.toNat → Answers (.callClear l (number :: more)) s s (s.taking l (managementMsg 0x8D#8 (number :: more)))
      [(l, resultMsg 0x8D#8 .badArgument [])]) ∧
    ∀ n : CallNo, number = BitVec.ofNat 8 n.val → (s.call n).state = .idle →
      Answers (.callClear l (number :: more)) s s (s.taking l (managementMsg 0x8D#8 (number :: more)))
        [(l, resultMsg 0x8D#8 .notFound [])] := by
  have hdown : ∀ st, (s.arrived l (managementMsg 0x8D#8 (number :: more))).judgeCallClear number = .turnedDown st →
      Answers (.callClear l (number :: more)) s s (s.taking l (managementMsg 0x8D#8 (number :: more)))
        [(l, resultMsg 0x8D#8 st [])] := fun st hjudge =>
    answers_of_delivers fun hroom => request_of_turnedDown (k := .callClear) rfl horigin hdel hjudge hroom
  refine ⟨fun hbad => hdown _ (dif_neg (by omega)), fun n hn hidle => hdown _ ?_⟩
  subst hn
  rw [arrived_eq_relinked]
  exact judgeCallClear_of_idle hidle

end Sys2Proof.Machine
end

section
/-!
PROOF. HANGUP and the LOST marker, and the obligation O39.
-/

namespace Sys2Proof.Machine

/-! ### HANGUP (R25) -/

/-- A talker is a handset, or a position with an address below 6. -/
theorem talker_cases {y : Talker} {x : Party} (hy : y.party = some x) :
    (∃ r a, y = .handset r a ∧ x = .handset r a) ∨ ∃ a, ∃ h : a.toNat < 6, y = .position a ∧ x = .position ⟨a.toNat, h⟩ := by
  cases y with
  | handset r a => exact .inl ⟨r, a, rfl, (Option.some.inj hy).symm⟩
  | position a =>
    by_cases h : a.toNat < 6
    · have hparty : Talker.party (.position a) = some (.position ⟨a.toNat, h⟩) := dif_pos h
      exact .inr ⟨a, h, rfl, Option.some.inj (hy.symm.trans hparty)⟩
    · have hparty : Talker.party (.position a) = none := dif_neg h
      exact nomatch hparty.symm.trans hy

section
variable {s : State} {n : CallNo}

theorem hangsUp_of_origin {y : Talker} {x : Party} (hy : y.party = some x) (hrole : s.roleOf x = some (n, .origin)) :
    s.hangsUp x = s.clear n .callerHungup := by
  obtain ⟨r, a, -, rfl⟩ | ⟨a, h, -, rfl⟩ := talker_cases hy
  · exact hangup_of_origin hrole
  · show s.hangupPosition _ = _
    rw [State.hangupPosition, hrole]

theorem hangsUp_of_answerer {y : Talker} {x : Party} (hy : y.party = some x) (hrole : s.roleOf x = some (n, .answerer))
    (hjoined : (s.call n).joined = none) : s.hangsUp x = s.clear n .targetHungup := by
  obtain ⟨r, a, -, rfl⟩ | ⟨a, h, -, rfl⟩ := talker_cases hy
  · exact hangup_of_answerer hrole hjoined
  · show s.hangupPosition _ = _
    rw [State.hangupPosition, hrole]

theorem notePresence_eq (s : State) (r : Fin 8) (a : Fin 63) : s.notePresence r a = s.noting r a (s.handset r a).quiet := by
  unfold State.notePresence State.noting
  split
  · rfl
  · rfl

/-- HANGUP of a party whose going clears its call: of a handset not heard of before, the presence is noted first (R60). -/
theorem hangup_clears {y : Talker} {x : Party} {cause : Cause} (hactive : (s.call n).state ≠ .idle) (hy : y.party = some x)
    (hdel : s.deliverable y.link (bareMsg y.addr 0x13#8) = true)
    (hclears : ∀ z : State, z.call = s.call → z.roleOf x = s.roleOf x → z.hangsUp x = z.clear n cause) :
    ∃ t, exec (.hangup y) s = .next t ∧ ClearedWith s t n cause ∧ KeepsToCalls s t none ∧
      (s.Heard y → ClearsAlone s t n cause (s.taking y.link (bareMsg y.addr 0x13#8)) [] ∧
        WakesTheNext s t n cause (s.taking y.link (bareMsg y.addr 0x13#8)) []) := by
  by_cases hheard : s.Heard y
  · have hruns : Runs (.hangup y) s (State.hangsUp x) (s.taking y.link (bareMsg y.addr 0x13#8)) [] :=
      runs_talker (f := State.hangsUp) rfl hy hheard rfl hdel
    obtain ⟨t, L, hexec, hcleared, hleaves, halone, hwakes⟩ := hruns.clears_wakes hactive fun L _ => hclears (s.relinked L) rfl rfl
    exact ⟨t, hexec, hcleared, hleaves.keeps, fun _ => ⟨halone, hwakes⟩⟩
  · obtain ⟨r, a, rfl, rfl⟩ | ⟨a, h, rfl, -⟩ := talker_cases hy
    case inr => exact absurd h hheard
    have hruns : Runs (.hangup (.handset r a)) s (fun t => State.hangsUp (.handset r a) (t.notePresence r a))
        (s.taking (.riser r) (bareMsg (BitVec.ofNat 8 a.val) 0x13#8)) [] := runs_handset rfl rfl hdel
    obtain ⟨t, L, hexec, hcleared, hleaves, -⟩ := hruns.clears (z := s.noting r a (s.handset r a).quiet) (n := n) (cause := cause)
      plain_full rfl hactive (fun L _ => by
        rw [notePresence_eq]
        exact hclears ((s.noting r a (s.handset r a).quiet).relinked L) rfl
          (noting_roleOf s r a (s.handset r a).quiet (.handset r a))) (noticeOf_noting s r a (s.handset r a).quiet)
    obtain ⟨hkeeps, hlogged, hquiet, hlinks⟩ := hleaves.keeps
    refine ⟨t, hexec, hcleared, ⟨?_, hlogged, fun r' a' _ => ?_, hlinks⟩, fun h => absurd h hheard⟩
    · rw [hkeeps]; rfl
    · rw [hquiet r' a' nofun]
      show ((s.setHandset r a _).handset r' a').quiet = _
      rw [setHandset_handset]
      split
      next e => obtain ⟨rfl, rfl⟩ := e; rfl
      next => rfl

end

/-! ### The LOST marker -/

theorem CallMove.queues {T K : CallNo → Prop} {s t : State} (h : CallMove T K s t) (k : LinkId) :
    (t.link k).rx = (s.link k).rx ∧ (t.link k).holding = (s.link k).holding := by
  have hput : ∀ (l : LinkId) (m : Message), ((s.put l m).link k).rx = (s.link k).rx ∧ ((s.put l m).link k).holding = (s.link k).holding :=
    fun l m => by
      have hkept := txKept_put s l k m
      rw [TxKept] at hkept
      rw [hkept]
      exact ⟨rfl, rfl⟩
  cases h with
  | put l m => exact hput l m
  | endDrain => rw [endDrain_link]; exact ⟨rfl, rfl⟩
  | deskQueue | idleOrder | leavePlaces => exact ⟨rfl, rfl⟩
  | _ => simp

theorem rx_of_lostMarker {s t : State} {l : LinkId} (hhead : (s.link l).rx.head? = some .lost)
    (hexec : exec (.lostMarker l) s = .next t) : (t.link l).rx = (s.link l).dropHead.rx := by
  have hworks : EventWorks (fun _ => True) s (s.clearLost l) := works_foldl s fun m _ u => lostTurn_works l u trivial
  have hqueues : ((s.clearLost l).link l).rx = (s.link l).rx ∧ ((s.clearLost l).link l).holding = (s.link l).holding :=
    (hworks fun _ _ => trivial).keeps (P := fun u => (u.link l).rx = (s.link l).rx ∧ (u.link l).holding = (s.link l).holding)
      (fun _ _ hm hu => ⟨(hm.queues l).1.trans hu.1, (hm.queues l).2.trans hu.2⟩) ⟨rfl, rfl⟩
  obtain rfl : (s.event fun u => u.clearLost l).removeHead l .lost = t := by
    refine Host.Outcome.next.inj (Eq.trans ?_ hexec)
    exact (congrArg Host.Outcome.next (if_pos hhead)).symm
  have hsettled : TxKept (s.clearLost l) (s.event fun u => u.clearLost l) l := txKept_settle _ s l
  generalize s.clearLost l = x at hqueues hsettled
  generalize s.event (fun u => u.clearLost l) = y at hsettled
  have hrx : (y.link l).rx = (s.link l).rx := by rw [hsettled]; exact hqueues.1
  have hholding : (y.link l).holding = (s.link l).holding := by rw [hsettled]; exact hqueues.2
  rw [removeHead_of_head (by rw [hrx]; exact hhead), setLink_link_self]
  unfold LinkUnit.dropHead
  rw [hrx, hholding]
  cases (s.link l).holding <;> rfl

section
variable {s : State} {n : CallNo} {l : LinkId}

/-- The clearing of a lost link ends its lowest call, and that one alone where no other has a party there. -/
theorem ends_clearLost (hactive : (s.call n).state ≠ .idle) (hon : (s.call n).On l) (hbefore : ∀ m, m < n → ¬ (s.call m).On l) :
    Ends s (·.clearLost l) n .linkLost 0x00#8 ((s.call n).clearingOut .linkLost)
      ((∀ m, n < m → ¬ (s.call m).On l) ∧ s.WaitsAlone n ∧ s.StandsNowhere n) where
  onCalls x _ := onCalls_clearLost x l
  cleared x hx := by
    have hcall := fun m => hx.call m
    have h := clearedWith_clearLost_first (s := x) (l := l) (n := n) (by rw [hcall]; exact hactive) (by rw [hcall]; exact hon)
      fun m hm => by rw [hcall]; exact hbefore m hm
    exact ⟨by rw [h.1, hcall], h.2⟩
  gives := by
    rintro ⟨hafter, halone, hnowhere⟩ b
    have hquiet := noneWaits_of halone hnowhere
    have hgiven := fun t => goneCall_givenUp (s := s) (t := t) (n := n) .linkLost hquiet
    refine ⟨s.goneCall n .linkLost, does_clearLost (does_clear plain_full .linkLost hquiet hactive halone.2.2.2) hon hbefore ?_, ?_,
      hgiven⟩
    · intro m hm
      rw [(hgiven _ rfl).others m hm.ne']
      exact hafter m hm
    · rw [goneCall_attention, BitVec.or_zero]

theorem station_of_panel {x : Party} {p : Fin 4} (h : x.link = .panel p) : Party.isStation x = true := by
  cases x with
  | station => rfl
  | handset => exact nomatch h
  | position => exact nomatch h

theorem lostMarker_wakes {t : State} {p : Fin 4} (hhead : (s.link (.panel p)).rx.head? = some .lost) (hactive : (s.call n).state ≠ .idle)
    (hon : (s.call n).On (.panel p)) (hbefore : ∀ m, m < n → ¬ (s.call m).On (.panel p))
    (hafter : ∀ m, n < m → ¬ (s.call m).On (.panel p)) (hexec : exec (.lostMarker (.panel p)) s = .next t) :
    WakesTheNext s t n .linkLost (fun k => if k = .panel p then (s.link (.panel p)).dropHead else s.link k) [] := by
  refine wakesTheNext_of hactive fun u out hdoes hpending hstations hroom => ?_
  have hoff : ∀ m, n < m → ¬ (u.call m).On (.panel p) := by
    rintro m hm ⟨x, hx, hl⟩
    exact hafter m hm ⟨x, hstations m hm.ne' x hx (station_of_panel hl), hl⟩
  have hanswers := (runs_lost hhead).answers (fun hr L hL => (does_clearLost hdoes hon hbefore hoff).apply hr L hL)
    (noticeOf_of_kept hpending)
  rw [List.append_nil] at hanswers
  obtain ⟨t', hexec', hframe, hlinks⟩ := hanswers hroom
  obtain rfl := Host.Outcome.next.inj (hexec.symm.trans hexec')
  exact ⟨hframe, hlinks⟩

theorem lostMarker_clears (hhead : (s.link l).rx.head? = some .lost) (hactive : (s.call n).state ≠ .idle) (hon : (s.call n).On l)
    (hbefore : ∀ m, m < n → ¬ (s.call m).On l) :
    ∃ t, exec (.lostMarker l) s = .next t ∧ ClearedWith s t n .linkLost ∧ (t.link l).rx = (s.link l).dropHead.rx ∧
      KeepsToCalls s t none ∧
      ((∀ m, n < m → ¬ (s.call m).On l) →
        ClearsAlone s t n .linkLost (fun k => if k = l then (s.link l).dropHead else s.link k) [] ∧
        ∀ p, l = .panel p →
          WakesTheNext s t n .linkLost (fun k => if k = l then (s.link l).dropHead else s.link k) []) ∧
      (IdleRecordsBlank s → PlacesMatch s → EngagementsMatch s → MarkersFirst s →
        (∀ m, ¬ (t.call m).On l) ∧
        ∀ m, (s.call m).On l →
          (t.call m).state = .idle ∧
          ((s.call m).state = .dialling ∨ (s.call m).state = .alerting ∨ (s.call m).state = .talking →
            ClearedWith s t m .linkLost)) := by
  obtain ⟨t, L, hexec, hcleared, hleaves, hgives⟩ := (runs_lost hhead).ends rfl (ends_clearLost hactive hon hbefore) (fun _ _ => rfl)
    (notice := []) (by rw [BitVec.or_zero]; exact noticeOf_self s)
  refine ⟨t, hexec, hcleared, rx_of_lostMarker hhead hexec, hleaves.keeps, fun hafter => ⟨fun halone hnowhere hroom => ?_, ?_⟩, ?_⟩
  · rw [BitVec.or_zero] at hgives
    exact hgives ⟨hafter, halone, hnowhere⟩ hroom
  · rintro p rfl
    exact lostMarker_wakes hhead hactive hon hbefore hafter hexec
  · intro hblank hplaces hengaged hmarkers
    have hsilent : (s.relinked L).Silent l := ⟨(silent_of_marker hhead hengaged hmarkers).handsets,
      (silent_of_marker hhead hengaged hmarkers).positions⟩
    have hplaces' : PlacesMatch (s.relinked L) := ⟨hplaces.seeking, hplaces.queued, hplaces.camped, hplaces.oneQueue,
      hplaces.oneList, hplaces.once, hplaces.targets⟩
    have hengaged' : EngagementsMatch (s.relinked L) := ⟨hengaged.engaged, hengaged.roles, hengaged.idleOrder, hengaged.exclusive⟩
    have hoff := clearLost_off (s := s.relinked L) (l := l) hblank hsilent
    have hall := clearLost_all (s := s.relinked L) (l := l) hblank hplaces' hengaged' hsilent
    have hframe := hleaves.frame
    change t = { (s.relinked L).clearLost l with links := t.links, attention := t.attention } at hframe
    generalize (s.relinked L).clearLost l = x at hoff hall hframe
    have hcall : ∀ m, t.call m = x.call m := fun m => by rw [hframe]; rfl
    refine ⟨fun m => by rw [hcall]; exact hoff m, fun m hm => ?_⟩
    obtain ⟨hidle, hlost⟩ := hall m hm
    exact ⟨by rw [hcall]; exact hidle, fun h => (hlost h).of_frame hframe⟩

end

/-- Settles O39: each command comes to the clearing of its call; the LOST marker clears in number order those it finds. -/
theorem clearingCommandsClear : Obligations.ClearingCommandsClear := by
  refine ⟨fun s l number more horigin hdel => callClear_refused horigin hdel, fun s n hactive => ⟨?_, ?_, ?_, ?_, ?_⟩⟩
  · exact fun p st hexists hst ho hdel => keyCancel_clears hactive hexists hst ho hdel
  · intro y x hy _ hdel
    refine ⟨fun hrole => ?_, fun hrole hjoined => ?_⟩
    · obtain ⟨t, hexec, hcleared, hkeeps, halone⟩ := hangup_clears hactive hy hdel
        fun z _ hz => hangsUp_of_origin hy (hz.trans hrole)
      exact ⟨t, hexec, hcleared, hkeeps, fun hheard => (halone hheard).1⟩
    · exact hangup_clears hactive hy hdel fun z hcall hz => hangsUp_of_answerer hy (hz.trans hrole) (by rw [hcall]; exact hjoined)
  · exact fun x g hstate htalk hgrace => timeLimit_clears hstate htalk hgrace
  · exact fun l more horigin hdel => callClear_clears hactive horigin hdel
  · intro l hhead hon hbefore
    simp only [← not_on] at hbefore ⊢
    exact lostMarker_clears hhead hactive hon hbefore

end Sys2Proof.Machine
end
